-- ==== Sys2Proof/Word.lean ====
section
/-!
DEFINITION. The word types of the PL5120 model.

Registers are 32 bits wide (R13); bytes are the unit of every memory (R11).
-/
namespace Sys2Proof

/-- A register word, 32 bits (R13). -/
abbrev Word := BitVec 32

/-- A byte of a memory or of a host structure (R11). -/
abbrev Byte := BitVec 8

end Sys2Proof
end

