-- ==== Sys2Proof/Syntax.lean ====
section
/-!
DEFINITION. The commands of the block: one constructor per row of the table of operations and events.

A command is a register access, an operation of a link or protocol, or an event at a ball or inside the part.
What comes from outside the block (host memory read by a descriptor, received flits, converter readings, temperatures,
verdicts of a cryptographic check) is an operand.
-/
namespace Sys2Proof

/-- A requester path (R429): a PCIe function, the management SPI, or Causeway remote access. -/
inductive Path
  /-- Function PF0. -/
  | pf0
  /-- Function VF(k + 1), partition k. -/
  | vf (k : Fin 4)
  /-- The management SPI. -/
  | spi
  /-- Causeway remote access. -/
  | causeway
  deriving DecidableEq, Repr

/-- A boot candidate as SEC reads it (R387, R388): the bytes outside, and the verdicts of the cryptographic checks. -/
structure BootImage where
  /-- The source delivers data. -/
  delivered : Bool
  /-- The 256 header bytes. -/
  header : List (BitVec 8)
  /-- SHA-384 of PUB_X followed by PUB_Y. -/
  digest : BitVec 384
  /-- The ECDSA signature is valid. -/
  sigOk : Bool
  /-- The GCM tag is valid. -/
  tagOk : Bool
  /-- The plaintext. -/
  plain : List (BitVec 8)
  deriving DecidableEq, Repr

/-- An error that a scrub finds in a control store (R398, R399). -/
structure CsError where
  unit : Fin 11
  word : Nat
  /-- A double-bit error. -/
  double : Bool
  deriving DecidableEq, Repr

/-- A Crinak time flit: its payload as R302 lays it out. -/
structure TimeFlit where
  tseq : BitVec 16
  tTx : BitVec 80
  echoSeq : BitVec 16
  tRxEcho : BitVec 80
  hops : BitVec 6
  quality : BitVec 2
  rootId : BitVec 14
  hold : Bool
  deriving DecidableEq, Repr

/-- Operand b of layout R (R212): a register, or the immediate of format DI (R220). -/
inductive Src
  | reg (b : Fin 32)
  | imm (w : Word)
  deriving DecidableEq, Repr

/-- The source of MOV: a register ID, or the immediate of format DI. -/
inductive MovSrc
  | id (r : Fin 128)
  | imm (w : Word)
  deriving DecidableEq, Repr

/-- The address mode AM of layout M (R221), with BR where it is given (R224). -/
inductive AddrMode
  | ind
  | postm (br : Bool)
  | offs (imm : BitVec 8)
  | posti (imm : BitVec 8)
  deriving DecidableEq, Repr

/-- The register and offset of a T-slot command (R206): format DT with gs and 16 bits, or TL with g(24 + gx) and 48 bits. -/
inductive TArg
  | short (gs : Fin 32) (off : BitVec 16)
  | long (gx : Fin 8) (off : BitVec 48)
  deriving DecidableEq, Repr

/-- The offset of WAIT and SYNC. -/
inductive TOff
  | short (off : BitVec 16)
  | long (off : BitVec 48)
  deriving DecidableEq, Repr

/-- The condition of a control-flow operation (R227), with the register GA. -/
structure Cond where
  cond : Fin 16
  ga : Fin 32
  deriving DecidableEq, Repr

/-- A host write to the MSI-X masks and enables of a function (R356): a table entry by its vector index, a function mask, or
MSI-X Enable. Functions are PF0 and VF1–VF4. -/
inductive MsixWrite
  | entry (ix : Fin 320) (masked : Bool)
  | function (f : Fin 5) (masked : Bool)
  | enable (f : Fin 5) (on : Bool)
  deriving DecidableEq, Repr

/-- The header fields of a received routed flit besides CL and KIND (R291). -/
structure Hdr where
  dest : BitVec 14
  src : BitVec 14
  seq : BitVec 10
  loc : Bool
  eop : Bool
  vc : Bool
  deriving DecidableEq, Repr

/-- A received LINK flit (R303); `cred` holds the six counts, count 0 lowest. -/
structure LinkFlit where
  ack : BitVec 10
  ackValid : Bool
  nak : Bool
  cred : BitVec 48
  deriving DecidableEq, Repr

/-- An access through the debug window (R452). -/
inductive WindowAccess
  | read (size : Nat)
  | write (bytes : List (BitVec 8))
  deriving DecidableEq, Repr

/-- A command. -/
inductive Instr
  -- fabric time
  /-- TM_ENABLE (R63): a write of TM_CTRL with ENABLE = 1; `v` gives the other fields. -/
  | tmEnable (p : Path) (v : Word)
  /-- TM_DISABLE (R42): a write of TM_CTRL with ENABLE = 0. -/
  | tmDisable (p : Path)
  /-- PARENT_PORT_WRITE (R53). -/
  | parentPortWrite (p : Path) (port : Fin 8)
  /-- ASYM_ACK (R43). -/
  | asymAck (p : Path)
  /-- ASYM_WRITE (R54): entry i of port q takes v. -/
  | asymWrite (p : Path) (q : Fin 8) (i : Fin 16) (v : Word)
  /-- TIME_FLIT_DUE (R302): the transmit stamps of the ports, in port order. -/
  | timeFlitDue (stamps : Vector (BitVec 80) 8)
  /-- TIME (R46): a TIME flit received on a port, with the device's own receive stamp. -/
  | time (q : Fin 8) (f : TimeFlit) (rx : BitVec 80)
  /-- LOSS_TIMEOUT (R48). -/
  | lossTimeout
  /-- REF_LOST (R41). -/
  | refLost
  /-- REF_RELOCK (R41). -/
  | refRelock
  /-- PPS_EDGE (R58): a falling or rising edge at PPS_IN, with its fabric time at the ball. -/
  | ppsEdge (falling : Bool) (stamp : BitVec 80)
  /-- PPS_READ (R59): a read of TM_PPS_L, _M or _H (word 0, 1 or 2). -/
  | ppsRead (p : Path) (word : Fin 3)
  /-- TPO_ENABLE (R60): a write of TM_TPOn_CTRL with EN = 1; `v` gives POL. -/
  | tpoEnable (p : Path) (n : Fin 8) (v : Word)
  /-- TPO_DISABLE (R61). -/
  | tpoDisable (p : Path) (n : Fin 8)
  /-- TPO_PULSE (R60). -/
  | tpoPulse (n : Fin 8)
  -- Reed cores: D-slot (R213). `c` is the global core number 4n + i.
  /-- NOP. -/
  | nop (c : Fin 64)
  /-- ADD: d = a op b. -/
  | add (c : Fin 64) (d a : Fin 32) (b : Src)
  /-- SUB: d = a op b. -/
  | sub (c : Fin 64) (d a : Fin 32) (b : Src)
  /-- ADDS: d = a op b. -/
  | adds (c : Fin 64) (d a : Fin 32) (b : Src)
  /-- SUBS: d = a op b. -/
  | subs (c : Fin 64) (d a : Fin 32) (b : Src)
  /-- AND: d = a op b. -/
  | and (c : Fin 64) (d a : Fin 32) (b : Src)
  /-- OR: d = a op b. -/
  | or (c : Fin 64) (d a : Fin 32) (b : Src)
  /-- XOR: d = a op b. -/
  | xor (c : Fin 64) (d a : Fin 32) (b : Src)
  /-- SHL: d = a op b. -/
  | shl (c : Fin 64) (d a : Fin 32) (b : Src)
  /-- SHR: d = a op b. -/
  | shr (c : Fin 64) (d a : Fin 32) (b : Src)
  /-- SAR: d = a op b. -/
  | sar (c : Fin 64) (d a : Fin 32) (b : Src)
  /-- MIN: d = a op b. -/
  | min (c : Fin 64) (d a : Fin 32) (b : Src)
  /-- MAX: d = a op b. -/
  | max (c : Fin 64) (d a : Fin 32) (b : Src)
  /-- CMP. -/
  | cmp (c : Fin 64) (a : Fin 32) (b : Src)
  /-- MUL. -/
  | mul (c : Fin 64) (d a : Fin 32) (b : Src)
  /-- ADDI. -/
  | addi (c : Fin 64) (d a : Fin 32) (imm : BitVec 14)
  /-- SHLI. -/
  | shli (c : Fin 64) (d a : Fin 32) (imm : BitVec 14)
  /-- SHRI. -/
  | shri (c : Fin 64) (d a : Fin 32) (imm : BitVec 14)
  /-- SARI. -/
  | sari (c : Fin 64) (d a : Fin 32) (imm : BitVec 14)
  /-- CMPI. -/
  | cmpi (c : Fin 64) (a : Fin 32) (imm : BitVec 14)
  /-- ANDI. -/
  | andi (c : Fin 64) (d a : Fin 32) (imm : BitVec 14)
  /-- MOV. -/
  | mov (c : Fin 64) (dst : Fin 128) (src : MovSrc)
  /-- MODP. -/
  | modp (c : Fin 64) (pd mx : Fin 8)
  /-- EXP; `x` is X: packed complex. -/
  | exp (c : Fin 64) (d a : Fin 32) (x : Bool)
  /-- NORM. -/
  | norm (c : Fin 64) (d a : Fin 32) (x : Bool)
  /-- SHC. -/
  | shc (c : Fin 64) (d a b : Fin 32)
  /-- LD.W. -/
  | ldW (c : Fin 64) (g : Fin 32) (p : Fin 8) (am : AddrMode)
  /-- LD.H. -/
  | ldH (c : Fin 64) (g : Fin 32) (p : Fin 8) (am : AddrMode)
  /-- LD.HU. -/
  | ldHu (c : Fin 64) (g : Fin 32) (p : Fin 8) (am : AddrMode)
  /-- ST.W. -/
  | stW (c : Fin 64) (g : Fin 32) (p : Fin 8) (am : AddrMode)
  /-- ST.H. -/
  | stH (c : Fin 64) (g : Fin 32) (p : Fin 8) (am : AddrMode)
  /-- LD2; `ma` and `mb` are MA and MB. -/
  | ld2 (c : Fin 64) (g1 g2 : Fin 32) (pa pb : Fin 8) (ma mb : Bool)
  /-- LDST; `ma` and `mb` are MA and MB. -/
  | ldst (c : Fin 64) (g1 g2 : Fin 32) (pa pb : Fin 8) (ma mb : Bool)
  /-- RDDEC. -/
  | rddec (c : Fin 64) (d a : Fin 32) (imm : BitVec 10)
  /-- RDFT; `h` is H. -/
  | rdft (c : Fin 64) (d : Fin 32) (h : Bool)
  /-- CMAC. -/
  | cmac (c : Fin 64) (cd : Fin 8) (a b : Fin 32)
  /-- CMACJ. -/
  | cmacj (c : Fin 64) (cd : Fin 8) (a b : Fin 32)
  /-- CMUL. -/
  | cmul (c : Fin 64) (cd : Fin 8) (a b : Fin 32)
  /-- CMULJ. -/
  | cmulj (c : Fin 64) (cd : Fin 8) (a b : Fin 32)
  /-- CMSU. -/
  | cmsu (c : Fin 64) (cd : Fin 8) (a b : Fin 32)
  /-- CRND. -/
  | crnd (c : Fin 64) (g : Fin 32) (cs : Fin 8) (sh : Fin 32)
  /-- CGET. -/
  | cget (c : Fin 64) (g : Fin 32) (cs : Fin 8) (part : Fin 4)
  /-- CPUT. -/
  | cput (c : Fin 64) (g : Fin 32) (cs : Fin 8) (part : Fin 4)
  /-- CCLR. -/
  | cclr (c : Fin 64) (cd : Fin 8)
  /-- CADD. -/
  | cadd (c : Fin 64) (cd a b : Fin 8)
  /-- BFLY; `sc` is SC. -/
  | bfly (c : Fin 64) (d a b t : Fin 32) (sc : Fin 4)
  /-- BSTG. -/
  | bstg (c : Fin 64)
  /-- ILLEGAL_BUNDLE (R205). -/
  | illegalBundle (c : Fin 64)
  -- Reed cores: control flow (R228)
  /-- BR. -/
  | br (c : Fin 64) (k : Cond) (tgt : Fin 16384)
  /-- BRR: the target is in g[GA]. -/
  | brr (c : Fin 64) (k : Cond)
  /-- CALL. -/
  | call (c : Fin 64) (k : Cond) (tgt : Fin 16384)
  /-- CALLR. -/
  | callr (c : Fin 64) (k : Cond)
  /-- RET. -/
  | ret (c : Fin 64) (k : Cond)
  /-- LOOP: level, count from IMM16 or g[GA], and the end. -/
  | loop (c : Fin 64) (lv : Fin 4) (count : BitVec 16 ⊕ Fin 32) (tgt : Fin 16384)
  /-- BRK. -/
  | brk (c : Fin 64) (lv : Fin 4) (k : Cond) (tgt : Fin 16384)
  /-- RETI. -/
  | reti (c : Fin 64)
  /-- HALT. -/
  | halt (c : Fin 64)
  /-- SWI. -/
  | swi (c : Fin 64)
  /-- IEN: the level mask and RC. -/
  | ien (c : Fin 64) (mask : Fin 4) (rc : Bool)
  -- Reed cores: T-slot (R208)
  /-- TNOP; `long` in format TL. -/
  | tnop (c : Fin 64) (long : Bool)
  /-- PLAY; `tgt` is TGT. -/
  | play (c : Fin 64) (tgt : Fin 128) (x : TArg)
  /-- CPLAY; `tgt` is TGT. -/
  | cplay (c : Fin 64) (tgt : Fin 128) (x : TArg)
  /-- FRAME; `tgt` is TGT. -/
  | frame (c : Fin 64) (tgt : Fin 128) (x : TArg)
  /-- FRAMEA; `tgt` is TGT. -/
  | framea (c : Fin 64) (tgt : Fin 128) (x : TArg)
  /-- FREQ; `tgt` is TGT. -/
  | freq (c : Fin 64) (tgt : Fin 128) (x : TArg)
  /-- FREQP; `tgt` is TGT. -/
  | freqp (c : Fin 64) (tgt : Fin 128) (x : TArg)
  /-- AMP; `tgt` is TGT. -/
  | amp (c : Fin 64) (tgt : Fin 128) (x : TArg)
  /-- WIN; `tgt` is TGT. -/
  | win (c : Fin 64) (tgt : Fin 128) (x : TArg)
  /-- MARK; `tgt` is TGT. -/
  | mark (c : Fin 64) (tgt : Fin 128) (x : TArg)
  /-- JUMP; `tgt` is TGT. -/
  | jump (c : Fin 64) (tgt : Fin 128) (x : TArg)
  /-- TRIG; `tgt` is TGT. -/
  | trig (c : Fin 64) (tgt : Fin 128) (x : TArg)
  /-- WAIT. -/
  | wait (c : Fin 64) (o : TOff)
  /-- SYNC. -/
  | sync (c : Fin 64) (o : TOff)
  /-- FENCE; `long` in format TL. -/
  | fence (c : Fin 64) (long : Bool)
  -- Reed cores: events
  /-- FENCE_RELEASE (R211). -/
  | fenceRelease (c : Fin 64)
  /-- COMMAND_DELIVERY (R179): the head of the core's timed queue. -/
  | commandDelivery (c : Fin 64)
  /-- COMMAND_COMMIT (R180): of an armed buffer of Pool n; TGT of R207, 0x60 + k for the window engine of tone k. -/
  | commandCommit (n : Fin 16) (tgt : Fin 128)
  /-- INTERRUPT_ENTRY (R190). -/
  | interruptEntry (c : Fin 64)
  /-- MAILBOX (R188). -/
  | mailbox (p : Path) (c : Fin 64) (v : Word)
  /-- CORE_TIMER (R188). -/
  | coreTimer (c : Fin 64)
  /-- CORE_STEP (R199): a write of STEP with DBG_HALT written as 1. -/
  | coreStep (p : Path) (c : Fin 64)
  /-- IRQ (R188): the Fen task IRQj of the core. -/
  | irq (c : Fin 64) (j : Fin 4)
  -- Fen
  /-- FEN_EVENT (R264): an event of a source reaches the channels. -/
  | fenEvent (x : Fin 1024)
  /-- REARM_END (R264). -/
  | rearmEnd (c : Fin 256)
  /-- LOOP_INTERVAL (R272). -/
  | loopInterval (c : Fin 256)
  /-- FEN_CHANNEL_ENABLE (R271): a write of FEN_CH_c with EN = 1; `v` gives the other fields. -/
  | fenChannelEnable (p : Path) (c : Fin 256) (v : Word)
  /-- FEN_TASK_INPUT_ENABLE (R270): a write of FEN_TI_i with EN = 1. -/
  | fenTaskInputEnable (p : Path) (i : Fin 1024) (v : Word)
  /-- FEN_COUNTER_CONFIG (R269). -/
  | fenCounterConfig (p : Path) (j : Fin 16) (v : Word)
  /-- SWEV (R262): bit k of FEN_SWEV. -/
  | swev (p : Path) (k : Fin 16)
  /-- RELAY (R263). -/
  | relay (r : Fin 32)
  -- host interrupt controller
  /-- IC_ENABLE (R359): a write of IC_CFG with ENABLE = 1; `v` gives MODE. -/
  | icEnable (p : Path) (v : Word)
  /-- IC_DISABLE (R359): a write of IC_CFG with ENABLE = 0. -/
  | icDisable (p : Path) (v : Word)
  /-- IC_EOI (R354). -/
  | icEoi (p : Path) (v : Word)
  /-- IC_PEND_WRITE (R357). -/
  | icPendWrite (p : Path) (w : Fin 16) (v : Word)
  /-- IC_MASK_SET (R358). -/
  | icMaskSet (p : Path) (w : Fin 16) (v : Word)
  /-- IC_MASK_CLR (R358). -/
  | icMaskClr (p : Path) (w : Fin 16) (v : Word)
  /-- IC_GATE (R358). -/
  | icGate (p : Path) (v : Word)
  /-- HOLDOFF_EXPIRY (R353). -/
  | holdoffExpiry (g : Fin 32)
  /-- MSIX_UNMASK (R356). -/
  | msixUnmask (m : MsixWrite)
  /-- IC_FEN (R349). -/
  | icFen (k : Fin 16)
  -- Sluice
  /-- SLU_ENABLE (R384). -/
  | sluEnable (p : Path)
  /-- SLU_DISABLE (R371). -/
  | sluDisable (p : Path)
  /-- SLU_CHANNEL_ENABLE (R367): a write of SLU_CHc_CFG with EN = 1; `v` gives FAULT_STEP. -/
  | sluChannelEnable (p : Path) (c : Fin 256) (v : Word)
  /-- SLU_CHANNEL_DISABLE (R371): a write with EN = 0. -/
  | sluChannelDisable (p : Path) (c : Fin 256) (v : Word)
  /-- SLU_CLR_COUNT (R384). -/
  | sluClrCount (p : Path)
  /-- STROBE (R363). -/
  | strobe (p : Path) (g : Fin 16)
  /-- SLU_LOAD (R364). -/
  | sluLoad (g : Fin 16)
  /-- CLOSING_END (R367). -/
  | closingEnd (c : Fin 256)
  /-- SLEW_STEP (R365). -/
  | slewStep (c : Fin 256)
  /-- RANGE_REQUEST (R368): NEW of the request. -/
  | rangeRequest (p : Path) (c : Fin 256) (new : Fin 4)
  /-- RANGING_STEP (R368): the next timed stage of the sequence. -/
  | rangingStep (c : Fin 256)
  /-- ZEROING_STEP (R369). -/
  | zeroingStep (c : Fin 256)
  /-- CHANNEL_FAULT_CLEAR (R369). -/
  | channelFaultClear (p : Path) (c : Fin 256)
  /-- COMPLIANCE_FAULT (R381). -/
  | complianceFault (c : Fin 256)
  /-- REFERENCE_FAULT (R381): of an analogue group. -/
  | referenceFault (a : Fin 4)
  -- Dipwell
  /-- DPW_ENABLE (R385). -/
  | dpwEnable (p : Path)
  /-- DPW_CLR_COUNT (R385). -/
  | dpwClrCount (p : Path)
  /-- CONVERSION_SLOT (R375): what the two converters read in the slot. -/
  | conversionSlot (d0 d1 : BitVec 16)
  /-- SCAN_TRIGGER (R376). -/
  | scanTrigger (c : Fin 2)
  /-- DPW_CONV (R377): the Fen task. -/
  | dpwConv (c : Fin 2)
  /-- DELAYED_CONVERSION_START (R377). -/
  | delayedConversionStart (c : Fin 2)
  /-- INJECTED_CONVERSION (R378). -/
  | injectedConversion (p : Path) (c : Fin 2) (input : BitVec 9)
  /-- DPW_CAL_START (R379). -/
  | dpwCalStart (p : Path) (c : Fin 2)
  /-- DPW_CAL_DONE (R379). -/
  | dpwCalDone (c : Fin 2)
  /-- XCHK_DUE (R382). -/
  | xchkDue
  /-- ACC_SUM_READ (R374). -/
  | accSumRead (p : Path) (i : Fin 320)
  /-- DPW_ACC_CLR (R374). -/
  | dpwAccClr (p : Path) (i : Fin 320)
  -- drive synthesis
  /-- DRV_ENABLE (R71). -/
  | drvEnable (p : Path) (n : Fin 16)
  /-- DRV_DISABLE (R94). -/
  | drvDisable (p : Path) (n : Fin 16)
  /-- DRV_CLR_COUNT (R94). -/
  | drvClrCount (p : Path) (n : Fin 16)
  /-- SEGMENT_COMMIT (R77): a write of word 7 of segment entry e. -/
  | segmentCommit (p : Path) (n : Fin 16) (e : Fin 4096)
  /-- STREAM_BUFFER_ENABLE (R87): a write of PEAT_SBb_CTRL with EN = 1; `v` gives POLICY. -/
  | streamBufferEnable (p : Path) (n b : Fin 16) (v : Word)
  /-- STREAM_BUFFER_DISABLE (R87): a write of PEAT_SBb_CTRL with EN = 0. -/
  | streamBufferDisable (p : Path) (n b : Fin 16) (v : Word)
  /-- PASS_END (R78): of engine e: drive tones 0–31, read-out transmit tones 32–63, flux channels 64–71. -/
  | passEnd (n : Fin 16) (e : Fin 72)
  /-- JUMP_COMMIT_POINT (R82). -/
  | jumpCommitPoint (n : Fin 16) (k : Fin 32)
  /-- STREAM_SAMPLE_READ (R86): by engine e. -/
  | streamSampleRead (n : Fin 16) (e : Fin 72)
  /-- JUMP_REQ (R82): the Fen task of drive tone k. -/
  | jumpReq (n : Fin 16) (k : Fin 32)
  /-- MARK_PULSE (R91): the Fen task of marker m. -/
  | markPulse (n : Fin 16) (m : Fin 4)
  /-- TRIG_IN_EDGE (R93). -/
  | trigInEdge (n : Fin 16)
  -- flux channels
  /-- FLX_ENABLE (R114). -/
  | flxEnable (p : Path) (n : Fin 16)
  /-- FLX_DISABLE (R114). -/
  | flxDisable (p : Path) (n : Fin 16)
  /-- FLX_CLR_COUNT (R114). -/
  | flxClrCount (p : Path) (n : Fin 16)
  -- read-out and discrimination
  /-- RO_ENABLE (R143). -/
  | roEnable (p : Path) (n : Fin 16)
  /-- RO_DISABLE (R143). -/
  | roDisable (p : Path) (n : Fin 16)
  /-- RO_CLR_COUNT (R143). -/
  | roClrCount (p : Path) (n : Fin 16)
  /-- WINDOW_OPEN (R122). -/
  | windowOpen (n : Fin 16) (k : Fin 32)
  /-- WINDOW_END (R129): with the demodulated samples of the window not delivered before, oldest first. -/
  | windowEnd (n : Fin 16) (k : Fin 32) (xs : List (BitVec 18 × BitVec 18))
  /-- SEQUENTIAL_DECISION (R149): with the demodulated samples up to it. -/
  | sequentialDecision (n : Fin 16) (k : Fin 32) (xs : List (BitVec 18 × BitVec 18))
  /-- EARLY_CLOSE_RAMP (R152). -/
  | earlyCloseRamp (n : Fin 16) (k : Fin 32)
  /-- WINDOW_START (R126). -/
  | windowStart (n : Fin 16) (k : Fin 32)
  /-- SWAP_STEP (R136). -/
  | swapStep (n : Fin 16) (l : Fin 2)
  /-- SWAP_DEFERRAL_TIMEOUT (R137). -/
  | swapDeferralTimeout (n : Fin 16) (l : Fin 2)
  /-- CAL_FREEZE (R138): a write of RO_Ll_CAL_CFG. -/
  | calFreeze (p : Path) (n : Fin 16) (l : Fin 2) (v : Word)
  /-- FREEZE_EXPIRY (R138). -/
  | freezeExpiry (n : Fin 16) (l : Fin 2)
  /-- FGCAL_START (R139). -/
  | fgcalStart (p : Path) (n : Fin 16) (l : Fin 2)
  /-- FGCAL_BEGIN (R139). -/
  | fgcalBegin (n : Fin 16) (l : Fin 2)
  /-- FGCAL_DONE (R139). -/
  | fgcalDone (n : Fin 16) (l : Fin 2)
  /-- ACC_CLR (R134). -/
  | accClr (p : Path) (n : Fin 16) (k : Fin 32)
  /-- HIST_CLR (R157). -/
  | histClr (p : Path) (n : Fin 16) (k : Fin 32)
  /-- ADC_OVER_RANGE (R118). -/
  | adcOverRange (n : Fin 16) (l : Fin 2)
  -- Sedge
  /-- SDG_ENABLE (R258). -/
  | sdgEnable (p : Path)
  /-- START (R259). -/
  | start (p : Path)
  /-- SESSION_BEGIN (R259). -/
  | sessionBegin
  /-- FLUSH (R249). -/
  | flush (p : Path)
  /-- STOP (R251). -/
  | stop (p : Path)
  /-- FRAME_CLR (R255). -/
  | frameClr (p : Path)
  /-- UNTRUSTED_CLEAR (R251). -/
  | untrustedClear (p : Path)
  /-- ROUND_CLOSE (R235). -/
  | roundClose
  /-- BOUNDARY_TIMEOUT (R242): neighbour k, round r. -/
  | boundaryTimeout (k : Fin 6) (r : Word)
  /-- COMMIT (R246). -/
  | commit
  /-- HELLO_DUE (R252). -/
  | helloDue
  -- Decision Network
  /-- DN_ENABLE (R280). -/
  | dnEnable (p : Path)
  /-- IMP_CLR (R278). -/
  | impClr (p : Path)
  -- Causeway
  /-- CW_ENABLE (R316). -/
  | cwEnable (p : Path)
  /-- PORT_ENABLE (R316): a write of CW_Pp_CTRL with ENABLE = 1; `v` gives LOOPBACK. -/
  | portEnable (p : Path) (q : Fin 8) (v : Word)
  /-- PORT_DISABLE (R315): a write of CW_Pp_CTRL with ENABLE = 0. -/
  | portDisable (p : Path) (q : Fin 8) (v : Word)
  /-- PORT_RESET (R315). -/
  | portReset (p : Path) (q : Fin 8)
  /-- RETRAIN (R290). -/
  | retrain (p : Path) (q : Fin 8)
  /-- TS_WORD (R287): a TS word received on port q; `ready`: every usable lane has deskewed. -/
  | tsWord (q : Fin 8) (w : BitVec 64) (ready : Bool)
  /-- TRAIN_TIMEOUT (R286). -/
  | trainTimeout (q : Fin 8)
  /-- TRAIN_RETRY (R286). -/
  | trainRetry (q : Fin 8)
  /-- LANE_LOSS (R284): a logical lane of port q. -/
  | laneLoss (q : Fin 8) (lane : Fin 4)
  /-- PORT_DOWN (R290). -/
  | portDown (q : Fin 8)
  /-- ALIGN_DUE (R284): at port q. -/
  | alignDue (q : Fin 8)
  /-- POLICER_TOKEN (R296). -/
  | policerToken (q : Fin 8)
  /-- DECISION_FLIT_SEND (R298). -/
  | decisionFlitSend (q : Fin 8)
  /-- DECISION (R299): a DECISION flit received. -/
  | decision (q : Fin 8) (h : Hdr) (payload : BitVec 192)
  /-- SEAM_EVENTS (R253): a Sedge message of type 1 received; `rest` is its payload after TYPE. -/
  | seamEvents (q : Fin 8) (h : Hdr) (rest : BitVec 188)
  /-- SEAM_COMMIT (R253): a Sedge message of type 2 received. -/
  | seamCommit (q : Fin 8) (h : Hdr) (rest : BitVec 188)
  /-- ROUND_STATUS (R254): a Sedge message of type 3 received. -/
  | roundStatus (q : Fin 8) (h : Hdr) (rest : BitVec 188)
  /-- HELLO (R253): a Sedge message of type 4 received. -/
  | hello (q : Fin 8) (h : Hdr) (rest : BitVec 188)
  /-- FLIT_CRC_FAIL (R294). -/
  | flitCrcFail (q : Fin 8)
  /-- BAD_KIND (R292): a flit of a reserved class or kind received. -/
  | badKind (q : Fin 8) (cl : BitVec 3) (kind : BitVec 4)
  /-- LINK (R305): a LINK flit received. -/
  | link (q : Fin 8) (l : LinkFlit)
  /-- LINK_DUE (R303). -/
  | linkDue (q : Fin 8)
  /-- REPLAY_TIMEOUT (R305). -/
  | replayTimeout (q : Fin 8)
  /-- BEACON (R313): a BEACON flit received. -/
  | beacon (q : Fin 8) (h : Hdr) (payload : BitVec 192)
  /-- BEACON_DUE (R313). -/
  | beaconDue
  /-- BEACON_TIMEOUT (R313). -/
  | beaconTimeout (q : Fin 8)
  /-- RDY_CHANGE (R311): the level at the RDY ball. -/
  | rdyChange (level : Bool)
  -- Causeway remote access
  /-- RD_REQ (R306): a RD_REQ flit received. -/
  | rdReq (q : Fin 8) (h : Hdr) (payload : BitVec 192)
  /-- WR_REQ (R306): a WR_REQ flit received. -/
  | wrReq (q : Fin 8) (h : Hdr) (payload : BitVec 192)
  /-- RSP (R306): an RSP flit received. -/
  | rsp (q : Fin 8) (h : Hdr) (payload : BitVec 192)
  /-- BLK_HEAD (R306): a BLK_HEAD flit received. -/
  | blkHead (q : Fin 8) (h : Hdr) (payload : BitVec 192)
  /-- BLK_DATA (R306): a BLK_DATA flit received. -/
  | blkData (q : Fin 8) (h : Hdr) (payload : BitVec 192)
  -- Boardwalk
  /-- DESC_NOP (R333): the descriptor in progress in ring r of partition p; so for the descriptors below. -/
  | descNop (p : Fin 4) (r : Fin 8)
  /-- LOAD_PEAT (R334): with the bytes that the host read delivers; fewer than LEN when it fails. -/
  | loadPeat (p : Fin 4) (r : Fin 8) (data : List (BitVec 8))
  /-- LOAD_PROG (R196): with the bytes that the host read delivers. -/
  | loadProg (p : Fin 4) (r : Fin 8) (data : List (BitVec 8))
  /-- STREAM_APPEND (R85): with the bytes that the host read delivers. -/
  | streamAppend (p : Fin 4) (r : Fin 8) (data : List (BitVec 8))
  /-- STREAM_APPEND_CONTINUE (R85). -/
  | streamAppendContinue (p : Fin 4) (r : Fin 8)
  /-- RESULT_POST (R344). -/
  | resultPost (p : Fin 4) (r : Fin 8)
  /-- DESC_FENCE (R339). -/
  | descFence (p : Fin 4) (r : Fin 8)
  /-- TIME_QUERY (R337). -/
  | timeQuery (p : Fin 4) (r : Fin 8)
  /-- ABORT (R346). -/
  | abort (p : Fin 4) (r : Fin 8)
  /-- LOAD_WEIGHTS (R124): with the bytes that the host read delivers. -/
  | loadWeights (p : Fin 4) (r : Fin 8) (data : List (BitVec 8))
  /-- LOAD_WEIGHTS_APPLY (R124). -/
  | loadWeightsApply (p : Fin 4) (r : Fin 8)
  /-- LOAD_GRAPH (R239): with the bytes that the host read delivers. -/
  | loadGraph (p : Fin 4) (r : Fin 8) (data : List (BitVec 8))
  /-- READ_ACC (R134). -/
  | readAcc (p : Fin 4) (r : Fin 8)
  /-- DOORBELL_POLL (R327): the doorbell block of partition p, none when the host read fails. -/
  | doorbellPoll (p : Fin 4) (block : Option (BitVec 512))
  /-- DESCRIPTOR_FETCH (R329): with the 64 bytes fetched. -/
  | descriptorFetch (p : Fin 4) (r : Fin 8) (d : BitVec 512)
  /-- RESULT_WRITE (R343): the records of the oldest window in the FIFO of Pool n; `ok`: the host write succeeds. -/
  | resultWrite (n : Fin 16) (ok : Bool)
  /-- RUN_TIMEOUT (R346). -/
  | runTimeout (p : Fin 4) (r : Fin 8)
  /-- KICK (R327). -/
  | kick (a : Path) (p : Fin 4)
  /-- PARTITION_ENABLE (R328). -/
  | partitionEnable (a : Path) (p : Fin 4)
  /-- PARTITION_DISABLE (R331). -/
  | partitionDisable (a : Path) (p : Fin 4)
  /-- RING_ENABLE (R328): ring r of partition p, submission or completion; `v` gives the other fields. -/
  | ringEnable (a : Path) (p : Fin 4) (r : Fin 8) (completion : Bool) (v : Word)
  /-- RING_DISABLE (R330): ring r of partition p. -/
  | ringDisable (a : Path) (p : Fin 4) (r : Fin 8) (completion : Bool) (v : Word)
  /-- HOST_RESET (R322): 0 PERST_N, 1 DL_Down, 2 a Function Level Reset of PF0. -/
  | hostReset (kind : Fin 3)
  /-- VF_FLR (R322): of VF(k + 1). -/
  | vfFlr (k : Fin 4)
  -- RUN descriptors
  /-- RUN (R340). -/
  | run (p : Fin 4) (r : Fin 8)
  /-- RUN_READY (R340). -/
  | runReady (p : Fin 4) (r : Fin 8)
  /-- RUN_START (R340). -/
  | runStart (p : Fin 4) (r : Fin 8)
  /-- RUN_COMPLETE (R345). -/
  | runComplete (p : Fin 4) (r : Fin 8)
  -- register accesses
  /-- REGISTER_WRITE (R14): at a BAR0 offset. -/
  | registerWrite (p : Path) (off : BitVec 26) (v : Word)
  /-- LATCHING_READ (R429): at a BAR0 offset. -/
  | latchingRead (p : Path) (off : BitVec 26)
  /-- BAD_ACCESS (R450): `write`: a write. -/
  | badAccess (p : Path) (off : BitVec 26) (write : Bool)
  /-- DEBUG_WINDOW_ACCESS (R452): at an offset from the window base. -/
  | debugWindowAccess (p : Path) (w : BitVec 24) (a : WindowAccess)
  /-- SNAP_REQ (R455): with the mask of named units. -/
  | snapReq (p : Path) (mask : BitVec 24)
  /-- SNAP_CAPTURE (R455). -/
  | snapCapture (p : Path)
  /-- SNAP_RELEASE (R455). -/
  | snapRelease (p : Path)
  /-- PARAM (R334). -/
  | param (p : Fin 4) (r : Fin 8)
  -- management SPI and JTAG
  /-- SPI_WRITE (R405): the command byte, which for an unknown command is neither 0x03 nor 0x05, the offset and the bytes
  after it; `busy`: earlier writes are still being carried out. -/
  | spiWrite (cmd : BitVec 8) (off : Word) (data : List (BitVec 8)) (busy : Bool)
  /-- SPI_READ (R405): of so many words. -/
  | spiRead (off : Word) (words : Nat) (busy : Bool)
  /-- SPI_STATUS (R405): `busy` as in SPI_WRITE. -/
  | spiStatus (busy : Bool)
  /-- BYPASS (R406): with the bits shifted through the bypass register. -/
  | bypass (shifted : List Bool)
  /-- SAMPLE_PRELOAD (R406): with the bits captured at the balls and the bits shifted in. -/
  | samplePreload (captured shifted : List Bool)
  /-- EXTEST (R406): with the bits captured and the bits shifted in. -/
  | extest (captured shifted : List Bool)
  /-- IDCODE (R475). -/
  | idcode
  /-- CLAMP (R406): with the bits shifted through the bypass register. -/
  | clamp (shifted : List Bool)
  /-- HIGHZ (R406): with the bits shifted through the bypass register. -/
  | highz (shifted : List Bool)
  -- boot and control stores
  /-- IMAGE_CHECK (R392). -/
  | imageCheck (i : BootImage)
  /-- PUSH (R391). -/
  | push (p : Path)
  /-- LOAD_COMPLETE (R393). -/
  | loadComplete
  /-- REBOOT (R401). -/
  | reboot (p : Path)
  /-- RELOAD (R400). -/
  | reload (p : Path) (u : Fin 11)
  /-- RELOAD_DONE (R400). -/
  | reloadDone (u : Fin 11)
  /-- SCRUB (R398): with the errors that the pass finds. -/
  | scrub (es : List CsError)
  /-- CS_DOUBLE_BIT_ERROR (R399). -/
  | csDoubleBitError (u : Fin 11)
  /-- CS_SINGLE_BIT_ERROR (R398). -/
  | csSingleBitError (u : Fin 11)
  /-- RETAINED_STORE_ERROR (R400). -/
  | retainedStoreError (u : Fin 11)
  /-- PATCH_RAM_ERROR (R400): `pm`: of PM, else of SEC. -/
  | patchRamError (pm : Bool)
  -- power manager
  /-- MODE_REQUEST (R410): a write of PM_CTRL with REQ = 1. -/
  | modeRequest (p : Path) (target : Fin 16)
  /-- CALIBRATION_COMPLETE (R414). -/
  | calibrationComplete
  /-- POWER_GOOD (R415). -/
  | powerGood (d : Fin 30)
  /-- POWER_GOOD_TIMEOUT (R415). -/
  | powerGoodTimeout (d : Fin 30)
  /-- KEEP_OFF_WRITE (R416). -/
  | keepOffWrite (p : Path) (v : Word)
  /-- WAKE (R419): source 0 WAKE_N, 1 PERST_N, 2 Fen; `tie`: in the CD0 cycle of a sleep request. -/
  | wake (src : Fin 3) (tie : Bool)
  /-- PM_WAKE (R418). -/
  | pmWake
  /-- PM_SAFE (R444). -/
  | pmSafe
  /-- WAKE_N_EDGE (R418). -/
  | wakeNEdge
  /-- GPIO_EDGE (R423). -/
  | gpioEdge (k : Fin 8)
  /-- GPIO_PULSE (R423). -/
  | gpioPulse (k : Fin 8)
  /-- GPIO_PULSE_END (R423). -/
  | gpioPulseEnd (k : Fin 8)
  /-- ILK_EDGE (R444): the new level of ILK_N[k]. -/
  | ilkEdge (k : Fin 8) (low : Bool)
  /-- ILK_CONFIG_WRITE (R444). -/
  | ilkConfigWrite (p : Path) (v : Word)
  /-- SAFE_CAUSE_CLEAR (R442). -/
  | safeCauseClear (p : Path) (v : Word)
  /-- POWER_ON_RESET (R459): with the strap pins. -/
  | powerOnReset (strap : Fin 16)
  /-- BROWN_OUT (R459). -/
  | brownOut
  /-- COLD_RESET (R421): with KEY. -/
  | coldReset (p : Path) (key : BitVec 16)
  /-- WARM_RESET (R421): with KEY. -/
  | warmReset (p : Path) (key : BitVec 16)
  /-- POOL_RESET (R95). -/
  | poolReset (p : Path) (n : Fin 16)
  /-- SEDGE_RESET (R257). -/
  | sedgeReset (p : Path)
  /-- CAUSEWAY_RESET (R315). -/
  | causewayReset (p : Path)
  /-- GTIMER_ENABLE (R422): a write of PM_GTg_CTRL with EN = 1; `v` gives the other fields. -/
  | gtimerEnable (p : Path) (g : Fin 8) (v : Word)
  /-- GTIMER_EXPIRY (R422). -/
  | gtimerExpiry (g : Fin 8)
  /-- CLOCK_LOCK_LOSS (R425). -/
  | clockLockLoss (d : Fin 25)
  /-- CLOCK_RELOCK (R425). -/
  | clockRelock (d : Fin 25)
  /-- THERMAL_SAMPLE (R446): the highest junction temperature, as PM_THERM_STATUS.TMAX holds it. -/
  | thermalSample (t : BitVec 12)
  /-- PCIE_LINK_UP (R420): with the link speed and width. -/
  | pcieLinkUp (speed : Fin 8) (width : Fin 16)
  /-- PERST_N_RELEASE (R418). -/
  | perstNRelease
  deriving DecidableEq, Repr

end Sys2Proof
end

