-- ==== Sys2Proof/Decode.lean ====
section
/-!
DEFINITION. The commands that words spell: the table of operations gives no row any bits, so there are none. The bundles of
instruction memory are decoded in Machine/ReedStep.lean.
-/
namespace Sys2Proof

/-- The command that a word of the table spells. -/
def decodeTableWord (_nbits _w : Nat) : Option Instr := none

end Sys2Proof
end

