-- ==== Sys2Proof/Config.lean ====
section
/-!
DEFINITION. What the specification leaves open as a value: free values without a body.

Each constant is opaque, so nothing proved in Lean can rest on a particular value of it.
The step applies them to the plain counter `freeIdx` of the state where a fresh value is drawn each time, or to the
operands the open value depends on.
Every one has its row in the assumption log.
-/
namespace Sys2Proof.Config

/-- Whether the quotient num / den is rounded up or down where the specification states a quantity in a unit without
saying how it is rounded. -/
opaque roundsUp : Int → Nat → Bool

/-- The filtered offset estimate in fs that the time servo forms (R47, R51: the filter is not given):
index of the draw, then the raw estimate θ in fs. -/
opaque filteredOffset : Nat → Int → Int

/-- The change of F_freq, in 2⁻⁴⁰, that the time servo makes at an accepted exchange (the loop gains are not given):
index of the draw, then the raw estimate θ in fs. -/
opaque frequencyUpdate : Nat → Int → Int

/-- A value that the specification does not state: the index of the draw. -/
opaque freeValue : Nat → BitVec 64

end Sys2Proof.Config
end

