-- ==== Sys2Proof/Machine/Operands.lean ====
section
/-!
DEFINITION. Number forms the units share: two's complement fields, saturation, and quotients whose rounding the
specification does not state.
-/
namespace Sys2Proof.Machine

/-- The value of a `bits`-bit two's complement field. -/
def signed (bits v : Nat) : Int :=
  let u := v % 2 ^ bits
  if u < 2 ^ (bits - 1) then (u : Int) else (u : Int) - (2 : Int) ^ bits

/-- A value as a `bits`-bit two's complement field. -/
def unsigned (bits : Nat) (v : Int) : Nat := (v % (2 : Int) ^ bits).toNat

/-- Saturation to a `bits`-bit signed range. -/
def satS (bits : Nat) (v : Int) : Int :=
  let hi : Int := (2 : Int) ^ (bits - 1) - 1
  let lo : Int := -((2 : Int) ^ (bits - 1))
  if v > hi then hi else if v < lo then lo else v

/-- Saturation to a `bits`-bit unsigned range. -/
def satU (bits v : Nat) : Nat := if v ≥ 2 ^ bits then 2 ^ bits - 1 else v

/-- A quotient whose rounding the specification leaves open: exact where it divides, else one of its two neighbours. -/
def openQuotient (num : Int) (den : Nat) : Int :=
  if num % den = 0 then num / den
  else if Config.roundsUp num den then num / den + 1
  else num / den

/-- Division by 2ⁿ rounding halves away from minus infinity: the sum with half an LSB, then the floor. -/
def roundShift (v : Int) (n : Nat) : Int :=
  if n = 0 then v else (v + (2 : Int) ^ (n - 1)) / (2 : Int) ^ n

/-- Division by 2ⁿ to the nearest, where the specification does not state which way a tie goes. -/
def openRound (v : Int) (n : Nat) : Int :=
  if 2 * (v % (2 : Int) ^ n) = (2 : Int) ^ n then openQuotient v (2 ^ n) else roundShift v n

/-- Does a bit of a natural number stand? -/
def bitOf (v i : Nat) : Bool := v / 2 ^ i % 2 == 1

/-- The bits [hi:lo] of a natural number. -/
def bitsOf (v hi lo : Nat) : Nat := v / 2 ^ lo % 2 ^ (hi + 1 - lo)

/-- A natural number with one bit set or cleared. -/
def putBit (v i : Nat) (b : Bool) : Nat :=
  v - v / 2 ^ i % 2 * 2 ^ i + (if b then 2 ^ i else 0)

/-- A Boolean as a bit. -/
def bit (b : Bool) : Nat := if b then 1 else 0

end Sys2Proof.Machine
end

