-- ==== Sys2Proof/Machine/Flit.lean ====
section
/-!
DEFINITION. Flits as bits: the layouts of the header (R291), of time, link and decision flits (R302, R303, R298), of Sedge
messages (R252), the CRC (R293), and the line: striping (R282), scrambler (R283), ALIGN markers (R284), TS words (R287).
-/
namespace Sys2Proof.Machine

/-- Puts fields together: each a width and a value taken modulo 2 to that width, the lowest first. -/
def packBits : List (Nat × Nat) → Nat
  | [] => 0
  | (w, v) :: rest => v % 2 ^ w + 2 ^ w * packBits rest

/-- The bits [hi:lo] of a word of any width. -/
def sliceNat {n : Nat} (v : BitVec n) (hi lo : Nat) : Nat := v.toNat / 2 ^ lo % 2 ^ (hi + 1 - lo)

/-- One step of the CRC of R293. -/
def crc16Step (crc : BitVec 16) (b : Bool) : BitVec 16 :=
  let sh := crc <<< 1
  if xor (crc.getLsbD 15) b then sh ^^^ 0x8BB7 else sh

/-- The CRC over flit bits 0 to 239. -/
def flitCrc (body : BitVec 240) : BitVec 16 :=
  (List.range 240).foldl (fun crc i => crc16Step crc (body.getLsbD i)) 0xFFFF

/-- A flit of 256 bits from its first 240. -/
def sealFlit (body : Nat) : BitVec 256 :=
  let b := BitVec.ofNat 240 body
  BitVec.ofNat 256 (b.toNat + 2 ^ 240 * (flitCrc b).toNat)

/-- A routed flit (R291). -/
structure Flit where
  cl : Nat
  kind : Nat
  dest : Nat
  src : Nat
  seq : Nat
  loc : Bool
  eop : Bool
  vc : Nat
  payload : BitVec 192
  deriving DecidableEq, Repr

/-- The bits of a routed flit. -/
def Flit.bits (f : Flit) : BitVec 256 :=
  sealFlit (packBits [(3, f.cl), (4, f.kind), (14, f.dest), (14, f.src), (10, f.seq), (1, if f.loc then 1 else 0),
    (1, if f.eop then 1 else 0), (1, f.vc), (192, f.payload.toNat)])

/-- The bits of a time flit (R302). -/
def timeFlitBits (f : TimeFlit) : BitVec 256 :=
  sealFlit (packBits [(3, 0), (4, 0), (16, f.tseq.toNat), (80, f.tTx.toNat), (16, f.echoSeq.toNat),
    (80, f.tRxEcho.toNat), (6, f.hops.toNat), (2, f.quality.toNat), (14, f.rootId.toNat), (1, if f.hold then 1 else 0)])

/-- The bits of a link flit (R303). -/
def linkFlitBits (ack : Nat) (ackValid nak : Bool) (cred : List Nat) : BitVec 256 :=
  sealFlit (packBits ([(3, 7), (4, 0), (10, ack), (1, if ackValid then 1 else 0), (1, if nak then 1 else 0)] ++
    cred.map (fun c => (8, c))))

/-- A decision item: import entry, state and sequence (R298). -/
structure DecItem where
  dest : Nat
  entry : Nat
  state : Nat
  seq : Nat
  deriving DecidableEq, Repr

/-- The payload of a DECISION flit of up to ten items. -/
def decisionPayload (items : List DecItem) : BitVec 192 :=
  BitVec.ofNat 192 (packBits ((4, items.length) ::
    items.flatMap (fun i => [(9, i.entry), (2, i.state), (4, i.seq)])))

/-- The items of a received DECISION payload. -/
def decisionItems (p : BitVec 192) : List (Nat × Nat × Nat) :=
  (List.range (min (sliceNat p 3 0) 10)).map (fun i =>
    (sliceNat p (12 + 15 * i) (4 + 15 * i), sliceNat p (14 + 15 * i) (13 + 15 * i),
      sliceNat p (18 + 15 * i) (15 + 15 * i)))

/-- SEAM_EVENTS (R252). -/
def seamEventsPayload (round part : Nat) (events : Nat) : BitVec 192 :=
  BitVec.ofNat 192 (packBits [(4, 1), (32, round), (2, part), (128, events)])

/-- SEAM_COMMIT (R252): entries of seam edge and round offset. -/
def seamCommitPayload (round : Nat) (last : Bool) (entries : List (Nat × Nat)) : BitVec 192 :=
  BitVec.ofNat 192 (packBits ([(4, 2), (32, round), (1, if last then 1 else 0), (4, entries.length)] ++
    entries.flatMap (fun e => [(10, e.1), (5, e.2), (1, 0)])))

/-- ROUND_STATUS (R252). -/
def roundStatusPayload (first last : Nat) : BitVec 192 :=
  BitVec.ofNat 192 (packBits [(4, 3), (32, first), (32, last)])

/-- HELLO (R252). -/
def helloPayload (digest w c p t0 skew : Nat) : BitVec 192 :=
  BitVec.ofNat 192 (packBits [(4, 4), (32, digest), (6, w), (6, c), (32, p), (64, t0), (32, skew)])

/-! ### The line -/

/-- The bits of a flit that the lane of a rank carries, with so many lanes active (R282). -/
def flitPart (lanes rank : Nat) (f : BitVec 256) : Nat :=
  sliceNat f (256 / lanes * rank + 256 / lanes - 1) (256 / lanes * rank)

/-- One UI of the scrambler x³¹ + x²⁸ + 1: the bit and the new register, newest bit lowest (R283). -/
def scramblerStep (r : BitVec 31) : Bool × BitVec 31 :=
  let b := xor (r.getLsbD 27) (r.getLsbD 30)
  (b, (r <<< 1) ||| (if b then 1 else 0))

/-- The seed of logical lane l. -/
def scramblerSeed (l : Nat) : BitVec 31 := BitVec.ofNat 31 (0x2AAAAAA0 + l)

/-- P_l of the ALIGN marker. -/
def alignP (l : Nat) : BitVec 32 :=
  match l with
  | 0 => 0x9A3C5E17
  | 1 => 0x4B6D2C8E
  | 2 => 0xE1F03A65
  | _ => 0x27D4B91C

/-- The marker of logical lane l (R284). -/
def alignMarker (l : Nat) : BitVec 64 := ~~~(alignP l) ++ alignP l

/-- XOR of the bytes 0–6 of a TS word (R287). -/
def tsCheck (w : BitVec 64) : Nat :=
  (List.range 7).foldl (fun x i => x ^^^ sliceNat w (8 * i + 7) (8 * i)) 0

/-- A received TS word whose SYNC and CHK are right. -/
def tsValid (w : BitVec 64) : Bool := sliceNat w 15 0 == 0xC35A && sliceNat w 63 56 == tsCheck w

end Sys2Proof.Machine
end

