-- ==== Sys2Proof/Machine/RegMap.lean ====
section
/-!
DEFINITION. The register map: the offset of every register of the specification, the bits of every field, its type (R14)
and its reset value, written out from the register tables that close each unit chapter.

`rNAME` is the BAR0 offset of register NAME (R449: the unit's base plus the offset of its table); `fNAME_FIELD` names the
bits of one of its fields. A register of Pool n takes n as its first index; its prefix POOLn_ is left out of the Lean name.
-/
namespace Sys2Proof.Machine

/-- The behaviour of a register field (R14). -/
inductive Access
  /-- Read/write. -/
  | rw
  /-- Read-only. -/
  | ro
  /-- Write-only. -/
  | wo
  /-- Write one to clear. -/
  | w1c
  /-- Write one to set. -/
  | w1s
  /-- Locked read/write. -/
  | rwl
  /-- Sticky. -/
  | rs
  deriving DecidableEq, Repr

/-- A field of one register: the register's BAR0 offset and the field's bits [hi:lo]. -/
structure Fld where
  off : Nat
  hi : Nat
  lo : Nat
  deriving DecidableEq, Repr

/-- A row of a register table (R14): bits [hi:lo], type and reset value. -/
structure FieldRow where
  hi : Nat
  lo : Nat
  access : Access
  reset : Nat
  deriving DecidableEq, Repr

/-- A register, or an array of registers: BAR0 offset of the first, strides and counts (largest stride first), fields. -/
structure RegRow where
  base : Nat
  dims : List (Nat × Nat)
  fields : List FieldRow
  deriving DecidableEq, Repr

def rTM_CTRL : Nat := 0x2500000
def fTM_CTRL_ENABLE : Fld := ⟨rTM_CTRL, 0, 0⟩
def fTM_CTRL_ROLE : Fld := ⟨rTM_CTRL, 1, 1⟩
def fTM_CTRL_PARENT_PORT : Fld := ⟨rTM_CTRL, 6, 4⟩
def fTM_CTRL_ASYM_ACK : Fld := ⟨rTM_CTRL, 8, 8⟩
def rTM_CFG : Nat := 0x2500004
def fTM_CFG_SERVO_BW : Fld := ⟨rTM_CFG, 1, 0⟩
def fTM_CFG_REMEAS_N : Fld := ⟨rTM_CFG, 15, 8⟩
def fTM_CFG_LOSS_N : Fld := ⟨rTM_CFG, 20, 16⟩
def fTM_CFG_RUN_REQ_VERIFIED : Fld := ⟨rTM_CFG, 24, 24⟩
def rTM_STATUS : Nat := 0x2500008
def fTM_STATUS_STATE : Fld := ⟨rTM_STATUS, 2, 0⟩
def fTM_STATUS_QUALITY : Fld := ⟨rTM_STATUS, 5, 4⟩
def fTM_STATUS_STEP_DEFERRED : Fld := ⟨rTM_STATUS, 6, 6⟩
def fTM_STATUS_REF_LOCK : Fld := ⟨rTM_STATUS, 7, 7⟩
def fTM_STATUS_HOPS : Fld := ⟨rTM_STATUS, 13, 8⟩
def fTM_STATUS_REFUSED : Fld := ⟨rTM_STATUS, 16, 16⟩
def fTM_STATUS_REASON : Fld := ⟨rTM_STATUS, 31, 24⟩
def rTM_REF_FREQ : Nat := 0x250000c
def fTM_REF_FREQ_FREQ_KHZ : Fld := ⟨rTM_REF_FREQ, 19, 0⟩
def rTM_NOW_L : Nat := 0x2500010
def fTM_NOW_L_NOW_L : Fld := ⟨rTM_NOW_L, 31, 0⟩
def rTM_NOW_M : Nat := 0x2500014
def fTM_NOW_M_NOW_M : Fld := ⟨rTM_NOW_M, 31, 0⟩
def rTM_NOW_H : Nat := 0x2500018
def fTM_NOW_H_NOW_H : Fld := ⟨rTM_NOW_H, 15, 0⟩
def rTM_ROOT : Nat := 0x250001c
def fTM_ROOT_ROOT_ID : Fld := ⟨rTM_ROOT, 13, 0⟩
def fTM_ROOT_ROOT_MISMATCH : Fld := ⟨rTM_ROOT, 16, 16⟩
def rTM_ROOT_INIT_L : Nat := 0x2500020
def fTM_ROOT_INIT_L_INIT : Fld := ⟨rTM_ROOT_INIT_L, 31, 0⟩
def rTM_ROOT_INIT_M : Nat := 0x2500024
def fTM_ROOT_INIT_M_INIT : Fld := ⟨rTM_ROOT_INIT_M, 31, 0⟩
def rTM_ROOT_INIT_H : Nat := 0x2500028
def fTM_ROOT_INIT_H_INIT : Fld := ⟨rTM_ROOT_INIT_H, 15, 0⟩
def rTM_OFFSET : Nat := 0x2500030
def fTM_OFFSET_THETA : Fld := ⟨rTM_OFFSET, 31, 0⟩
def rTM_FREQ : Nat := 0x2500038
def fTM_FREQ_F_FREQ : Fld := ⟨rTM_FREQ, 31, 0⟩
def rTM_DEFERRED : Nat := 0x250003c
def fTM_DEFERRED_AMOUNT : Fld := ⟨rTM_DEFERRED, 31, 0⟩
def rTM_LAST_STEP_L : Nat := 0x2500040
def fTM_LAST_STEP_L_STEP : Fld := ⟨rTM_LAST_STEP_L, 31, 0⟩
def rTM_LAST_STEP_H : Nat := 0x2500044
def fTM_LAST_STEP_H_STEP : Fld := ⟨rTM_LAST_STEP_H, 31, 0⟩
def rTM_COUNT : Nat := 0x2500048
def fTM_COUNT_STEP_COUNT : Fld := ⟨rTM_COUNT, 7, 0⟩
def fTM_COUNT_HOLDOVER_COUNT : Fld := ⟨rTM_COUNT, 15, 8⟩
def fTM_COUNT_FLIT_LOST : Fld := ⟨rTM_COUNT, 31, 16⟩
def rTM_EPOCH_L : Nat := 0x2500050
def fTM_EPOCH_L_EPOCH : Fld := ⟨rTM_EPOCH_L, 31, 0⟩
def rTM_EPOCH_H : Nat := 0x2500054
def fTM_EPOCH_H_EPOCH : Fld := ⟨rTM_EPOCH_H, 31, 0⟩
def rTM_PPS_CFG : Nat := 0x2500060
def fTM_PPS_CFG_EN : Fld := ⟨rTM_PPS_CFG, 0, 0⟩
def fTM_PPS_CFG_EDGE : Fld := ⟨rTM_PPS_CFG, 1, 1⟩
def fTM_PPS_CFG_COUNT : Fld := ⟨rTM_PPS_CFG, 10, 8⟩
def fTM_PPS_CFG_OVERRUN : Fld := ⟨rTM_PPS_CFG, 16, 16⟩
def rTM_PPS_L : Nat := 0x2500064
def fTM_PPS_L_CAP_L : Fld := ⟨rTM_PPS_L, 31, 0⟩
def rTM_PPS_M : Nat := 0x2500068
def fTM_PPS_M_CAP_M : Fld := ⟨rTM_PPS_M, 31, 0⟩
def rTM_PPS_H : Nat := 0x250006c
def fTM_PPS_H_CAP_H : Fld := ⟨rTM_PPS_H, 15, 0⟩
def fTM_PPS_H_VALID : Fld := ⟨rTM_PPS_H, 31, 31⟩
def rTM_PATHp (p : Nat) : Nat := 0x2500200 + p * 0x4
def fTM_PATHp_D_PATH (p : Nat) : Fld := ⟨rTM_PATHp p, 31, 0⟩
def rTM_TPOn_CTRL (n : Nat) : Nat := 0x2500100 + n * 0x20
def fTM_TPOn_CTRL_EN (n : Nat) : Fld := ⟨rTM_TPOn_CTRL n, 0, 0⟩
def fTM_TPOn_CTRL_POL (n : Nat) : Fld := ⟨rTM_TPOn_CTRL n, 1, 1⟩
def rTM_TPOn_START_L (n : Nat) : Nat := 0x2500104 + n * 0x20
def fTM_TPOn_START_L_START (n : Nat) : Fld := ⟨rTM_TPOn_START_L n, 31, 0⟩
def rTM_TPOn_START_H (n : Nat) : Nat := 0x2500108 + n * 0x20
def fTM_TPOn_START_H_START (n : Nat) : Fld := ⟨rTM_TPOn_START_H n, 31, 0⟩
def rTM_TPOn_PERIOD_L (n : Nat) : Nat := 0x250010c + n * 0x20
def fTM_TPOn_PERIOD_L_PERIOD (n : Nat) : Fld := ⟨rTM_TPOn_PERIOD_L n, 31, 0⟩
def rTM_TPOn_PERIOD_H (n : Nat) : Nat := 0x2500110 + n * 0x20
def fTM_TPOn_PERIOD_H_PERIOD (n : Nat) : Fld := ⟨rTM_TPOn_PERIOD_H n, 15, 0⟩
def rTM_TPOn_WIDTH (n : Nat) : Nat := 0x2500114 + n * 0x20
def fTM_TPOn_WIDTH_WIDTH (n : Nat) : Fld := ⟨rTM_TPOn_WIDTH n, 31, 0⟩
def rTM_TPOn_STATUS (n : Nat) : Nat := 0x2500118 + n * 0x20
def fTM_TPOn_STATUS_ACTIVE (n : Nat) : Fld := ⟨rTM_TPOn_STATUS n, 0, 0⟩
def fTM_TPOn_STATUS_MISSED (n : Nat) : Fld := ⟨rTM_TPOn_STATUS n, 1, 1⟩
def fTM_TPOn_STATUS_REFUSED (n : Nat) : Fld := ⟨rTM_TPOn_STATUS n, 8, 8⟩
def fTM_TPOn_STATUS_REASON (n : Nat) : Fld := ⟨rTM_TPOn_STATUS n, 31, 24⟩
def rTM_ASYMp_i (p i : Nat) : Nat := 0x2500400 + p * 0x40 + i * 0x4
def fTM_ASYMp_i_ASYM (p i : Nat) : Fld := ⟨rTM_ASYMp_i p i, 31, 0⟩
def rDRV_CTRL (n : Nat) : Nat := 0x1000000 + n * 0x100000
def fDRV_CTRL_ENABLE (n : Nat) : Fld := ⟨rDRV_CTRL n, 0, 0⟩
def fDRV_CTRL_CLR_COUNT (n : Nat) : Fld := ⟨rDRV_CTRL n, 1, 1⟩
def rDRV_STATUS (n : Nat) : Nat := 0x1000004 + n * 0x100000
def fDRV_STATUS_ENABLED (n : Nat) : Fld := ⟨rDRV_STATUS n, 0, 0⟩
def fDRV_STATUS_REFUSED (n : Nat) : Fld := ⟨rDRV_STATUS n, 1, 1⟩
def fDRV_STATUS_REASON (n : Nat) : Fld := ⟨rDRV_STATUS n, 15, 8⟩
def fDRV_STATUS_CONFLICT_ID (n : Nat) : Fld := ⟨rDRV_STATUS n, 31, 16⟩
def rDRV_DACd_CFG (n d : Nat) : Nat := 0x1000100 + n * 0x100000 + d * 0x20
def fDRV_DACd_CFG_SHIFT (n d : Nat) : Fld := ⟨rDRV_DACd_CFG n d, 1, 0⟩
def fDRV_DACd_CFG_ISINC (n d : Nat) : Fld := ⟨rDRV_DACd_CFG n d, 4, 4⟩
def fDRV_DACd_CFG_MUTE (n d : Nat) : Fld := ⟨rDRV_DACd_CFG n d, 8, 8⟩
def rDRV_DACd_CFTW_L (n d : Nat) : Nat := 0x1000104 + n * 0x100000 + d * 0x20
def fDRV_DACd_CFTW_L_CFTW (n d : Nat) : Fld := ⟨rDRV_DACd_CFTW_L n d, 31, 0⟩
def rDRV_DACd_CFTW_H (n d : Nat) : Nat := 0x1000108 + n * 0x100000 + d * 0x20
def fDRV_DACd_CFTW_H_CFTW (n d : Nat) : Fld := ⟨rDRV_DACd_CFTW_H n d, 15, 0⟩
def rDRV_DACd_CPOFF_L (n d : Nat) : Nat := 0x100010c + n * 0x100000 + d * 0x20
def fDRV_DACd_CPOFF_L_CPOFF (n d : Nat) : Fld := ⟨rDRV_DACd_CPOFF_L n d, 31, 0⟩
def rDRV_DACd_CPOFF_H (n d : Nat) : Nat := 0x1000110 + n * 0x100000 + d * 0x20
def fDRV_DACd_CPOFF_H_CPOFF (n d : Nat) : Fld := ⟨rDRV_DACd_CPOFF_H n d, 15, 0⟩
def rDRV_DACd_SAT (n d : Nat) : Nat := 0x1000114 + n * 0x100000 + d * 0x20
def fDRV_DACd_SAT_SAT (n d : Nat) : Fld := ⟨rDRV_DACd_SAT n d, 31, 0⟩
def rDRV_Tk_FTW_L (n k : Nat) : Nat := 0x1001000 + n * 0x100000 + k * 0x40
def fDRV_Tk_FTW_L_FTW (n k : Nat) : Fld := ⟨rDRV_Tk_FTW_L n k, 31, 0⟩
def rDRV_Tk_FTW_H (n k : Nat) : Nat := 0x1001004 + n * 0x100000 + k * 0x40
def fDRV_Tk_FTW_H_FTW (n k : Nat) : Fld := ⟨rDRV_Tk_FTW_H n k, 15, 0⟩
def rDRV_Tk_POFF_L (n k : Nat) : Nat := 0x1001008 + n * 0x100000 + k * 0x40
def fDRV_Tk_POFF_L_POFF (n k : Nat) : Fld := ⟨rDRV_Tk_POFF_L n k, 31, 0⟩
def rDRV_Tk_POFF_H (n k : Nat) : Nat := 0x100100c + n * 0x100000 + k * 0x40
def fDRV_Tk_POFF_H_POFF (n k : Nat) : Fld := ⟨rDRV_Tk_POFF_H n k, 15, 0⟩
def rDRV_Tk_AMP (n k : Nat) : Nat := 0x1001010 + n * 0x100000 + k * 0x40
def fDRV_Tk_AMP_AMP (n k : Nat) : Fld := ⟨rDRV_Tk_AMP n k, 17, 0⟩
def rDRV_Tk_FRAME (n k : Nat) : Nat := 0x1001014 + n * 0x100000 + k * 0x40
def fDRV_Tk_FRAME_FRAME (n k : Nat) : Fld := ⟨rDRV_Tk_FRAME n k, 31, 0⟩
def rDRV_Tk_ALLOC (n k : Nat) : Nat := 0x1001018 + n * 0x100000 + k * 0x40
def fDRV_Tk_ALLOC_ALLOC (n k : Nat) : Fld := ⟨rDRV_Tk_ALLOC n k, 4, 0⟩
def rDRV_Tk_JUMP_CFG (n k : Nat) : Nat := 0x100101c + n * 0x100000 + k * 0x40
def fDRV_Tk_JUMP_CFG_FEN_TGT (n k : Nat) : Fld := ⟨rDRV_Tk_JUMP_CFG n k, 11, 0⟩
def fDRV_Tk_JUMP_CFG_FEN_EN (n k : Nat) : Fld := ⟨rDRV_Tk_JUMP_CFG n k, 16, 16⟩
def rDRV_Tk_DJ_CFG (n k : Nat) : Nat := 0x1001020 + n * 0x100000 + k * 0x40
def fDRV_Tk_DJ_CFG_EN (n k : Nat) : Fld := ⟨rDRV_Tk_DJ_CFG n k, 0, 0⟩
def fDRV_Tk_DJ_CFG_NJ (n k : Nat) : Fld := ⟨rDRV_Tk_DJ_CFG n k, 4, 2⟩
def fDRV_Tk_DJ_CFG_SLOT (n k : Nat) : Fld := ⟨rDRV_Tk_DJ_CFG n k, 17, 8⟩
def fDRV_Tk_DJ_CFG_T2 (n k : Nat) : Fld := ⟨rDRV_Tk_DJ_CFG n k, 31, 20⟩
def rDRV_Tk_DJ_TGT (n k : Nat) : Nat := 0x1001024 + n * 0x100000 + k * 0x40
def fDRV_Tk_DJ_TGT_T0 (n k : Nat) : Fld := ⟨rDRV_Tk_DJ_TGT n k, 11, 0⟩
def fDRV_Tk_DJ_TGT_T1 (n k : Nat) : Fld := ⟨rDRV_Tk_DJ_TGT n k, 23, 12⟩
def rDRV_Tk_STATE (n k : Nat) : Nat := 0x1001028 + n * 0x100000 + k * 0x40
def fDRV_Tk_STATE_CUR_SEG (n k : Nat) : Fld := ⟨rDRV_Tk_STATE n k, 11, 0⟩
def fDRV_Tk_STATE_ACTIVE (n k : Nat) : Fld := ⟨rDRV_Tk_STATE n k, 16, 16⟩
def fDRV_Tk_STATE_MUTED (n k : Nat) : Fld := ⟨rDRV_Tk_STATE n k, 17, 17⟩
def fDRV_Tk_STATE_PENDING (n k : Nat) : Fld := ⟨rDRV_Tk_STATE n k, 18, 18⟩
def rDRV_Tk_COUNT (n k : Nat) : Nat := 0x100102c + n * 0x100000 + k * 0x40
def fDRV_Tk_COUNT_JUMP_LATE (n k : Nat) : Fld := ⟨rDRV_Tk_COUNT n k, 7, 0⟩
def fDRV_Tk_COUNT_JUMP_REPLACED (n k : Nat) : Fld := ⟨rDRV_Tk_COUNT n k, 15, 8⟩
def fDRV_Tk_COUNT_CMD_FAULT (n k : Nat) : Fld := ⟨rDRV_Tk_COUNT n k, 23, 16⟩
def fDRV_Tk_COUNT_JUMP_IDLE (n k : Nat) : Fld := ⟨rDRV_Tk_COUNT n k, 31, 24⟩
def rPEAT_ALLOC_SUM (n : Nat) : Nat := 0x1040000 + n * 0x100000
def fPEAT_ALLOC_SUM_SUM (n : Nat) : Fld := ⟨rPEAT_ALLOC_SUM n, 9, 0⟩
def rPEAT_SBb_CFG (n b : Nat) : Nat := 0x1040100 + n * 0x100000 + b * 0x20
def fPEAT_SBb_CFG_BASE (n b : Nat) : Fld := ⟨rPEAT_SBb_CFG n b, 16, 0⟩
def fPEAT_SBb_CFG_SIZE (n b : Nat) : Fld := ⟨rPEAT_SBb_CFG n b, 31, 17⟩
def rPEAT_SBb_CTRL (n b : Nat) : Nat := 0x1040104 + n * 0x100000 + b * 0x20
def fPEAT_SBb_CTRL_EN (n b : Nat) : Fld := ⟨rPEAT_SBb_CTRL n b, 0, 0⟩
def fPEAT_SBb_CTRL_POLICY (n b : Nat) : Fld := ⟨rPEAT_SBb_CTRL n b, 1, 1⟩
def fPEAT_SBb_CTRL_REFUSED (n b : Nat) : Fld := ⟨rPEAT_SBb_CTRL n b, 8, 8⟩
def fPEAT_SBb_CTRL_REASON (n b : Nat) : Fld := ⟨rPEAT_SBb_CTRL n b, 23, 16⟩
def rPEAT_SBb_RDPOS_L (n b : Nat) : Nat := 0x1040108 + n * 0x100000 + b * 0x20
def fPEAT_SBb_RDPOS_L_RDPOS (n b : Nat) : Fld := ⟨rPEAT_SBb_RDPOS_L n b, 31, 0⟩
def rPEAT_SBb_RDPOS_H (n b : Nat) : Nat := 0x104010c + n * 0x100000 + b * 0x20
def fPEAT_SBb_RDPOS_H_RDPOS (n b : Nat) : Fld := ⟨rPEAT_SBb_RDPOS_H n b, 31, 0⟩
def rPEAT_SBb_WRPOS_L (n b : Nat) : Nat := 0x1040110 + n * 0x100000 + b * 0x20
def fPEAT_SBb_WRPOS_L_WRPOS (n b : Nat) : Fld := ⟨rPEAT_SBb_WRPOS_L n b, 31, 0⟩
def rPEAT_SBb_WRPOS_H (n b : Nat) : Nat := 0x1040114 + n * 0x100000 + b * 0x20
def fPEAT_SBb_WRPOS_H_WRPOS (n b : Nat) : Fld := ⟨rPEAT_SBb_WRPOS_H n b, 31, 0⟩
def rPEAT_SBb_COUNT (n b : Nat) : Nat := 0x1040118 + n * 0x100000 + b * 0x20
def fPEAT_SBb_COUNT_UNDERRUN (n b : Nat) : Fld := ⟨rPEAT_SBb_COUNT n b, 15, 0⟩
def fPEAT_SBb_COUNT_LATE_DISCARD (n b : Nat) : Fld := ⟨rPEAT_SBb_COUNT n b, 31, 16⟩
def rSEG_e (n e : Nat) : Nat := 0x1060000 + n * 0x100000 + e * 0x20
def rMK_m_CFG (n m : Nat) : Nat := 0x1080000 + n * 0x100000 + m * 0x10
def fMK_m_CFG_SRC_SEG (n m : Nat) : Fld := ⟨rMK_m_CFG n m, 0, 0⟩
def fMK_m_CFG_SRC_CMD (n m : Nat) : Fld := ⟨rMK_m_CFG n m, 1, 1⟩
def fMK_m_CFG_SRC_FEN (n m : Nat) : Fld := ⟨rMK_m_CFG n m, 2, 2⟩
def fMK_m_CFG_TRIG_IN (n m : Nat) : Fld := ⟨rMK_m_CFG n m, 3, 3⟩
def fMK_m_CFG_FEN_WIDTH (n m : Nat) : Fld := ⟨rMK_m_CFG n m, 31, 16⟩
def rMK_m_DELAY (n m : Nat) : Nat := 0x1080004 + n * 0x100000 + m * 0x10
def fMK_m_DELAY_DELAY (n m : Nat) : Fld := ⟨rMK_m_DELAY n m, 15, 0⟩
def rMK_m_TONES (n m : Nat) : Nat := 0x1080008 + n * 0x100000 + m * 0x10
def fMK_m_TONES_MASK (n m : Nat) : Fld := ⟨rMK_m_TONES n m, 31, 0⟩
def rFLX_CTRL (n : Nat) : Nat := 0x1030000 + n * 0x100000
def fFLX_CTRL_ENABLE (n : Nat) : Fld := ⟨rFLX_CTRL n, 0, 0⟩
def fFLX_CTRL_CLR_COUNT (n : Nat) : Fld := ⟨rFLX_CTRL n, 1, 1⟩
def rFLX_STATUS (n : Nat) : Nat := 0x1030004 + n * 0x100000
def fFLX_STATUS_ENABLED (n : Nat) : Fld := ⟨rFLX_STATUS n, 0, 0⟩
def fFLX_STATUS_REFUSED (n : Nat) : Fld := ⟨rFLX_STATUS n, 1, 1⟩
def fFLX_STATUS_REASON (n : Nat) : Fld := ⟨rFLX_STATUS n, 15, 8⟩
def fFLX_STATUS_STAGE_ID (n : Nat) : Fld := ⟨rFLX_STATUS n, 20, 16⟩
def rFLX_Cf_CFG (n f : Nat) : Nat := 0x1031000 + n * 0x100000 + f * 0x400
def fFLX_Cf_CFG_MUTE (n f : Nat) : Fld := ⟨rFLX_Cf_CFG n f, 8, 8⟩
def rFLX_Cf_AMP (n f : Nat) : Nat := 0x1031004 + n * 0x100000 + f * 0x400
def fFLX_Cf_AMP_AMP (n f : Nat) : Fld := ⟨rFLX_Cf_AMP n f, 17, 0⟩
def rFLX_Cf_OFFSET (n f : Nat) : Nat := 0x1031008 + n * 0x100000 + f * 0x400
def fFLX_Cf_OFFSET_OFFSET (n f : Nat) : Fld := ⟨rFLX_Cf_OFFSET n f, 15, 0⟩
def rFLX_Cf_DELAY (n f : Nat) : Nat := 0x103100c + n * 0x100000 + f * 0x400
def fFLX_Cf_DELAY_DELAY (n f : Nat) : Fld := ⟨rFLX_Cf_DELAY n f, 9, 0⟩
def fFLX_Cf_DELAY_MBZ (n f : Nat) : Fld := ⟨rFLX_Cf_DELAY n f, 15, 10⟩
def rFLX_Cf_ALLOC (n f : Nat) : Nat := 0x1031010 + n * 0x100000 + f * 0x400
def fFLX_Cf_ALLOC_ALLOC (n f : Nat) : Fld := ⟨rFLX_Cf_ALLOC n f, 4, 0⟩
def rFLX_Cf_STATE (n f : Nat) : Nat := 0x1031014 + n * 0x100000 + f * 0x400
def fFLX_Cf_STATE_CUR_SEG (n f : Nat) : Fld := ⟨rFLX_Cf_STATE n f, 11, 0⟩
def fFLX_Cf_STATE_ACTIVE (n f : Nat) : Fld := ⟨rFLX_Cf_STATE n f, 16, 16⟩
def fFLX_Cf_STATE_MUTED (n f : Nat) : Fld := ⟨rFLX_Cf_STATE n f, 17, 17⟩
def rFLX_Cf_SAT (n f : Nat) : Nat := 0x1031018 + n * 0x100000 + f * 0x400
def fFLX_Cf_SAT_SAT (n f : Nat) : Fld := ⟨rFLX_Cf_SAT n f, 31, 0⟩
def rFLX_Cf_COUNT (n f : Nat) : Nat := 0x103101c + n * 0x100000 + f * 0x400
def fFLX_Cf_COUNT_CMD_FAULT (n f : Nat) : Fld := ⟨rFLX_Cf_COUNT n f, 7, 0⟩
def fFLX_Cf_COUNT_UNDERRUN (n f : Nat) : Fld := ⟨rFLX_Cf_COUNT n f, 15, 8⟩
def rFLX_Cf_IIRs_CTRL (n f s : Nat) : Nat := 0x1031040 + n * 0x100000 + f * 0x400 + s * 0x10
def fFLX_Cf_IIRs_CTRL_EN (n f s : Nat) : Fld := ⟨rFLX_Cf_IIRs_CTRL n f s, 0, 0⟩
def rFLX_Cf_IIRs_C0 (n f s : Nat) : Nat := 0x1031044 + n * 0x100000 + f * 0x400 + s * 0x10
def fFLX_Cf_IIRs_C0_C0 (n f s : Nat) : Fld := ⟨rFLX_Cf_IIRs_C0 n f s, 31, 0⟩
def rFLX_Cf_IIRs_C1 (n f s : Nat) : Nat := 0x1031048 + n * 0x100000 + f * 0x400 + s * 0x10
def fFLX_Cf_IIRs_C1_C1 (n f s : Nat) : Fld := ⟨rFLX_Cf_IIRs_C1 n f s, 31, 0⟩
def rFLX_Cf_IIRs_P (n f s : Nat) : Nat := 0x103104c + n * 0x100000 + f * 0x400 + s * 0x10
def fFLX_Cf_IIRs_P_P (n f s : Nat) : Fld := ⟨rFLX_Cf_IIRs_P n f s, 31, 0⟩
def rFLX_Cf_FIR_j (n f j : Nat) : Nat := 0x1031100 + n * 0x100000 + f * 0x400 + j * 0x4
def fFLX_Cf_FIR_j_H (n f j : Nat) : Fld := ⟨rFLX_Cf_FIR_j n f j, 17, 0⟩
def rRO_CTRL (n : Nat) : Nat := 0x1020000 + n * 0x100000
def fRO_CTRL_ENABLE (n : Nat) : Fld := ⟨rRO_CTRL n, 0, 0⟩
def fRO_CTRL_CLR_COUNT (n : Nat) : Fld := ⟨rRO_CTRL n, 1, 1⟩
def rRO_STATUS (n : Nat) : Nat := 0x1020004 + n * 0x100000
def fRO_STATUS_ENABLED (n : Nat) : Fld := ⟨rRO_STATUS n, 0, 0⟩
def fRO_STATUS_REFUSED (n : Nat) : Fld := ⟨rRO_STATUS n, 1, 1⟩
def fRO_STATUS_REASON (n : Nat) : Fld := ⟨rRO_STATUS n, 15, 8⟩
def fRO_STATUS_ITEM (n : Nat) : Fld := ⟨rRO_STATUS n, 22, 16⟩
def rRO_FIFO (n : Nat) : Nat := 0x1020008 + n * 0x100000
def fRO_FIFO_LEVEL (n : Nat) : Fld := ⟨rRO_FIFO n, 8, 0⟩
def fRO_FIFO_LOST (n : Nat) : Fld := ⟨rRO_FIFO n, 31, 16⟩
def rRO_Ll_CFG (n l : Nat) : Nat := 0x1020100 + n * 0x100000 + l * 0x80
def fRO_Ll_CFG_SHIFT (n l : Nat) : Fld := ⟨rRO_Ll_CFG n l, 2, 0⟩
def fRO_Ll_CFG_ISINC (n l : Nat) : Fld := ⟨rRO_Ll_CFG n l, 4, 4⟩
def fRO_Ll_CFG_MUTE (n l : Nat) : Fld := ⟨rRO_Ll_CFG n l, 8, 8⟩
def rRO_Ll_CFTW_L (n l : Nat) : Nat := 0x1020104 + n * 0x100000 + l * 0x80
def fRO_Ll_CFTW_L_CFTW (n l : Nat) : Fld := ⟨rRO_Ll_CFTW_L n l, 31, 0⟩
def rRO_Ll_CFTW_H (n l : Nat) : Nat := 0x1020108 + n * 0x100000 + l * 0x80
def fRO_Ll_CFTW_H_CFTW (n l : Nat) : Fld := ⟨rRO_Ll_CFTW_H n l, 15, 0⟩
def rRO_Ll_CPOFF_L (n l : Nat) : Nat := 0x102010c + n * 0x100000 + l * 0x80
def fRO_Ll_CPOFF_L_CPOFF (n l : Nat) : Fld := ⟨rRO_Ll_CPOFF_L n l, 31, 0⟩
def rRO_Ll_CPOFF_H (n l : Nat) : Nat := 0x1020110 + n * 0x100000 + l * 0x80
def fRO_Ll_CPOFF_H_CPOFF (n l : Nat) : Fld := ⟨rRO_Ll_CPOFF_H n l, 15, 0⟩
def rRO_Ll_TX_SAT (n l : Nat) : Nat := 0x1020114 + n * 0x100000 + l * 0x80
def fRO_Ll_TX_SAT_SAT (n l : Nat) : Fld := ⟨rRO_Ll_TX_SAT n l, 31, 0⟩
def rRO_Ll_ADC_SAT (n l : Nat) : Nat := 0x1020118 + n * 0x100000 + l * 0x80
def fRO_Ll_ADC_SAT_SAT (n l : Nat) : Fld := ⟨rRO_Ll_ADC_SAT n l, 31, 0⟩
def rRO_Ll_CAL_CFG (n l : Nat) : Nat := 0x1020120 + n * 0x100000 + l * 0x80
def fRO_Ll_CAL_CFG_INTERVAL (n l : Nat) : Fld := ⟨rRO_Ll_CAL_CFG n l, 7, 0⟩
def fRO_Ll_CAL_CFG_FREEZE (n l : Nat) : Fld := ⟨rRO_Ll_CAL_CFG n l, 8, 8⟩
def fRO_Ll_CAL_CFG_FREEZE_HARD (n l : Nat) : Fld := ⟨rRO_Ll_CAL_CFG n l, 9, 9⟩
def fRO_Ll_CAL_CFG_FREEZE_MAX (n l : Nat) : Fld := ⟨rRO_Ll_CAL_CFG n l, 31, 16⟩
def rRO_Ll_CAL_STATUS (n l : Nat) : Nat := 0x1020124 + n * 0x100000 + l * 0x80
def fRO_Ll_CAL_STATUS_SPARE (n l : Nat) : Fld := ⟨rRO_Ll_CAL_STATUS n l, 4, 0⟩
def fRO_Ll_CAL_STATUS_FROZEN (n l : Nat) : Fld := ⟨rRO_Ll_CAL_STATUS n l, 8, 8⟩
def fRO_Ll_CAL_STATUS_DEFERRING (n l : Nat) : Fld := ⟨rRO_Ll_CAL_STATUS n l, 9, 9⟩
def fRO_Ll_CAL_STATUS_FREEZE_EXPIRED (n l : Nat) : Fld := ⟨rRO_Ll_CAL_STATUS n l, 10, 10⟩
def fRO_Ll_CAL_STATUS_DRIFT (n l : Nat) : Fld := ⟨rRO_Ll_CAL_STATUS n l, 11, 11⟩
def fRO_Ll_CAL_STATUS_FG_BUSY (n l : Nat) : Fld := ⟨rRO_Ll_CAL_STATUS n l, 12, 12⟩
def rRO_Ll_CAL_COUNT (n l : Nat) : Nat := 0x1020128 + n * 0x100000 + l * 0x80
def fRO_Ll_CAL_COUNT_SWAPS (n l : Nat) : Fld := ⟨rRO_Ll_CAL_COUNT n l, 15, 0⟩
def fRO_Ll_CAL_COUNT_FORCED (n l : Nat) : Fld := ⟨rRO_Ll_CAL_COUNT n l, 23, 16⟩
def fRO_Ll_CAL_COUNT_STRADDLED (n l : Nat) : Fld := ⟨rRO_Ll_CAL_COUNT n l, 31, 24⟩
def rRO_Ll_CAL_EST (n l : Nat) : Nat := 0x102012c + n * 0x100000 + l * 0x80
def fRO_Ll_CAL_EST_MISMATCH (n l : Nat) : Fld := ⟨rRO_Ll_CAL_EST n l, 15, 0⟩
def rRO_Ll_FGCAL (n l : Nat) : Nat := 0x1020130 + n * 0x100000 + l * 0x80
def fRO_Ll_FGCAL_START (n l : Nat) : Fld := ⟨rRO_Ll_FGCAL n l, 0, 0⟩
def fRO_Ll_FGCAL_DONE (n l : Nat) : Fld := ⟨rRO_Ll_FGCAL n l, 1, 1⟩
def fRO_Ll_FGCAL_REFUSED (n l : Nat) : Fld := ⟨rRO_Ll_FGCAL n l, 8, 8⟩
def fRO_Ll_FGCAL_REASON (n l : Nat) : Fld := ⟨rRO_Ll_FGCAL n l, 23, 16⟩
def rRO_Tk_FTW_L (n k : Nat) : Nat := 0x1021000 + n * 0x100000 + k * 0x80
def fRO_Tk_FTW_L_FTW (n k : Nat) : Fld := ⟨rRO_Tk_FTW_L n k, 31, 0⟩
def rRO_Tk_FTW_H (n k : Nat) : Nat := 0x1021004 + n * 0x100000 + k * 0x80
def fRO_Tk_FTW_H_FTW (n k : Nat) : Fld := ⟨rRO_Tk_FTW_H n k, 15, 0⟩
def rRO_Tk_POFF_L (n k : Nat) : Nat := 0x1021008 + n * 0x100000 + k * 0x80
def fRO_Tk_POFF_L_POFF (n k : Nat) : Fld := ⟨rRO_Tk_POFF_L n k, 31, 0⟩
def rRO_Tk_POFF_H (n k : Nat) : Nat := 0x102100c + n * 0x100000 + k * 0x80
def fRO_Tk_POFF_H_POFF (n k : Nat) : Fld := ⟨rRO_Tk_POFF_H n k, 15, 0⟩
def rRO_Tk_AMP (n k : Nat) : Nat := 0x1021010 + n * 0x100000 + k * 0x80
def fRO_Tk_AMP_AMP (n k : Nat) : Fld := ⟨rRO_Tk_AMP n k, 17, 0⟩
def rRO_Tk_FRAME (n k : Nat) : Nat := 0x1021014 + n * 0x100000 + k * 0x80
def fRO_Tk_FRAME_FRAME (n k : Nat) : Fld := ⟨rRO_Tk_FRAME n k, 31, 0⟩
def rRO_Tk_ALLOC (n k : Nat) : Nat := 0x1021018 + n * 0x100000 + k * 0x80
def fRO_Tk_ALLOC_ALLOC (n k : Nat) : Fld := ⟨rRO_Tk_ALLOC n k, 4, 0⟩
def rRO_Tk_RX_POFF_L (n k : Nat) : Nat := 0x102101c + n * 0x100000 + k * 0x80
def fRO_Tk_RX_POFF_L_RX_POFF (n k : Nat) : Fld := ⟨rRO_Tk_RX_POFF_L n k, 31, 0⟩
def rRO_Tk_RX_POFF_H (n k : Nat) : Nat := 0x1021020 + n * 0x100000 + k * 0x80
def fRO_Tk_RX_POFF_H_RX_POFF (n k : Nat) : Fld := ⟨rRO_Tk_RX_POFF_H n k, 15, 0⟩
def rRO_Tk_WIN_DELAY (n k : Nat) : Nat := 0x1021024 + n * 0x100000 + k * 0x80
def fRO_Tk_WIN_DELAY_WIN_DELAY (n k : Nat) : Fld := ⟨rRO_Tk_WIN_DELAY n k, 15, 0⟩
def rRO_Tk_WIN_LEN (n k : Nat) : Nat := 0x1021028 + n * 0x100000 + k * 0x80
def fRO_Tk_WIN_LEN_LEN (n k : Nat) : Fld := ⟨rRO_Tk_WIN_LEN n k, 14, 0⟩
def fRO_Tk_WIN_LEN_NWEIGHT (n k : Nat) : Fld := ⟨rRO_Tk_WIN_LEN n k, 27, 16⟩
def rRO_Tk_WIN_REP (n k : Nat) : Nat := 0x102102c + n * 0x100000 + k * 0x80
def fRO_Tk_WIN_REP_REP (n k : Nat) : Fld := ⟨rRO_Tk_WIN_REP n k, 7, 0⟩
def fRO_Tk_WIN_REP_PERIOD (n k : Nat) : Fld := ⟨rRO_Tk_WIN_REP n k, 31, 16⟩
def rRO_Tk_INJ (n k : Nat) : Nat := 0x1021030 + n * 0x100000 + k * 0x80
def fRO_Tk_INJ_INJ_WAIT (n k : Nat) : Fld := ⟨rRO_Tk_INJ n k, 15, 0⟩
def fRO_Tk_INJ_FEN_EN (n k : Nat) : Fld := ⟨rRO_Tk_INJ n k, 16, 16⟩
def rRO_Tk_RES_CFG (n k : Nat) : Nat := 0x1021034 + n * 0x100000 + k * 0x80
def fRO_Tk_RES_CFG_ALIGN (n k : Nat) : Fld := ⟨rRO_Tk_RES_CFG n k, 0, 0⟩
def fRO_Tk_RES_CFG_POST (n k : Nat) : Fld := ⟨rRO_Tk_RES_CFG n k, 1, 1⟩
def fRO_Tk_RES_CFG_EXT (n k : Nat) : Fld := ⟨rRO_Tk_RES_CFG n k, 3, 2⟩
def fRO_Tk_RES_CFG_ACC_EN (n k : Nat) : Fld := ⟨rRO_Tk_RES_CFG n k, 4, 4⟩
def fRO_Tk_RES_CFG_TRACE_EN (n k : Nat) : Fld := ⟨rRO_Tk_RES_CFG n k, 5, 5⟩
def rRO_Tk_TRACE_CFG (n k : Nat) : Nat := 0x1021038 + n * 0x100000 + k * 0x80
def fRO_Tk_TRACE_CFG_START (n k : Nat) : Fld := ⟨rRO_Tk_TRACE_CFG n k, 13, 0⟩
def fRO_Tk_TRACE_CFG_W (n k : Nat) : Fld := ⟨rRO_Tk_TRACE_CFG n k, 20, 16⟩
def fRO_Tk_TRACE_CFG_NBINS (n k : Nat) : Fld := ⟨rRO_Tk_TRACE_CFG n k, 31, 21⟩
def rRO_Tk_STATE (n k : Nat) : Nat := 0x102103c + n * 0x100000 + k * 0x80
def fRO_Tk_STATE_BUSY (n k : Nat) : Fld := ⟨rRO_Tk_STATE n k, 0, 0⟩
def fRO_Tk_STATE_INJ_PENDING (n k : Nat) : Fld := ⟨rRO_Tk_STATE n k, 1, 1⟩
def fRO_Tk_STATE_MUTED (n k : Nat) : Fld := ⟨rRO_Tk_STATE n k, 2, 2⟩
def fRO_Tk_STATE_ACTIVE (n k : Nat) : Fld := ⟨rRO_Tk_STATE n k, 3, 3⟩
def fRO_Tk_STATE_CUR_SEG (n k : Nat) : Fld := ⟨rRO_Tk_STATE n k, 27, 16⟩
def rRO_Tk_COUNT (n k : Nat) : Nat := 0x1021040 + n * 0x100000 + k * 0x80
def fRO_Tk_COUNT_INJ_DROP (n k : Nat) : Fld := ⟨rRO_Tk_COUNT n k, 15, 0⟩
def fRO_Tk_COUNT_INJ_WAITED (n k : Nat) : Fld := ⟨rRO_Tk_COUNT n k, 23, 16⟩
def fRO_Tk_COUNT_WIN_FAULT (n k : Nat) : Fld := ⟨rRO_Tk_COUNT n k, 31, 24⟩
def rRO_Tk_SHOTS (n k : Nat) : Nat := 0x1021044 + n * 0x100000 + k * 0x80
def fRO_Tk_SHOTS_SHOTS (n k : Nat) : Fld := ⟨rRO_Tk_SHOTS n k, 31, 0⟩
def rRO_Tk_ACC_CTRL (n k : Nat) : Nat := 0x1021048 + n * 0x100000 + k * 0x80
def fRO_Tk_ACC_CTRL_CLR (n k : Nat) : Fld := ⟨rRO_Tk_ACC_CTRL n k, 0, 0⟩
def rRO_Tk_DISC_CFG (n k : Nat) : Nat := 0x1021050 + n * 0x100000 + k * 0x80
def fRO_Tk_DISC_CFG_NLINES (n k : Nat) : Fld := ⟨rRO_Tk_DISC_CFG n k, 1, 0⟩
def fRO_Tk_DISC_CFG_SEQ (n k : Nat) : Fld := ⟨rRO_Tk_DISC_CFG n k, 3, 2⟩
def fRO_Tk_DISC_CFG_DEC_EN (n k : Nat) : Fld := ⟨rRO_Tk_DISC_CFG n k, 4, 4⟩
def fRO_Tk_DISC_CFG_INV_ON_OPEN (n k : Nat) : Fld := ⟨rRO_Tk_DISC_CFG n k, 5, 5⟩
def fRO_Tk_DISC_CFG_MIN_N (n k : Nat) : Fld := ⟨rRO_Tk_DISC_CFG n k, 30, 16⟩
def rRO_Tk_LINEi_AB (n i k : Nat) : Nat := 0x1021054 + n * 0x100000 + i * 0x8 + k * 0x80
def fRO_Tk_LINEi_AB_A (n i k : Nat) : Fld := ⟨rRO_Tk_LINEi_AB n i k, 15, 0⟩
def fRO_Tk_LINEi_AB_B (n i k : Nat) : Fld := ⟨rRO_Tk_LINEi_AB n i k, 31, 16⟩
def rRO_Tk_LINEi_C (n i k : Nat) : Nat := 0x1021058 + n * 0x100000 + i * 0x8 + k * 0x80
def fRO_Tk_LINEi_C_C (n i k : Nat) : Fld := ⟨rRO_Tk_LINEi_C n i k, 31, 0⟩
def rRO_Tk_SEQ_BIAS (n k : Nat) : Nat := 0x102106c + n * 0x100000 + k * 0x80
def fRO_Tk_SEQ_BIAS_BETA (n k : Nat) : Fld := ⟨rRO_Tk_SEQ_BIAS n k, 31, 0⟩
def rRO_Tk_SEQ_THR (n k : Nat) : Nat := 0x1021070 + n * 0x100000 + k * 0x80
def fRO_Tk_SEQ_THR_A (n k : Nat) : Fld := ⟨rRO_Tk_SEQ_THR n k, 31, 0⟩
def rRO_Tk_TRK_CFG (n k : Nat) : Nat := 0x1021074 + n * 0x100000 + k * 0x80
def fRO_Tk_TRK_CFG_MODE (n k : Nat) : Fld := ⟨rRO_Tk_TRK_CFG n k, 1, 0⟩
def fRO_Tk_TRK_CFG_K (n k : Nat) : Fld := ⟨rRO_Tk_TRK_CFG n k, 11, 8⟩
def fRO_Tk_TRK_CFG_HIST_FREEZE (n k : Nat) : Fld := ⟨rRO_Tk_TRK_CFG n k, 12, 12⟩
def fRO_Tk_TRK_CFG_HIST_CLR (n k : Nat) : Fld := ⟨rRO_Tk_TRK_CFG n k, 13, 13⟩
def rRO_Tk_TRK_PIN (n k : Nat) : Nat := 0x1021078 + n * 0x100000 + k * 0x80
def fRO_Tk_TRK_PIN_PIN (n k : Nat) : Fld := ⟨rRO_Tk_TRK_PIN n k, 31, 0⟩
def rRO_Tk_DISC_STATUS (n k : Nat) : Nat := 0x102107c + n * 0x100000 + k * 0x80
def fRO_Tk_DISC_STATUS_SOFT (n k : Nat) : Fld := ⟨rRO_Tk_DISC_STATUS n k, 23, 0⟩
def fRO_Tk_DISC_STATUS_STATE (n k : Nat) : Fld := ⟨rRO_Tk_DISC_STATUS n k, 25, 24⟩
def fRO_Tk_DISC_STATUS_DIVERGED (n k : Nat) : Fld := ⟨rRO_Tk_DISC_STATUS n k, 28, 28⟩
def rRO_Tk_TRK_MU0 (n k : Nat) : Nat := 0x1023000 + n * 0x100000 + k * 0x20
def fRO_Tk_TRK_MU0_MU (n k : Nat) : Fld := ⟨rRO_Tk_TRK_MU0 n k, 31, 0⟩
def rRO_Tk_TRK_MU1 (n k : Nat) : Nat := 0x1023004 + n * 0x100000 + k * 0x20
def fRO_Tk_TRK_MU1_MU (n k : Nat) : Fld := ⟨rRO_Tk_TRK_MU1 n k, 31, 0⟩
def rRO_Tk_TRK_EST (n k : Nat) : Nat := 0x1023008 + n * 0x100000 + k * 0x20
def fRO_Tk_TRK_EST_THETA_T (n k : Nat) : Fld := ⟨rRO_Tk_TRK_EST n k, 31, 0⟩
def rRO_Tk_TRK_HIST_CFG (n k : Nat) : Nat := 0x102300c + n * 0x100000 + k * 0x20
def fRO_Tk_TRK_HIST_CFG_HIST_LO (n k : Nat) : Fld := ⟨rRO_Tk_TRK_HIST_CFG n k, 23, 0⟩
def fRO_Tk_TRK_HIST_CFG_HIST_SHIFT (n k : Nat) : Fld := ⟨rRO_Tk_TRK_HIST_CFG n k, 28, 24⟩
def rRO_Tk_TRK_DIV (n k : Nat) : Nat := 0x1023010 + n * 0x100000 + k * 0x20
def fRO_Tk_TRK_DIV_DIV_LIM (n k : Nat) : Fld := ⟨rRO_Tk_TRK_DIV n k, 31, 0⟩
def rRO_Tk_TRK_COUNT (n k : Nat) : Nat := 0x1023014 + n * 0x100000 + k * 0x20
def fRO_Tk_TRK_COUNT_UPDATES (n k : Nat) : Fld := ⟨rRO_Tk_TRK_COUNT n k, 23, 0⟩
def fRO_Tk_TRK_COUNT_DIVERGE (n k : Nat) : Fld := ⟨rRO_Tk_TRK_COUNT n k, 31, 24⟩
def rRO_Tk_DISC_COUNT (n k : Nat) : Nat := 0x1023018 + n * 0x100000 + k * 0x20
def fRO_Tk_DISC_COUNT_DECISIONS (n k : Nat) : Fld := ⟨rRO_Tk_DISC_COUNT n k, 15, 0⟩
def fRO_Tk_DISC_COUNT_UNDECIDED (n k : Nat) : Fld := ⟨rRO_Tk_DISC_COUNT n k, 31, 16⟩
def rRO_Tk_TRK_HIST_b (n k b : Nat) : Nat := 0x1024000 + n * 0x100000 + k * 0x400 + b * 0x4
def fRO_Tk_TRK_HIST_b_COUNT (n k b : Nat) : Fld := ⟨rRO_Tk_TRK_HIST_b n k b, 31, 0⟩
def rRC_i_CTRL (n i : Nat) : Nat := 0x1050000 + n * 0x100000 + i * 0x1000
def fRC_i_CTRL_DBG_HALT (n i : Nat) : Fld := ⟨rRC_i_CTRL n i, 0, 0⟩
def fRC_i_CTRL_STEP (n i : Nat) : Fld := ⟨rRC_i_CTRL n i, 1, 1⟩
def rRC_i_STATUS (n i : Nat) : Nat := 0x1050004 + n * 0x100000 + i * 0x1000
def fRC_i_STATUS_STATE (n i : Nat) : Fld := ⟨rRC_i_STATUS n i, 2, 0⟩
def fRC_i_STATUS_CL (n i : Nat) : Fld := ⟨rRC_i_STATUS n i, 5, 4⟩
def fRC_i_STATUS_REFUSED (n i : Nat) : Fld := ⟨rRC_i_STATUS n i, 8, 8⟩
def fRC_i_STATUS_REASON (n i : Nat) : Fld := ⟨rRC_i_STATUS n i, 23, 16⟩
def fRC_i_STATUS_QLEVEL (n i : Nat) : Fld := ⟨rRC_i_STATUS n i, 30, 24⟩
def rRC_i_IMG (n i : Nat) : Nat := 0x1050008 + n * 0x100000 + i * 0x1000
def fRC_i_IMG_NBUNDLE (n i : Nat) : Fld := ⟨rRC_i_IMG n i, 14, 0⟩
def fRC_i_IMG_VBASE (n i : Nat) : Fld := ⟨rRC_i_IMG n i, 29, 16⟩
def fRC_i_IMG_NO_VEC (n i : Nat) : Fld := ⟨rRC_i_IMG n i, 31, 31⟩
def rRC_i_PC (n i : Nat) : Nat := 0x105000c + n * 0x100000 + i * 0x1000
def fRC_i_PC_PC (n i : Nat) : Fld := ⟨rRC_i_PC n i, 13, 0⟩
def rRC_i_ST_L (n i : Nat) : Nat := 0x1050010 + n * 0x100000 + i * 0x1000
def fRC_i_ST_L_ST (n i : Nat) : Fld := ⟨rRC_i_ST_L n i, 31, 0⟩
def rRC_i_ST_H (n i : Nat) : Nat := 0x1050014 + n * 0x100000 + i * 0x1000
def fRC_i_ST_H_ST (n i : Nat) : Fld := ⟨rRC_i_ST_H n i, 31, 0⟩
def rRC_i_TQ (n i : Nat) : Nat := 0x1050018 + n * 0x100000 + i * 0x1000
def fRC_i_TQ_LOWMARK (n i : Nat) : Fld := ⟨rRC_i_TQ n i, 6, 0⟩
def fRC_i_TQ_MAXLEVEL (n i : Nat) : Fld := ⟨rRC_i_TQ n i, 22, 16⟩
def rRC_i_IRQ_CTRL (n i : Nat) : Nat := 0x1050020 + n * 0x100000 + i * 0x1000
def fRC_i_IRQ_CTRL_IE1 (n i : Nat) : Fld := ⟨rRC_i_IRQ_CTRL n i, 0, 0⟩
def fRC_i_IRQ_CTRL_IE2 (n i : Nat) : Fld := ⟨rRC_i_IRQ_CTRL n i, 1, 1⟩
def fRC_i_IRQ_CTRL_TIMER_ARM (n i : Nat) : Fld := ⟨rRC_i_IRQ_CTRL n i, 8, 8⟩
def rRC_i_IRQ_EN (n i : Nat) : Nat := 0x1050024 + n * 0x100000 + i * 0x1000
def fRC_i_IRQ_EN_EN (n i : Nat) : Fld := ⟨rRC_i_IRQ_EN n i, 10, 0⟩
def rRC_i_IRQ_LVL (n i : Nat) : Nat := 0x1050028 + n * 0x100000 + i * 0x1000
def fRC_i_IRQ_LVL_LVL (n i : Nat) : Fld := ⟨rRC_i_IRQ_LVL n i, 10, 0⟩
def rRC_i_IRQ_PEND (n i : Nat) : Nat := 0x105002c + n * 0x100000 + i * 0x1000
def fRC_i_IRQ_PEND_PEND (n i : Nat) : Fld := ⟨rRC_i_IRQ_PEND n i, 10, 0⟩
def rRC_i_ELR (n i : Nat) : Nat := 0x1050030 + n * 0x100000 + i * 0x1000
def fRC_i_ELR_ELR1 (n i : Nat) : Fld := ⟨rRC_i_ELR n i, 13, 0⟩
def fRC_i_ELR_ELR2 (n i : Nat) : Fld := ⟨rRC_i_ELR n i, 29, 16⟩
def rRC_i_DECWATCH (n i : Nat) : Nat := 0x1050034 + n * 0x100000 + i * 0x1000
def fRC_i_DECWATCH_SLOT (n i : Nat) : Fld := ⟨rRC_i_DECWATCH n i, 9, 0⟩
def rRC_i_TIMER_L (n i : Nat) : Nat := 0x1050038 + n * 0x100000 + i * 0x1000
def fRC_i_TIMER_L_TIME (n i : Nat) : Fld := ⟨rRC_i_TIMER_L n i, 31, 0⟩
def rRC_i_TIMER_H (n i : Nat) : Nat := 0x105003c + n * 0x100000 + i * 0x1000
def fRC_i_TIMER_H_TIME (n i : Nat) : Fld := ⟨rRC_i_TIMER_H n i, 31, 0⟩
def rRC_i_MAILBOX (n i : Nat) : Nat := 0x1050040 + n * 0x100000 + i * 0x1000
def fRC_i_MAILBOX_DATA (n i : Nat) : Fld := ⟨rRC_i_MAILBOX n i, 31, 0⟩
def rRC_i_COUNT_A (n i : Nat) : Nat := 0x1050050 + n * 0x100000 + i * 0x1000
def fRC_i_COUNT_A_LATE (n i : Nat) : Fld := ⟨rRC_i_COUNT_A n i, 15, 0⟩
def fRC_i_COUNT_A_MISSING (n i : Nat) : Fld := ⟨rRC_i_COUNT_A n i, 31, 16⟩
def rRC_i_COUNT_B (n i : Nat) : Nat := 0x1050054 + n * 0x100000 + i * 0x1000
def fRC_i_COUNT_B_FLUSHED (n i : Nat) : Fld := ⟨rRC_i_COUNT_B n i, 11, 0⟩
def fRC_i_COUNT_B_DISABLED (n i : Nat) : Fld := ⟨rRC_i_COUNT_B n i, 19, 12⟩
def fRC_i_COUNT_B_CPLAY_S2 (n i : Nat) : Fld := ⟨rRC_i_COUNT_B n i, 31, 20⟩
def rRC_i_CMDSEQ (n i : Nat) : Nat := 0x1050058 + n * 0x100000 + i * 0x1000
def fRC_i_CMDSEQ_NEXT (n i : Nat) : Fld := ⟨rRC_i_CMDSEQ n i, 31, 0⟩
def rRC_i_FAULT_CODE (n i : Nat) : Nat := 0x1050060 + n * 0x100000 + i * 0x1000
def fRC_i_FAULT_CODE_CODE (n i : Nat) : Fld := ⟨rRC_i_FAULT_CODE n i, 15, 0⟩
def fRC_i_FAULT_CODE_CMD (n i : Nat) : Fld := ⟨rRC_i_FAULT_CODE n i, 31, 16⟩
def rRC_i_FAULT_PC (n i : Nat) : Nat := 0x1050064 + n * 0x100000 + i * 0x1000
def fRC_i_FAULT_PC_PC (n i : Nat) : Fld := ⟨rRC_i_FAULT_PC n i, 13, 0⟩
def rRC_i_FAULT_ST_L (n i : Nat) : Nat := 0x1050068 + n * 0x100000 + i * 0x1000
def fRC_i_FAULT_ST_L_TIME (n i : Nat) : Fld := ⟨rRC_i_FAULT_ST_L n i, 31, 0⟩
def rRC_i_FAULT_ST_H (n i : Nat) : Nat := 0x105006c + n * 0x100000 + i * 0x1000
def fRC_i_FAULT_ST_H_TIME (n i : Nat) : Fld := ⟨rRC_i_FAULT_ST_H n i, 31, 0⟩
def rRC_i_LAST_COMMIT_SEQ (n i : Nat) : Nat := 0x1050070 + n * 0x100000 + i * 0x1000
def fRC_i_LAST_COMMIT_SEQ_SEQ (n i : Nat) : Fld := ⟨rRC_i_LAST_COMMIT_SEQ n i, 31, 0⟩
def rRC_i_LAST_COMMIT_L (n i : Nat) : Nat := 0x1050074 + n * 0x100000 + i * 0x1000
def fRC_i_LAST_COMMIT_L_T (n i : Nat) : Fld := ⟨rRC_i_LAST_COMMIT_L n i, 31, 0⟩
def rRC_i_LAST_COMMIT_H (n i : Nat) : Nat := 0x1050078 + n * 0x100000 + i * 0x1000
def fRC_i_LAST_COMMIT_H_T (n i : Nat) : Fld := ⟨rRC_i_LAST_COMMIT_H n i, 31, 0⟩
def rRC_PFR_CODE (n : Nat) : Nat := 0x1054000 + n * 0x100000
def fRC_PFR_CODE_CODE (n : Nat) : Fld := ⟨rRC_PFR_CODE n, 15, 0⟩
def fRC_PFR_CODE_COUNT (n : Nat) : Fld := ⟨rRC_PFR_CODE n, 31, 16⟩
def rRC_PFR_SRC (n : Nat) : Nat := 0x1054004 + n * 0x100000
def fRC_PFR_SRC_UNIT (n : Nat) : Fld := ⟨rRC_PFR_SRC n, 3, 0⟩
def fRC_PFR_SRC_INDEX (n : Nat) : Fld := ⟨rRC_PFR_SRC n, 15, 8⟩
def rRC_PFR_TIME_L (n : Nat) : Nat := 0x1054008 + n * 0x100000
def fRC_PFR_TIME_L_TIME (n : Nat) : Fld := ⟨rRC_PFR_TIME_L n, 31, 0⟩
def rRC_PFR_TIME_H (n : Nat) : Nat := 0x105400c + n * 0x100000
def fRC_PFR_TIME_H_TIME (n : Nat) : Fld := ⟨rRC_PFR_TIME_H n, 31, 0⟩
def rSDG_CTRL : Nat := 0x2000000
def fSDG_CTRL_ENABLE : Fld := ⟨rSDG_CTRL, 0, 0⟩
def fSDG_CTRL_START : Fld := ⟨rSDG_CTRL, 1, 1⟩
def fSDG_CTRL_FLUSH : Fld := ⟨rSDG_CTRL, 2, 2⟩
def fSDG_CTRL_STOP : Fld := ⟨rSDG_CTRL, 3, 3⟩
def fSDG_CTRL_FRAME_CLR : Fld := ⟨rSDG_CTRL, 4, 4⟩
def rSDG_STATUS : Nat := 0x2000004
def fSDG_STATUS_ENABLED : Fld := ⟨rSDG_STATUS, 0, 0⟩
def fSDG_STATUS_STATE : Fld := ⟨rSDG_STATUS, 3, 1⟩
def fSDG_STATUS_REFUSED : Fld := ⟨rSDG_STATUS, 4, 4⟩
def fSDG_STATUS_REASON : Fld := ⟨rSDG_STATUS, 15, 8⟩
def fSDG_STATUS_ITEM : Fld := ⟨rSDG_STATUS, 26, 16⟩
def rSDG_CFG : Nat := 0x2000008
def fSDG_CFG_W : Fld := ⟨rSDG_CFG, 5, 0⟩
def fSDG_CFG_C : Fld := ⟨rSDG_CFG, 13, 8⟩
def fSDG_CFG_BACKLOG_MAX : Fld := ⟨rSDG_CFG, 23, 16⟩
def rSDG_ROUND_P : Nat := 0x200000c
def fSDG_ROUND_P_P : Fld := ⟨rSDG_ROUND_P, 31, 0⟩
def rSDG_ROUND_T0_L : Nat := 0x2000010
def fSDG_ROUND_T0_L_T0 : Fld := ⟨rSDG_ROUND_T0_L, 31, 0⟩
def rSDG_ROUND_T0_H : Nat := 0x2000014
def fSDG_ROUND_T0_H_T0 : Fld := ⟨rSDG_ROUND_T0_H, 31, 0⟩
def rSDG_SKEW : Nat := 0x2000018
def fSDG_SKEW_SKEW : Fld := ⟨rSDG_SKEW, 31, 0⟩
def rSDG_BND_TIMEOUT : Nat := 0x200001c
def fSDG_BND_TIMEOUT_TIMEOUT : Fld := ⟨rSDG_BND_TIMEOUT, 31, 0⟩
def rSDG_MIRROR : Nat := 0x2000020
def fSDG_MIRROR_POOL_MASK : Fld := ⟨rSDG_MIRROR, 15, 0⟩
def rSDG_GRAPH : Nat := 0x2000024
def fSDG_GRAPH_ND : Fld := ⟨rSDG_GRAPH, 12, 0⟩
def fSDG_GRAPH_NNB : Fld := ⟨rSDG_GRAPH, 15, 13⟩
def fSDG_GRAPH_LOADED : Fld := ⟨rSDG_GRAPH, 16, 16⟩
def rSDG_FLUSH_ROUND : Nat := 0x2000028
def fSDG_FLUSH_ROUND_ROUND : Fld := ⟨rSDG_FLUSH_ROUND, 31, 0⟩
def rSDG_FIRST_ROUND : Nat := 0x200002c
def fSDG_FIRST_ROUND_ROUND : Fld := ⟨rSDG_FIRST_ROUND, 31, 0⟩
def rSDG_ROUND_CLOSED : Nat := 0x2000030
def fSDG_ROUND_CLOSED_ROUND : Fld := ⟨rSDG_ROUND_CLOSED, 31, 0⟩
def rSDG_ROUND_COMMITTED : Nat := 0x2000034
def fSDG_ROUND_COMMITTED_ROUND : Fld := ⟨rSDG_ROUND_COMMITTED, 31, 0⟩
def rSDG_BACKLOG : Nat := 0x2000038
def fSDG_BACKLOG_NOW : Fld := ⟨rSDG_BACKLOG, 7, 0⟩
def fSDG_BACKLOG_MAX : Fld := ⟨rSDG_BACKLOG, 15, 8⟩
def rSDG_LAST_COMMIT_T_L : Nat := 0x200003c
def fSDG_LAST_COMMIT_T_L_T : Fld := ⟨rSDG_LAST_COMMIT_T_L, 31, 0⟩
def rSDG_LAST_COMMIT_T_H : Nat := 0x2000040
def fSDG_LAST_COMMIT_T_H_T : Fld := ⟨rSDG_LAST_COMMIT_T_H, 31, 0⟩
def rSDG_UNTRUSTED : Nat := 0x2000044
def fSDG_UNTRUSTED_FLAG : Fld := ⟨rSDG_UNTRUSTED, 0, 0⟩
def rSDG_UNTR_FIRST : Nat := 0x2000048
def fSDG_UNTR_FIRST_ROUND : Fld := ⟨rSDG_UNTR_FIRST, 31, 0⟩
def rSDG_UNTR_LAST : Nat := 0x200004c
def fSDG_UNTR_LAST_ROUND : Fld := ⟨rSDG_UNTR_LAST, 31, 0⟩
def rSDG_OBS_L : Nat := 0x2000050
def fSDG_OBS_L_OBS : Fld := ⟨rSDG_OBS_L, 31, 0⟩
def rSDG_OBS_H : Nat := 0x2000054
def fSDG_OBS_H_OBS : Fld := ⟨rSDG_OBS_H, 31, 0⟩
def rSDG_COUNT_A : Nat := 0x2000060
def fSDG_COUNT_A_MISSING : Fld := ⟨rSDG_COUNT_A, 23, 0⟩
def fSDG_COUNT_A_EXTRA : Fld := ⟨rSDG_COUNT_A, 31, 24⟩
def rSDG_COUNT_B : Nat := 0x2000064
def fSDG_COUNT_B_UNRESOLVED : Fld := ⟨rSDG_COUNT_B, 15, 0⟩
def fSDG_COUNT_B_BACKLOG : Fld := ⟨rSDG_COUNT_B, 31, 16⟩
def rSDG_NBk_STATUS (k : Nat) : Nat := 0x2000100 + k * 0x10
def fSDG_NBk_STATUS_STATE (k : Nat) : Fld := ⟨rSDG_NBk_STATUS k, 2, 0⟩
def fSDG_NBk_STATUS_LATE (k : Nat) : Fld := ⟨rSDG_NBk_STATUS k, 15, 8⟩
def fSDG_NBk_STATUS_NB_UNTR (k : Nat) : Fld := ⟨rSDG_NBk_STATUS k, 23, 16⟩
def rSDG_NBk_DISAGREE (k : Nat) : Nat := 0x2000104 + k * 0x10
def fSDG_NBk_DISAGREE_DISAGREE (k : Nat) : Fld := ⟨rSDG_NBk_DISAGREE k, 15, 0⟩
def fSDG_NBk_DISAGREE_TIMEOUT (k : Nat) : Fld := ⟨rSDG_NBk_DISAGREE k, 31, 16⟩
def rSDG_MAP_s (s : Nat) : Nat := 0x2001000 + s * 0x4
def fSDG_MAP_s_EN (s : Nat) : Fld := ⟨rSDG_MAP_s s, 0, 0⟩
def fSDG_MAP_s_DET_BASE (s : Nat) : Fld := ⟨rSDG_MAP_s s, 13, 2⟩
def fSDG_MAP_s_K (s : Nat) : Fld := ⟨rSDG_MAP_s s, 18, 16⟩
def fSDG_MAP_s_S2 (s : Nat) : Fld := ⟨rSDG_MAP_s s, 21, 20⟩
def rSDG_FRAME_q (q : Nat) : Nat := 0x2002000 + q * 0x4
def fSDG_FRAME_q_X (q : Nat) : Fld := ⟨rSDG_FRAME_q q, 0, 0⟩
def fSDG_FRAME_q_Z (q : Nat) : Fld := ⟨rSDG_FRAME_q q, 1, 1⟩
def fSDG_FRAME_q_UNTRUSTED (q : Nat) : Fld := ⟨rSDG_FRAME_q q, 2, 2⟩
def rSDG_LOG_i (i : Nat) : Nat := 0x2003000 + i * 0x4
def fSDG_LOG_i_ROUND (i : Nat) : Fld := ⟨rSDG_LOG_i i, 23, 0⟩
def fSDG_LOG_i_COMMITTED (i : Nat) : Fld := ⟨rSDG_LOG_i i, 24, 24⟩
def fSDG_LOG_i_UNTRUSTED (i : Nat) : Fld := ⟨rSDG_LOG_i i, 25, 25⟩
def fSDG_LOG_i_MISSING (i : Nat) : Fld := ⟨rSDG_LOG_i i, 26, 26⟩
def fSDG_LOG_i_SEAM_OPEN (i : Nat) : Fld := ⟨rSDG_LOG_i i, 27, 27⟩
def fSDG_LOG_i_UNRESOLVED (i : Nat) : Fld := ⟨rSDG_LOG_i i, 28, 28⟩
def fSDG_LOG_i_NB_UNTRUSTED (i : Nat) : Fld := ⟨rSDG_LOG_i i, 29, 29⟩
def rFEN_STATUS : Nat := 0x2100000
def fFEN_STATUS_REFUSED : Fld := ⟨rFEN_STATUS, 1, 1⟩
def fFEN_STATUS_REASON : Fld := ⟨rFEN_STATUS, 15, 8⟩
def fFEN_STATUS_ITEM : Fld := ⟨rFEN_STATUS, 26, 16⟩
def rFEN_LOOP_CFG : Nat := 0x2100004
def fFEN_LOOP_CFG_LOOP_MAX : Fld := ⟨rFEN_LOOP_CFG, 6, 0⟩
def rFEN_SEC_LOG : Nat := 0x2100008
def fFEN_SEC_LOG_COUNT : Fld := ⟨rFEN_SEC_LOG, 15, 0⟩
def rFEN_SEC_ADDR : Nat := 0x210000c
def fFEN_SEC_ADDR_OFFSET : Fld := ⟨rFEN_SEC_ADDR, 15, 0⟩
def fFEN_SEC_ADDR_REQ : Fld := ⟨rFEN_SEC_ADDR, 18, 16⟩
def fFEN_SEC_ADDR_REQ_S : Fld := ⟨rFEN_SEC_ADDR, 19, 19⟩
def rFEN_SWEV : Nat := 0x2100010
def fFEN_SWEV_FIRE : Fld := ⟨rFEN_SWEV, 15, 0⟩
def rFEN_FLAG_w (w : Nat) : Nat := 0x2100100 + w * 0x4
def fFEN_FLAG_w_BITS (w : Nat) : Fld := ⟨rFEN_FLAG_w w, 31, 0⟩
def rFEN_OVR_w (w : Nat) : Nat := 0x2100140 + w * 0x4
def fFEN_OVR_w_BITS (w : Nat) : Fld := ⟨rFEN_OVR_w w, 31, 0⟩
def rFEN_LOOPTRIP_w (w : Nat) : Nat := 0x2100180 + w * 0x4
def fFEN_LOOPTRIP_w_BITS (w : Nat) : Fld := ⟨rFEN_LOOPTRIP_w w, 31, 0⟩
def rFEN_CNT_j_CFG (j : Nat) : Nat := 0x2100200 + j * 0x8
def fFEN_CNT_j_CFG_CH (j : Nat) : Fld := ⟨rFEN_CNT_j_CFG j, 7, 0⟩
def fFEN_CNT_j_CFG_EN (j : Nat) : Fld := ⟨rFEN_CNT_j_CFG j, 8, 8⟩
def rFEN_CNT_j (j : Nat) : Nat := 0x2100204 + j * 0x8
def fFEN_CNT_j_COUNT (j : Nat) : Fld := ⟨rFEN_CNT_j j, 31, 0⟩
def rFEN_CH_c (c : Nat) : Nat := 0x2101000 + c * 0x4
def fFEN_CH_c_EN (c : Nat) : Fld := ⟨rFEN_CH_c c, 0, 0⟩
def fFEN_CH_c_LOOP_OK (c : Nat) : Fld := ⟨rFEN_CH_c c, 1, 1⟩
def fFEN_CH_c_REARM (c : Nat) : Fld := ⟨rFEN_CH_c c, 5, 2⟩
def fFEN_CH_c_SRC (c : Nat) : Fld := ⟨rFEN_CH_c c, 17, 8⟩
def fFEN_CH_c_OWNER (c : Nat) : Fld := ⟨rFEN_CH_c c, 26, 24⟩
def fFEN_CH_c_SEC (c : Nat) : Fld := ⟨rFEN_CH_c c, 27, 27⟩
def rFEN_TI_i (i : Nat) : Nat := 0x2102000 + i * 0x8
def fFEN_TI_i_EN (i : Nat) : Fld := ⟨rFEN_TI_i i, 0, 0⟩
def fFEN_TI_i_CH (i : Nat) : Fld := ⟨rFEN_TI_i i, 15, 8⟩
def fFEN_TI_i_TASK (i : Nat) : Fld := ⟨rFEN_TI_i i, 27, 16⟩
def fFEN_TI_i_OWNER (i : Nat) : Fld := ⟨rFEN_TI_i i, 30, 28⟩
def fFEN_TI_i_SEC (i : Nat) : Fld := ⟨rFEN_TI_i i, 31, 31⟩
def rFEN_TI_i_COUNT (i : Nat) : Nat := 0x2102004 + i * 0x8
def fFEN_TI_i_COUNT_COINCIDE (i : Nat) : Fld := ⟨rFEN_TI_i_COUNT i, 7, 0⟩
def fFEN_TI_i_COUNT_DROP (i : Nat) : Fld := ⟨rFEN_TI_i_COUNT i, 15, 8⟩
def fFEN_TI_i_COUNT_OVF (i : Nat) : Fld := ⟨rFEN_TI_i_COUNT i, 16, 16⟩
def rDN_CTRL : Nat := 0x2108000
def fDN_CTRL_ENABLE : Fld := ⟨rDN_CTRL, 0, 0⟩
def fDN_CTRL_IMP_CLR : Fld := ⟨rDN_CTRL, 1, 1⟩
def rDN_STATUS : Nat := 0x2108004
def fDN_STATUS_ENABLED : Fld := ⟨rDN_STATUS, 0, 0⟩
def fDN_STATUS_REFUSED : Fld := ⟨rDN_STATUS, 1, 1⟩
def fDN_STATUS_REASON : Fld := ⟨rDN_STATUS, 15, 8⟩
def fDN_STATUS_ITEM : Fld := ⟨rDN_STATUS, 31, 16⟩
def rDN_COUNT_A : Nat := 0x2108008
def fDN_COUNT_A_EXPORTED : Fld := ⟨rDN_COUNT_A, 15, 0⟩
def fDN_COUNT_A_IMPORTED : Fld := ⟨rDN_COUNT_A, 31, 16⟩
def rDN_COUNT_B : Nat := 0x210800c
def fDN_COUNT_B_GAP_INVAL : Fld := ⟨rDN_COUNT_B, 15, 0⟩
def rDN_SLOT_s (s : Nat) : Nat := 0x2109000 + s * 0x4
def fDN_SLOT_s_STATE (s : Nat) : Fld := ⟨rDN_SLOT_s s, 1, 0⟩
def fDN_SLOT_s_VALID (s : Nat) : Fld := ⟨rDN_SLOT_s s, 2, 2⟩
def fDN_SLOT_s_SEQ (s : Nat) : Fld := ⟨rDN_SLOT_s s, 7, 4⟩
def rDN_EXP_e (e : Nat) : Nat := 0x210a000 + e * 0x8
def fDN_EXP_e_SLOT (e : Nat) : Fld := ⟨rDN_EXP_e e, 8, 0⟩
def fDN_EXP_e_EN (e : Nat) : Fld := ⟨rDN_EXP_e e, 16, 16⟩
def rDN_EXP_e_DEST (e : Nat) : Nat := 0x210a004 + e * 0x8
def fDN_EXP_e_DEST_DEST (e : Nat) : Fld := ⟨rDN_EXP_e_DEST e, 13, 0⟩
def fDN_EXP_e_DEST_ENTRY (e : Nat) : Fld := ⟨rDN_EXP_e_DEST e, 24, 16⟩
def rCW_Pp_CTRL (p : Nat) : Nat := 0x2200000 + p * 0x10000
def fCW_Pp_CTRL_ENABLE (p : Nat) : Fld := ⟨rCW_Pp_CTRL p, 0, 0⟩
def fCW_Pp_CTRL_RESET (p : Nat) : Fld := ⟨rCW_Pp_CTRL p, 1, 1⟩
def fCW_Pp_CTRL_RETRAIN (p : Nat) : Fld := ⟨rCW_Pp_CTRL p, 2, 2⟩
def fCW_Pp_CTRL_LOOPBACK (p : Nat) : Fld := ⟨rCW_Pp_CTRL p, 3, 3⟩
def rCW_Pp_CFG (p : Nat) : Nat := 0x2200004 + p * 0x10000
def fCW_Pp_CFG_LANE_EN (p : Nat) : Fld := ⟨rCW_Pp_CFG p, 3, 0⟩
def fCW_Pp_CFG_AUTO (p : Nat) : Fld := ⟨rCW_Pp_CFG p, 4, 4⟩
def fCW_Pp_CFG_TRAIN_TO (p : Nat) : Fld := ⟨rCW_Pp_CFG p, 15, 8⟩
def fCW_Pp_CFG_DOWN_TIME (p : Nat) : Fld := ⟨rCW_Pp_CFG p, 23, 16⟩
def rCW_Pp_LANEMAP (p : Nat) : Nat := 0x2200008 + p * 0x10000
def fCW_Pp_LANEMAP_TX_MAP (p : Nat) : Fld := ⟨rCW_Pp_LANEMAP p, 7, 0⟩
def fCW_Pp_LANEMAP_TX_INV (p : Nat) : Fld := ⟨rCW_Pp_LANEMAP p, 11, 8⟩
def fCW_Pp_LANEMAP_RX_INV (p : Nat) : Fld := ⟨rCW_Pp_LANEMAP p, 15, 12⟩
def rCW_Pp_STATUS (p : Nat) : Nat := 0x220000c + p * 0x10000
def fCW_Pp_STATUS_STATE (p : Nat) : Fld := ⟨rCW_Pp_STATUS p, 2, 0⟩
def fCW_Pp_STATUS_LANES (p : Nat) : Fld := ⟨rCW_Pp_STATUS p, 7, 4⟩
def fCW_Pp_STATUS_DEGRADED (p : Nat) : Fld := ⟨rCW_Pp_STATUS p, 8, 8⟩
def fCW_Pp_STATUS_DOWN (p : Nat) : Fld := ⟨rCW_Pp_STATUS p, 9, 9⟩
def fCW_Pp_STATUS_REFUSED (p : Nat) : Fld := ⟨rCW_Pp_STATUS p, 16, 16⟩
def fCW_Pp_STATUS_REASON (p : Nat) : Fld := ⟨rCW_Pp_STATUS p, 31, 24⟩
def rCW_Pp_PARTNER (p : Nat) : Nat := 0x2200010 + p * 0x10000
def fCW_Pp_PARTNER_NODE_ID (p : Nat) : Fld := ⟨rCW_Pp_PARTNER p, 13, 0⟩
def fCW_Pp_PARTNER_PORT (p : Nat) : Fld := ⟨rCW_Pp_PARTNER p, 18, 16⟩
def fCW_Pp_PARTNER_STRAP (p : Nat) : Fld := ⟨rCW_Pp_PARTNER p, 23, 20⟩
def fCW_Pp_PARTNER_VALID (p : Nat) : Fld := ⟨rCW_Pp_PARTNER p, 24, 24⟩
def rCW_Pp_POL (p : Nat) : Nat := 0x2200014 + p * 0x10000
def fCW_Pp_POL_DEPTH (p : Nat) : Fld := ⟨rCW_Pp_POL p, 6, 0⟩
def fCW_Pp_POL_TOKENS (p : Nat) : Fld := ⟨rCW_Pp_POL p, 14, 8⟩
def rCW_Pp_C0_DECL (p : Nat) : Nat := 0x2200018 + p * 0x10000
def fCW_Pp_C0_DECL_EXPORT (p : Nat) : Fld := ⟨rCW_Pp_C0_DECL p, 7, 0⟩
def fCW_Pp_C0_DECL_TRANSIT (p : Nat) : Fld := ⟨rCW_Pp_C0_DECL p, 15, 8⟩
def fCW_Pp_C0_DECL_BURST (p : Nat) : Fld := ⟨rCW_Pp_C0_DECL p, 21, 16⟩
def rCW_Pp_C0_LOAD (p : Nat) : Nat := 0x220001c + p * 0x10000
def fCW_Pp_C0_LOAD_LOAD (p : Nat) : Fld := ⟨rCW_Pp_C0_LOAD p, 15, 0⟩
def fCW_Pp_C0_LOAD_BURST (p : Nat) : Fld := ⟨rCW_Pp_C0_LOAD p, 23, 16⟩
def rCW_Pp_COUNT_A (p : Nat) : Nat := 0x2200020 + p * 0x10000
def fCW_Pp_COUNT_A_CRC_DROP (p : Nat) : Fld := ⟨rCW_Pp_COUNT_A p, 15, 0⟩
def fCW_Pp_COUNT_A_C0_DROP (p : Nat) : Fld := ⟨rCW_Pp_COUNT_A p, 31, 16⟩
def rCW_Pp_COUNT_B (p : Nat) : Nat := 0x2200024 + p * 0x10000
def fCW_Pp_COUNT_B_REPLAY (p : Nat) : Fld := ⟨rCW_Pp_COUNT_B p, 15, 0⟩
def fCW_Pp_COUNT_B_RETRAIN (p : Nat) : Fld := ⟨rCW_Pp_COUNT_B p, 23, 16⟩
def fCW_Pp_COUNT_B_NAK (p : Nat) : Fld := ⟨rCW_Pp_COUNT_B p, 31, 24⟩
def rCW_Pp_COUNT_C (p : Nat) : Nat := 0x2200028 + p * 0x10000
def fCW_Pp_COUNT_C_POL_WAIT (p : Nat) : Fld := ⟨rCW_Pp_COUNT_C p, 11, 0⟩
def fCW_Pp_COUNT_C_LOST (p : Nat) : Fld := ⟨rCW_Pp_COUNT_C p, 23, 12⟩
def fCW_Pp_COUNT_C_BAD_KIND (p : Nat) : Fld := ⟨rCW_Pp_COUNT_C p, 31, 24⟩
def rCW_CTRL : Nat := 0x2280000
def fCW_CTRL_ENABLE : Fld := ⟨rCW_CTRL, 0, 0⟩
def rCW_STATUS : Nat := 0x2280004
def fCW_STATUS_ENABLED : Fld := ⟨rCW_STATUS, 0, 0⟩
def fCW_STATUS_REFUSED : Fld := ⟨rCW_STATUS, 1, 1⟩
def fCW_STATUS_DUP_SEEN : Fld := ⟨rCW_STATUS, 2, 2⟩
def fCW_STATUS_REASON : Fld := ⟨rCW_STATUS, 15, 8⟩
def fCW_STATUS_ITEM : Fld := ⟨rCW_STATUS, 31, 16⟩
def rCW_NODE : Nat := 0x2280008
def fCW_NODE_ID : Fld := ⟨rCW_NODE, 13, 0⟩
def fCW_NODE_STRAP : Fld := ⟨rCW_NODE, 19, 16⟩
def rCW_DIM_d (d : Nat) : Nat := 0x2280010 + d * 0x4
def fCW_DIM_d_BITS (d : Nat) : Fld := ⟨rCW_DIM_d d, 3, 0⟩
def fCW_DIM_d_SIZE (d : Nat) : Fld := ⟨rCW_DIM_d d, 18, 4⟩
def fCW_DIM_d_WRAP (d : Nat) : Fld := ⟨rCW_DIM_d d, 20, 20⟩
def fCW_DIM_d_PLUS_PORT (d : Nat) : Fld := ⟨rCW_DIM_d d, 26, 24⟩
def fCW_DIM_d_MINUS_PORT (d : Nat) : Fld := ⟨rCW_DIM_d d, 30, 28⟩
def rCW_MGMT : Nat := 0x2280020
def fCW_MGMT_WR_EN : Fld := ⟨rCW_MGMT, 0, 0⟩
def rCW_BOARD : Nat := 0x2280024
def fCW_BOARD_REFOUT_EN : Fld := ⟨rCW_BOARD, 0, 0⟩
def fCW_BOARD_RDY_HOLD : Fld := ⟨rCW_BOARD, 1, 1⟩
def fCW_BOARD_CHILD_MASK : Fld := ⟨rCW_BOARD, 15, 8⟩
def rCW_RDY_STATUS : Nat := 0x2280028
def fCW_RDY_STATUS_BOARD : Fld := ⟨rCW_RDY_STATUS, 0, 0⟩
def fCW_RDY_STATUS_SELF : Fld := ⟨rCW_RDY_STATUS, 1, 1⟩
def fCW_RDY_STATUS_SUB : Fld := ⟨rCW_RDY_STATUS, 2, 2⟩
def fCW_RDY_STATUS_MACHINE : Fld := ⟨rCW_RDY_STATUS, 3, 3⟩
def fCW_RDY_STATUS_SILENT : Fld := ⟨rCW_RDY_STATUS, 15, 8⟩
def rCW_GAP_COUNT : Nat := 0x228002c
def fCW_GAP_COUNT_GAPS : Fld := ⟨rCW_GAP_COUNT, 11, 0⟩
def fCW_GAP_COUNT_IMP_REJECT : Fld := ⟨rCW_GAP_COUNT, 23, 12⟩
def fCW_GAP_COUNT_SEDGE_DISCARD : Fld := ⟨rCW_GAP_COUNT, 31, 24⟩
def rCW_EXC_x_MATCH (x : Nat) : Nat := 0x2280100 + x * 0x8
def fCW_EXC_x_MATCH_MATCH (x : Nat) : Fld := ⟨rCW_EXC_x_MATCH x, 13, 0⟩
def fCW_EXC_x_MATCH_MASK (x : Nat) : Fld := ⟨rCW_EXC_x_MATCH x, 29, 16⟩
def rCW_EXC_x_ACT (x : Nat) : Nat := 0x2280104 + x * 0x8
def fCW_EXC_x_ACT_EN (x : Nat) : Fld := ⟨rCW_EXC_x_ACT x, 0, 0⟩
def fCW_EXC_x_ACT_PORT (x : Nat) : Fld := ⟨rCW_EXC_x_ACT x, 6, 4⟩
def rCW_IMP_j (j : Nat) : Nat := 0x2281000 + j * 0x4
def fCW_IMP_j_SRC (j : Nat) : Fld := ⟨rCW_IMP_j j, 13, 0⟩
def fCW_IMP_j_EN (j : Nat) : Fld := ⟨rCW_IMP_j j, 16, 16⟩
def rBW_PCIE : Nat := 0x2300000
def fBW_PCIE_SPEED : Fld := ⟨rBW_PCIE, 2, 0⟩
def fBW_PCIE_WIDTH : Fld := ⟨rBW_PCIE, 7, 4⟩
def fBW_PCIE_NUMVF : Fld := ⟨rBW_PCIE, 10, 8⟩
def fBW_PCIE_LINK_UP : Fld := ⟨rBW_PCIE, 12, 12⟩
def rBW_CFG : Nat := 0x2300004
def fBW_CFG_SHARED_PART : Fld := ⟨rBW_CFG, 1, 0⟩
def rBW_POOL_OWNER : Nat := 0x2300008
def fBW_POOL_OWNER_OWNER0 : Fld := ⟨rBW_POOL_OWNER, 1, 0⟩
def fBW_POOL_OWNER_OWNER1 : Fld := ⟨rBW_POOL_OWNER, 3, 2⟩
def fBW_POOL_OWNER_OWNER2 : Fld := ⟨rBW_POOL_OWNER, 5, 4⟩
def fBW_POOL_OWNER_OWNER3 : Fld := ⟨rBW_POOL_OWNER, 7, 6⟩
def fBW_POOL_OWNER_OWNER4 : Fld := ⟨rBW_POOL_OWNER, 9, 8⟩
def fBW_POOL_OWNER_OWNER5 : Fld := ⟨rBW_POOL_OWNER, 11, 10⟩
def fBW_POOL_OWNER_OWNER6 : Fld := ⟨rBW_POOL_OWNER, 13, 12⟩
def fBW_POOL_OWNER_OWNER7 : Fld := ⟨rBW_POOL_OWNER, 15, 14⟩
def fBW_POOL_OWNER_OWNER8 : Fld := ⟨rBW_POOL_OWNER, 17, 16⟩
def fBW_POOL_OWNER_OWNER9 : Fld := ⟨rBW_POOL_OWNER, 19, 18⟩
def fBW_POOL_OWNER_OWNER10 : Fld := ⟨rBW_POOL_OWNER, 21, 20⟩
def fBW_POOL_OWNER_OWNER11 : Fld := ⟨rBW_POOL_OWNER, 23, 22⟩
def fBW_POOL_OWNER_OWNER12 : Fld := ⟨rBW_POOL_OWNER, 25, 24⟩
def fBW_POOL_OWNER_OWNER13 : Fld := ⟨rBW_POOL_OWNER, 27, 26⟩
def fBW_POOL_OWNER_OWNER14 : Fld := ⟨rBW_POOL_OWNER, 29, 28⟩
def fBW_POOL_OWNER_OWNER15 : Fld := ⟨rBW_POOL_OWNER, 31, 30⟩
def rBW_SEC_LOG : Nat := 0x230000c
def fBW_SEC_LOG_COUNT : Fld := ⟨rBW_SEC_LOG, 15, 0⟩
def fBW_SEC_LOG_FUNC : Fld := ⟨rBW_SEC_LOG, 18, 16⟩
def fBW_SEC_LOG_OFFSET : Fld := ⟨rBW_SEC_LOG, 31, 20⟩
def rBW_FAULT : Nat := 0x2300010
def fBW_FAULT_CODE : Fld := ⟨rBW_FAULT, 15, 0⟩
def fBW_FAULT_PART : Fld := ⟨rBW_FAULT, 17, 16⟩
def rBW_Pp_CTRL (p : Nat) : Nat := 0x2301000 + p * 0x1000
def fBW_Pp_CTRL_ENABLE (p : Nat) : Fld := ⟨rBW_Pp_CTRL p, 0, 0⟩
def fBW_Pp_CTRL_KICK (p : Nat) : Fld := ⟨rBW_Pp_CTRL p, 1, 1⟩
def rBW_Pp_STATUS (p : Nat) : Nat := 0x2301004 + p * 0x1000
def fBW_Pp_STATUS_ENABLED (p : Nat) : Fld := ⟨rBW_Pp_STATUS p, 0, 0⟩
def fBW_Pp_STATUS_BUSY (p : Nat) : Fld := ⟨rBW_Pp_STATUS p, 1, 1⟩
def fBW_Pp_STATUS_REFUSED (p : Nat) : Fld := ⟨rBW_Pp_STATUS p, 2, 2⟩
def fBW_Pp_STATUS_REASON (p : Nat) : Fld := ⟨rBW_Pp_STATUS p, 15, 8⟩
def fBW_Pp_STATUS_RUNS (p : Nat) : Fld := ⟨rBW_Pp_STATUS p, 19, 16⟩
def fBW_Pp_STATUS_POSTS (p : Nat) : Fld := ⟨rBW_Pp_STATUS p, 28, 24⟩
def rBW_Pp_DB_ADDR_L (p : Nat) : Nat := 0x2301008 + p * 0x1000
def fBW_Pp_DB_ADDR_L_ADDR (p : Nat) : Fld := ⟨rBW_Pp_DB_ADDR_L p, 31, 0⟩
def rBW_Pp_DB_ADDR_H (p : Nat) : Nat := 0x230100c + p * 0x1000
def fBW_Pp_DB_ADDR_H_ADDR (p : Nat) : Fld := ⟨rBW_Pp_DB_ADDR_H p, 31, 0⟩
def rBW_Pp_SB_ADDR_L (p : Nat) : Nat := 0x2301010 + p * 0x1000
def fBW_Pp_SB_ADDR_L_ADDR (p : Nat) : Fld := ⟨rBW_Pp_SB_ADDR_L p, 31, 0⟩
def rBW_Pp_SB_ADDR_H (p : Nat) : Nat := 0x2301014 + p * 0x1000
def fBW_Pp_SB_ADDR_H_ADDR (p : Nat) : Fld := ⟨rBW_Pp_SB_ADDR_H p, 31, 0⟩
def rBW_Pp_POLL (p : Nat) : Nat := 0x2301018 + p * 0x1000
def fBW_Pp_POLL_IDLE_INT (p : Nat) : Fld := ⟨rBW_Pp_POLL p, 9, 0⟩
def fBW_Pp_POLL_HOLD (p : Nat) : Fld := ⟨rBW_Pp_POLL p, 23, 16⟩
def rBW_Pp_COUNT (p : Nat) : Nat := 0x230101c + p * 0x1000
def fBW_Pp_COUNT_FETCHED (p : Nat) : Fld := ⟨rBW_Pp_COUNT p, 15, 0⟩
def fBW_Pp_COUNT_REFUSED (p : Nat) : Fld := ⟨rBW_Pp_COUNT p, 31, 16⟩
def rBW_Pp_SQr_BASE_L (p r : Nat) : Nat := 0x2301100 + p * 0x1000 + r * 0x20
def fBW_Pp_SQr_BASE_L_BASE (p r : Nat) : Fld := ⟨rBW_Pp_SQr_BASE_L p r, 31, 0⟩
def rBW_Pp_SQr_BASE_H (p r : Nat) : Nat := 0x2301104 + p * 0x1000 + r * 0x20
def fBW_Pp_SQr_BASE_H_BASE (p r : Nat) : Fld := ⟨rBW_Pp_SQr_BASE_H p r, 31, 0⟩
def rBW_Pp_SQr_SIZE (p r : Nat) : Nat := 0x2301108 + p * 0x1000 + r * 0x20
def fBW_Pp_SQr_SIZE_ENTRIES (p r : Nat) : Fld := ⟨rBW_Pp_SQr_SIZE p r, 16, 0⟩
def rBW_Pp_SQr_CTRL (p r : Nat) : Nat := 0x230110c + p * 0x1000 + r * 0x20
def fBW_Pp_SQr_CTRL_EN (p r : Nat) : Fld := ⟨rBW_Pp_SQr_CTRL p r, 0, 0⟩
def fBW_Pp_SQr_CTRL_CQ (p r : Nat) : Fld := ⟨rBW_Pp_SQr_CTRL p r, 6, 4⟩
def rBW_Pp_SQr_STATUS (p r : Nat) : Nat := 0x2301110 + p * 0x1000 + r * 0x20
def fBW_Pp_SQr_STATUS_ERR (p r : Nat) : Fld := ⟨rBW_Pp_SQr_STATUS p r, 0, 0⟩
def fBW_Pp_SQr_STATUS_INPROG (p r : Nat) : Fld := ⟨rBW_Pp_SQr_STATUS p r, 1, 1⟩
def fBW_Pp_SQr_STATUS_REFUSED (p r : Nat) : Fld := ⟨rBW_Pp_SQr_STATUS p r, 2, 2⟩
def fBW_Pp_SQr_STATUS_REASON (p r : Nat) : Fld := ⟨rBW_Pp_SQr_STATUS p r, 15, 8⟩
def rBW_Pp_SQr_HEAD (p r : Nat) : Nat := 0x2301114 + p * 0x1000 + r * 0x20
def fBW_Pp_SQr_HEAD_HEAD (p r : Nat) : Fld := ⟨rBW_Pp_SQr_HEAD p r, 31, 0⟩
def rBW_Pp_CQr_BASE_L (p r : Nat) : Nat := 0x2301200 + p * 0x1000 + r * 0x20
def fBW_Pp_CQr_BASE_L_BASE (p r : Nat) : Fld := ⟨rBW_Pp_CQr_BASE_L p r, 31, 0⟩
def rBW_Pp_CQr_BASE_H (p r : Nat) : Nat := 0x2301204 + p * 0x1000 + r * 0x20
def fBW_Pp_CQr_BASE_H_BASE (p r : Nat) : Fld := ⟨rBW_Pp_CQr_BASE_H p r, 31, 0⟩
def rBW_Pp_CQr_SIZE (p r : Nat) : Nat := 0x2301208 + p * 0x1000 + r * 0x20
def fBW_Pp_CQr_SIZE_ENTRIES (p r : Nat) : Fld := ⟨rBW_Pp_CQr_SIZE p r, 16, 0⟩
def rBW_Pp_CQr_CTRL (p r : Nat) : Nat := 0x230120c + p * 0x1000 + r * 0x20
def fBW_Pp_CQr_CTRL_EN (p r : Nat) : Fld := ⟨rBW_Pp_CQr_CTRL p r, 0, 0⟩
def rBW_Pp_CQr_STATUS (p r : Nat) : Nat := 0x2301210 + p * 0x1000 + r * 0x20
def fBW_Pp_CQr_STATUS_ERR (p r : Nat) : Fld := ⟨rBW_Pp_CQr_STATUS p r, 0, 0⟩
def fBW_Pp_CQr_STATUS_REFUSED (p r : Nat) : Fld := ⟨rBW_Pp_CQr_STATUS p r, 2, 2⟩
def fBW_Pp_CQr_STATUS_REASON (p r : Nat) : Fld := ⟨rBW_Pp_CQr_STATUS p r, 15, 8⟩
def fBW_Pp_CQr_STATUS_RESERVED_SLOTS (p r : Nat) : Fld := ⟨rBW_Pp_CQr_STATUS p r, 31, 16⟩
def rBW_Pp_CQr_TAIL (p r : Nat) : Nat := 0x2301214 + p * 0x1000 + r * 0x20
def fBW_Pp_CQr_TAIL_TAIL (p r : Nat) : Fld := ⟨rBW_Pp_CQr_TAIL p r, 31, 0⟩
def rIC_CFG : Nat := 0x2400000
def fIC_CFG_ENABLE : Fld := ⟨rIC_CFG, 0, 0⟩
def fIC_CFG_MODE : Fld := ⟨rIC_CFG, 1, 1⟩
def rIC_STATUS : Nat := 0x2400004
def fIC_STATUS_ENABLED : Fld := ⟨rIC_STATUS, 0, 0⟩
def fIC_STATUS_REFUSED : Fld := ⟨rIC_STATUS, 1, 1⟩
def fIC_STATUS_REASON : Fld := ⟨rIC_STATUS, 15, 8⟩
def fIC_STATUS_ITEM : Fld := ⟨rIC_STATUS, 31, 16⟩
def rIC_GATE : Nat := 0x2400008
def fIC_GATE_GATE : Fld := ⟨rIC_GATE, 0, 0⟩
def rIC_EOI : Nat := 0x240000c
def fIC_EOI_VEC : Fld := ⟨rIC_EOI, 7, 0⟩
def fIC_EOI_FUNC : Fld := ⟨rIC_EOI, 10, 8⟩
def rIC_COUNT : Nat := 0x2400010
def fIC_COUNT_MSGS : Fld := ⟨rIC_COUNT, 15, 0⟩
def fIC_COUNT_STRAY : Fld := ⟨rIC_COUNT, 31, 16⟩
def rIC_HOLD_g (g : Nat) : Nat := 0x2400100 + g * 0x4
def fIC_HOLD_g_HOLD (g : Nat) : Fld := ⟨rIC_HOLD_g g, 15, 0⟩
def rIC_MASK_w (w : Nat) : Nat := 0x2400200 + w * 0x4
def fIC_MASK_w_MASK (w : Nat) : Fld := ⟨rIC_MASK_w w, 31, 0⟩
def rIC_MASK_SET_w (w : Nat) : Nat := 0x2400280 + w * 0x4
def fIC_MASK_SET_w_BITS (w : Nat) : Fld := ⟨rIC_MASK_SET_w w, 31, 0⟩
def rIC_MASK_CLR_w (w : Nat) : Nat := 0x24002c0 + w * 0x4
def fIC_MASK_CLR_w_BITS (w : Nat) : Fld := ⟨rIC_MASK_CLR_w w, 31, 0⟩
def rIC_PEND_w (w : Nat) : Nat := 0x2400300 + w * 0x4
def fIC_PEND_w_PEND (w : Nat) : Fld := ⟨rIC_PEND_w w, 31, 0⟩
def rIC_RAW_w (w : Nat) : Nat := 0x2400340 + w * 0x4
def fIC_RAW_w_RAW (w : Nat) : Fld := ⟨rIC_RAW_w w, 31, 0⟩
def rIC_DISARMED_x (x : Nat) : Nat := 0x2400380 + x * 0x4
def fIC_DISARMED_x_BITS (x : Nat) : Fld := ⟨rIC_DISARMED_x x, 31, 0⟩
def rIC_SRC_s (s : Nat) : Nat := 0x2401000 + s * 0x4
def fIC_SRC_s_VEC (s : Nat) : Fld := ⟨rIC_SRC_s s, 7, 0⟩
def fIC_SRC_s_FUNC (s : Nat) : Fld := ⟨rIC_SRC_s s, 10, 8⟩
def fIC_SRC_s_LEVEL (s : Nat) : Fld := ⟨rIC_SRC_s s, 16, 16⟩
def rSLU_CTRL : Nat := 0x2600000
def fSLU_CTRL_ENABLE : Fld := ⟨rSLU_CTRL, 0, 0⟩
def fSLU_CTRL_CLR_COUNT : Fld := ⟨rSLU_CTRL, 1, 1⟩
def rSLU_STATUS : Nat := 0x2600004
def fSLU_STATUS_ENABLED : Fld := ⟨rSLU_STATUS, 0, 0⟩
def fSLU_STATUS_REFUSED : Fld := ⟨rSLU_STATUS, 1, 1⟩
def fSLU_STATUS_SUP_ACTIVE : Fld := ⟨rSLU_STATUS, 2, 2⟩
def fSLU_STATUS_ALL_OPEN : Fld := ⟨rSLU_STATUS, 3, 3⟩
def fSLU_STATUS_REASON : Fld := ⟨rSLU_STATUS, 15, 8⟩
def fSLU_STATUS_ITEM : Fld := ⟨rSLU_STATUS, 31, 16⟩
def rSLU_SUP_CFG : Nat := 0x2600008
def fSLU_SUP_CFG_SUP_TOL : Fld := ⟨rSLU_SUP_CFG, 15, 0⟩
def fSLU_SUP_CFG_SUP_LAG : Fld := ⟨rSLU_SUP_CFG, 23, 16⟩
def fSLU_SUP_CFG_SUP_CONSEC : Fld := ⟨rSLU_SUP_CFG, 27, 24⟩
def rSLU_AGRPa_STATUS (a : Nat) : Nat := 0x2600010 + a * 0x4
def fSLU_AGRPa_STATUS_POWERED (a : Nat) : Fld := ⟨rSLU_AGRPa_STATUS a, 0, 0⟩
def fSLU_AGRPa_STATUS_REF_OK (a : Nat) : Fld := ⟨rSLU_AGRPa_STATUS a, 1, 1⟩
def rSLU_Gg_CFG (g : Nat) : Nat := 0x2600100 + g * 0x10
def fSLU_Gg_CFG_SRC_REG (g : Nat) : Fld := ⟨rSLU_Gg_CFG g, 0, 0⟩
def fSLU_Gg_CFG_SRC_FEN (g : Nat) : Fld := ⟨rSLU_Gg_CFG g, 1, 1⟩
def fSLU_Gg_CFG_SRC_TIMER (g : Nat) : Fld := ⟨rSLU_Gg_CFG g, 2, 2⟩
def fSLU_Gg_CFG_TIMER (g : Nat) : Fld := ⟨rSLU_Gg_CFG g, 6, 4⟩
def fSLU_Gg_CFG_FAULT_SCOPE (g : Nat) : Fld := ⟨rSLU_Gg_CFG g, 8, 8⟩
def rSLU_Gg_LOAD (g : Nat) : Nat := 0x2600104 + g * 0x10
def fSLU_Gg_LOAD_STROBE (g : Nat) : Fld := ⟨rSLU_Gg_LOAD g, 0, 0⟩
def rSLU_Gg_COUNT (g : Nat) : Nat := 0x2600108 + g * 0x10
def fSLU_Gg_COUNT_LOADS (g : Nat) : Fld := ⟨rSLU_Gg_COUNT g, 15, 0⟩
def fSLU_Gg_COUNT_IGNORED (g : Nat) : Fld := ⟨rSLU_Gg_COUNT g, 31, 16⟩
def rSLU_CHc_CODE (c : Nat) : Nat := 0x2601000 + c * 0x20
def fSLU_CHc_CODE_CODE (c : Nat) : Fld := ⟨rSLU_CHc_CODE c, 17, 0⟩
def rSLU_CHc_CFG (c : Nat) : Nat := 0x2601004 + c * 0x20
def fSLU_CHc_CFG_EN (c : Nat) : Fld := ⟨rSLU_CHc_CFG c, 0, 0⟩
def fSLU_CHc_CFG_RANGE (c : Nat) : Fld := ⟨rSLU_CHc_CFG c, 2, 1⟩
def fSLU_CHc_CFG_FAULT_STEP (c : Nat) : Fld := ⟨rSLU_CHc_CFG c, 31, 16⟩
def rSLU_CHc_SLEW (c : Nat) : Nat := 0x2601008 + c * 0x20
def fSLU_CHc_SLEW_STEP (c : Nat) : Fld := ⟨rSLU_CHc_SLEW c, 15, 0⟩
def fSLU_CHc_SLEW_RATE (c : Nat) : Fld := ⟨rSLU_CHc_SLEW c, 31, 16⟩
def rSLU_CHc_RANGE (c : Nat) : Nat := 0x260100c + c * 0x20
def fSLU_CHc_RANGE_NEW (c : Nat) : Fld := ⟨rSLU_CHc_RANGE c, 1, 0⟩
def fSLU_CHc_RANGE_REQ (c : Nat) : Fld := ⟨rSLU_CHc_RANGE c, 4, 4⟩
def rSLU_CHc_STATUS (c : Nat) : Nat := 0x2601010 + c * 0x20
def fSLU_CHc_STATUS_STATE (c : Nat) : Fld := ⟨rSLU_CHc_STATUS c, 2, 0⟩
def fSLU_CHc_STATUS_FAULT (c : Nat) : Fld := ⟨rSLU_CHc_STATUS c, 8, 8⟩
def fSLU_CHc_STATUS_COMPLIANCE (c : Nat) : Fld := ⟨rSLU_CHc_STATUS c, 9, 9⟩
def fSLU_CHc_STATUS_REFUSED (c : Nat) : Fld := ⟨rSLU_CHc_STATUS c, 10, 10⟩
def fSLU_CHc_STATUS_REASON (c : Nat) : Fld := ⟨rSLU_CHc_STATUS c, 23, 16⟩
def rSLU_CHc_OUT (c : Nat) : Nat := 0x2601014 + c * 0x20
def fSLU_CHc_OUT_CODE (c : Nat) : Fld := ⟨rSLU_CHc_OUT c, 17, 0⟩
def rSLU_CHc_TARGET (c : Nat) : Nat := 0x2601018 + c * 0x20
def fSLU_CHc_TARGET_CODE (c : Nat) : Fld := ⟨rSLU_CHc_TARGET c, 17, 0⟩
def rSLU_CHc_COUNT (c : Nat) : Nat := 0x260101c + c * 0x20
def fSLU_CHc_COUNT_MISMATCH (c : Nat) : Fld := ⟨rSLU_CHc_COUNT c, 7, 0⟩
def fSLU_CHc_COUNT_RANGE_HELD (c : Nat) : Fld := ⟨rSLU_CHc_COUNT c, 15, 8⟩
def fSLU_CHc_COUNT_FAULTS (c : Nat) : Fld := ⟨rSLU_CHc_COUNT c, 23, 16⟩
def rDPW_CTRL : Nat := 0x2700000
def fDPW_CTRL_ENABLE : Fld := ⟨rDPW_CTRL, 0, 0⟩
def fDPW_CTRL_CLR_COUNT : Fld := ⟨rDPW_CTRL, 1, 1⟩
def rDPW_STATUS : Nat := 0x2700004
def fDPW_STATUS_ENABLED : Fld := ⟨rDPW_STATUS, 0, 0⟩
def fDPW_STATUS_REFUSED : Fld := ⟨rDPW_STATUS, 1, 1⟩
def fDPW_STATUS_IMPLAUSIBLE : Fld := ⟨rDPW_STATUS, 2, 2⟩
def fDPW_STATUS_REASON : Fld := ⟨rDPW_STATUS, 15, 8⟩
def fDPW_STATUS_ITEM : Fld := ⟨rDPW_STATUS, 31, 16⟩
def rDPW_XCHK_CFG : Nat := 0x2700008
def fDPW_XCHK_CFG_XCHK_INT : Fld := ⟨rDPW_XCHK_CFG, 15, 0⟩
def fDPW_XCHK_CFG_XCHK_TOL : Fld := ⟨rDPW_XCHK_CFG, 23, 16⟩
def rDPW_XCHK_REF : Nat := 0x270000c
def fDPW_XCHK_REF_CODE : Fld := ⟨rDPW_XCHK_REF, 15, 0⟩
def rDPW_AUX_CFG : Nat := 0x2700010
def fDPW_AUX_CFG_DIFF : Fld := ⟨rDPW_AUX_CFG, 3, 0⟩
def rDPW_Cc_SCAN_CFG (c : Nat) : Nat := 0x2700100 + c * 0x40
def fDPW_Cc_SCAN_CFG_TRIG (c : Nat) : Fld := ⟨rDPW_Cc_SCAN_CFG c, 1, 0⟩
def fDPW_Cc_SCAN_CFG_GT (c : Nat) : Fld := ⟨rDPW_Cc_SCAN_CFG c, 6, 4⟩
def fDPW_Cc_SCAN_CFG_NENT (c : Nat) : Fld := ⟨rDPW_Cc_SCAN_CFG c, 16, 8⟩
def rDPW_Cc_SCAN_PER (c : Nat) : Nat := 0x2700104 + c * 0x40
def fDPW_Cc_SCAN_PER_PER (c : Nat) : Fld := ⟨rDPW_Cc_SCAN_PER c, 19, 0⟩
def rDPW_Cc_DLY_CFG (c : Nat) : Nat := 0x2700108 + c * 0x40
def fDPW_Cc_DLY_CFG_INPUT (c : Nat) : Fld := ⟨rDPW_Cc_DLY_CFG c, 8, 0⟩
def fDPW_Cc_DLY_CFG_COUNT (c : Nat) : Fld := ⟨rDPW_Cc_DLY_CFG c, 15, 12⟩
def fDPW_Cc_DLY_CFG_TRIG (c : Nat) : Fld := ⟨rDPW_Cc_DLY_CFG c, 17, 16⟩
def fDPW_Cc_DLY_CFG_GROUP (c : Nat) : Fld := ⟨rDPW_Cc_DLY_CFG c, 23, 20⟩
def rDPW_Cc_DLY_DELAY (c : Nat) : Nat := 0x270010c + c * 0x40
def fDPW_Cc_DLY_DELAY_DPW_DELAY (c : Nat) : Fld := ⟨rDPW_Cc_DLY_DELAY c, 15, 0⟩
def rDPW_Cc_INJ (c : Nat) : Nat := 0x2700110 + c * 0x40
def fDPW_Cc_INJ_INPUT (c : Nat) : Fld := ⟨rDPW_Cc_INJ c, 8, 0⟩
def fDPW_Cc_INJ_REQ (c : Nat) : Fld := ⟨rDPW_Cc_INJ c, 16, 16⟩
def fDPW_Cc_INJ_PENDING (c : Nat) : Fld := ⟨rDPW_Cc_INJ c, 17, 17⟩
def rDPW_Cc_CAL (c : Nat) : Nat := 0x2700114 + c * 0x40
def fDPW_Cc_CAL_START (c : Nat) : Fld := ⟨rDPW_Cc_CAL c, 0, 0⟩
def fDPW_Cc_CAL_DONE (c : Nat) : Fld := ⟨rDPW_Cc_CAL c, 1, 1⟩
def fDPW_Cc_CAL_REFUSED (c : Nat) : Fld := ⟨rDPW_Cc_CAL c, 8, 8⟩
def fDPW_Cc_CAL_REASON (c : Nat) : Fld := ⟨rDPW_Cc_CAL c, 23, 16⟩
def rDPW_Cc_COUNT (c : Nat) : Nat := 0x2700118 + c * 0x40
def fDPW_Cc_COUNT_INJ_DROP (c : Nat) : Fld := ⟨rDPW_Cc_COUNT c, 7, 0⟩
def fDPW_Cc_COUNT_DLY_DROP (c : Nat) : Fld := ⟨rDPW_Cc_COUNT c, 15, 8⟩
def fDPW_Cc_COUNT_OVERRUN (c : Nat) : Fld := ⟨rDPW_Cc_COUNT c, 23, 16⟩
def fDPW_Cc_COUNT_XCHK_FAIL (c : Nat) : Fld := ⟨rDPW_Cc_COUNT c, 31, 24⟩
def rDPW_Cc_SCAN_e (c e : Nat) : Nat := 0x2701000 + c * 0x800 + e * 0x4
def fDPW_Cc_SCAN_e_INPUT (c e : Nat) : Fld := ⟨rDPW_Cc_SCAN_e c e, 8, 0⟩
def fDPW_Cc_SCAN_e_REP (c e : Nat) : Fld := ⟨rDPW_Cc_SCAN_e c e, 15, 12⟩
def rDPW_ACC_i_SUM_L (i : Nat) : Nat := 0x2704000 + i * 0x20
def fDPW_ACC_i_SUM_L_SUM (i : Nat) : Fld := ⟨rDPW_ACC_i_SUM_L i, 31, 0⟩
def rDPW_ACC_i_SUM_H (i : Nat) : Nat := 0x2704004 + i * 0x20
def fDPW_ACC_i_SUM_H_SUM (i : Nat) : Fld := ⟨rDPW_ACC_i_SUM_H i, 15, 0⟩
def rDPW_ACC_i_COUNT (i : Nat) : Nat := 0x2704008 + i * 0x20
def fDPW_ACC_i_COUNT_COUNT (i : Nat) : Fld := ⟨rDPW_ACC_i_COUNT i, 31, 0⟩
def rDPW_ACC_i_MIN (i : Nat) : Nat := 0x270400c + i * 0x20
def fDPW_ACC_i_MIN_VALUE (i : Nat) : Fld := ⟨rDPW_ACC_i_MIN i, 31, 0⟩
def rDPW_ACC_i_MAX (i : Nat) : Nat := 0x2704010 + i * 0x20
def fDPW_ACC_i_MAX_VALUE (i : Nat) : Fld := ⟨rDPW_ACC_i_MAX i, 31, 0⟩
def rDPW_ACC_i_CFG (i : Nat) : Nat := 0x2704014 + i * 0x20
def fDPW_ACC_i_CFG_ALIGN (i : Nat) : Fld := ⟨rDPW_ACC_i_CFG i, 0, 0⟩
def fDPW_ACC_i_CFG_CLR_ON_READ (i : Nat) : Fld := ⟨rDPW_ACC_i_CFG i, 1, 1⟩
def rDPW_ACC_i_CLR (i : Nat) : Nat := 0x2704018 + i * 0x20
def fDPW_ACC_i_CLR_CLR (i : Nat) : Fld := ⟨rDPW_ACC_i_CLR i, 0, 0⟩
def rSEC_CTRL : Nat := 0x2800000
def fSEC_CTRL_PUSH : Fld := ⟨rSEC_CTRL, 0, 0⟩
def fSEC_CTRL_REBOOT : Fld := ⟨rSEC_CTRL, 1, 1⟩
def fSEC_CTRL_AUTO_RELOAD : Fld := ⟨rSEC_CTRL, 4, 4⟩
def rSEC_STATUS : Nat := 0x2800004
def fSEC_STATUS_STAGE : Fld := ⟨rSEC_STATUS, 3, 0⟩
def fSEC_STATUS_REFUSED : Fld := ⟨rSEC_STATUS, 8, 8⟩
def fSEC_STATUS_REASON : Fld := ⟨rSEC_STATUS, 23, 16⟩
def fSEC_STATUS_NS_IGNORED : Fld := ⟨rSEC_STATUS, 31, 24⟩
def rSEC_PUSH_ADDR_L : Nat := 0x2800010
def fSEC_PUSH_ADDR_L_ADDR : Fld := ⟨rSEC_PUSH_ADDR_L, 31, 0⟩
def rSEC_PUSH_ADDR_H : Nat := 0x2800014
def fSEC_PUSH_ADDR_H_ADDR : Fld := ⟨rSEC_PUSH_ADDR_H, 31, 0⟩
def rSEC_PUSH_LEN : Nat := 0x2800018
def fSEC_PUSH_LEN_LEN : Fld := ⟨rSEC_PUSH_LEN, 21, 0⟩
def rSEC_CS_VERSION : Nat := 0x2800020
def fSEC_CS_VERSION_ROM : Fld := ⟨rSEC_CS_VERSION, 7, 0⟩
def fSEC_CS_VERSION_PATCH_SVN : Fld := ⟨rSEC_CS_VERSION, 15, 8⟩
def fSEC_CS_VERSION_PATCH_ID : Fld := ⟨rSEC_CS_VERSION, 31, 16⟩
def rSEC_IMAGE : Nat := 0x2800024
def fSEC_IMAGE_SVN : Fld := ⟨rSEC_IMAGE, 7, 0⟩
def fSEC_IMAGE_KEY_SLOT : Fld := ⟨rSEC_IMAGE, 9, 8⟩
def fSEC_IMAGE_SRC : Fld := ⟨rSEC_IMAGE, 13, 12⟩
def rSEC_CSu_STATUS (u : Nat) : Nat := 0x2800100 + u * 0x10
def fSEC_CSu_STATUS_LOADED (u : Nat) : Fld := ⟨rSEC_CSu_STATUS u, 0, 0⟩
def fSEC_CSu_STATUS_HALTED (u : Nat) : Fld := ⟨rSEC_CSu_STATUS u, 1, 1⟩
def fSEC_CSu_STATUS_RELOADING (u : Nat) : Fld := ⟨rSEC_CSu_STATUS u, 2, 2⟩
def fSEC_CSu_STATUS_RETAINED_BAD (u : Nat) : Fld := ⟨rSEC_CSu_STATUS u, 3, 3⟩
def fSEC_CSu_STATUS_STUCK (u : Nat) : Fld := ⟨rSEC_CSu_STATUS u, 4, 4⟩
def rSEC_CSu_VERSION (u : Nat) : Nat := 0x2800104 + u * 0x10
def fSEC_CSu_VERSION_VERSION (u : Nat) : Fld := ⟨rSEC_CSu_VERSION u, 31, 0⟩
def rSEC_CSu_COUNT (u : Nat) : Nat := 0x2800108 + u * 0x10
def fSEC_CSu_COUNT_SBE (u : Nat) : Fld := ⟨rSEC_CSu_COUNT u, 15, 0⟩
def fSEC_CSu_COUNT_DBE (u : Nat) : Fld := ⟨rSEC_CSu_COUNT u, 23, 16⟩
def rSEC_CSu_CTRL (u : Nat) : Nat := 0x280010c + u * 0x10
def fSEC_CSu_CTRL_RELOAD (u : Nat) : Fld := ⟨rSEC_CSu_CTRL u, 0, 0⟩
def rSEC_OTP_ARBk (k : Nat) : Nat := 0x2800200 + k * 0x4
def fSEC_OTP_ARBk_COUNT (k : Nat) : Fld := ⟨rSEC_OTP_ARBk k, 6, 0⟩
def rSEC_KEY_STATUS : Nat := 0x2800210
def fSEC_KEY_STATUS_PROGRAMMED : Fld := ⟨rSEC_KEY_STATUS, 3, 0⟩
def fSEC_KEY_STATUS_REVOKED : Fld := ⟨rSEC_KEY_STATUS, 11, 8⟩
def rSEC_LIFECYCLE : Nat := 0x2800214
def fSEC_LIFECYCLE_BOOT_SRC : Fld := ⟨rSEC_LIFECYCLE, 1, 0⟩
def fSEC_LIFECYCLE_SPI_RO : Fld := ⟨rSEC_LIFECYCLE, 4, 4⟩
def rSEC_OTP_STATUS : Nat := 0x2800218
def fSEC_OTP_STATUS_BURNING : Fld := ⟨rSEC_OTP_STATUS, 0, 0⟩
def fSEC_OTP_STATUS_IGNORED : Fld := ⟨rSEC_OTP_STATUS, 1, 1⟩
def rPM_CS_VERSION : Nat := 0x29000f0
def fPM_CS_VERSION_ROM : Fld := ⟨rPM_CS_VERSION, 7, 0⟩
def fPM_CS_VERSION_PATCH_SVN : Fld := ⟨rPM_CS_VERSION, 15, 8⟩
def fPM_CS_VERSION_PATCH_ID : Fld := ⟨rPM_CS_VERSION, 31, 16⟩
def rPM_CTRL : Nat := 0x2900000
def fPM_CTRL_TARGET : Fld := ⟨rPM_CTRL, 3, 0⟩
def fPM_CTRL_REQ : Fld := ⟨rPM_CTRL, 4, 4⟩
def rPM_STATUS : Nat := 0x2900004
def fPM_STATUS_MODE : Fld := ⟨rPM_STATUS, 3, 0⟩
def fPM_STATUS_TRANSITION : Fld := ⟨rPM_STATUS, 4, 4⟩
def fPM_STATUS_SLEEP_ABORTED : Fld := ⟨rPM_STATUS, 8, 8⟩
def fPM_STATUS_WAKE_DURING_ENTRY : Fld := ⟨rPM_STATUS, 9, 9⟩
def fPM_STATUS_REFUSED : Fld := ⟨rPM_STATUS, 10, 10⟩
def fPM_STATUS_REASON : Fld := ⟨rPM_STATUS, 23, 16⟩
def fPM_STATUS_PREV_MODE : Fld := ⟨rPM_STATUS, 31, 28⟩
def rPM_WAKE_EN : Nat := 0x2900008
def fPM_WAKE_EN_WAKE_N : Fld := ⟨rPM_WAKE_EN, 0, 0⟩
def fPM_WAKE_EN_PERST_N : Fld := ⟨rPM_WAKE_EN, 1, 1⟩
def fPM_WAKE_EN_FEN : Fld := ⟨rPM_WAKE_EN, 2, 2⟩
def rPM_WAKE_CAUSE : Nat := 0x290000c
def fPM_WAKE_CAUSE_WAKE_N : Fld := ⟨rPM_WAKE_CAUSE, 0, 0⟩
def fPM_WAKE_CAUSE_PERST_N : Fld := ⟨rPM_WAKE_CAUSE, 1, 1⟩
def fPM_WAKE_CAUSE_FEN : Fld := ⟨rPM_WAKE_CAUSE, 2, 2⟩
def rPM_PD_STATUS : Nat := 0x2900010
def fPM_PD_STATUS_ON : Fld := ⟨rPM_PD_STATUS, 29, 0⟩
def rPM_PD_KEEP_OFF : Nat := 0x2900014
def fPM_PD_KEEP_OFF_KEEP_OFF : Fld := ⟨rPM_PD_KEEP_OFF, 29, 0⟩
def rPM_CLK_STATUS : Nat := 0x2900018
def fPM_CLK_STATUS_LOCKED : Fld := ⟨rPM_CLK_STATUS, 24, 0⟩
def rPM_CAL_STATUS : Nat := 0x290001c
def fPM_CAL_STATUS_POOL_CAL : Fld := ⟨rPM_CAL_STATUS, 15, 0⟩
def fPM_CAL_STATUS_DONE : Fld := ⟨rPM_CAL_STATUS, 16, 16⟩
def rPM_RESET : Nat := 0x2900020
def fPM_RESET_COLD : Fld := ⟨rPM_RESET, 0, 0⟩
def fPM_RESET_WARM : Fld := ⟨rPM_RESET, 1, 1⟩
def fPM_RESET_KEY : Fld := ⟨rPM_RESET, 31, 16⟩
def rPM_UNIT_RESET : Nat := 0x2900024
def fPM_UNIT_RESET_POOL : Fld := ⟨rPM_UNIT_RESET, 15, 0⟩
def fPM_UNIT_RESET_SEDGE : Fld := ⟨rPM_UNIT_RESET, 16, 16⟩
def fPM_UNIT_RESET_CW : Fld := ⟨rPM_UNIT_RESET, 17, 17⟩
def rPM_RESET_CAUSE : Nat := 0x2900028
def fPM_RESET_CAUSE_POR : Fld := ⟨rPM_RESET_CAUSE, 0, 0⟩
def fPM_RESET_CAUSE_COLD : Fld := ⟨rPM_RESET_CAUSE, 1, 1⟩
def fPM_RESET_CAUSE_WARM : Fld := ⟨rPM_RESET_CAUSE, 2, 2⟩
def fPM_RESET_CAUSE_THERMAL : Fld := ⟨rPM_RESET_CAUSE, 3, 3⟩
def rPM_PD_FAILED : Nat := 0x290002c
def fPM_PD_FAILED_FAILED : Fld := ⟨rPM_PD_FAILED, 29, 0⟩
def rPM_GTg_CTRL (g : Nat) : Nat := 0x2900100 + g * 0x10
def fPM_GTg_CTRL_EN (g : Nat) : Fld := ⟨rPM_GTg_CTRL g, 0, 0⟩
def fPM_GTg_CTRL_PERIODIC (g : Nat) : Fld := ⟨rPM_GTg_CTRL g, 1, 1⟩
def fPM_GTg_CTRL_BASE (g : Nat) : Fld := ⟨rPM_GTg_CTRL g, 2, 2⟩
def fPM_GTg_CTRL_OWNER (g : Nat) : Fld := ⟨rPM_GTg_CTRL g, 5, 4⟩
def fPM_GTg_CTRL_REFUSED (g : Nat) : Fld := ⟨rPM_GTg_CTRL g, 8, 8⟩
def fPM_GTg_CTRL_REASON (g : Nat) : Fld := ⟨rPM_GTg_CTRL g, 23, 16⟩
def rPM_GTg_PERIOD (g : Nat) : Nat := 0x2900104 + g * 0x10
def fPM_GTg_PERIOD_PERIOD (g : Nat) : Fld := ⟨rPM_GTg_PERIOD g, 31, 0⟩
def rPM_GTg_COUNT (g : Nat) : Nat := 0x2900108 + g * 0x10
def fPM_GTg_COUNT_REMAIN (g : Nat) : Fld := ⟨rPM_GTg_COUNT g, 31, 0⟩
def rPM_GPIOk (k : Nat) : Nat := 0x2900200 + k * 0x4
def fPM_GPIOk_FUNC (k : Nat) : Fld := ⟨rPM_GPIOk k, 1, 0⟩
def fPM_GPIOk_WIDTH (k : Nat) : Fld := ⟨rPM_GPIOk k, 31, 16⟩
def rPM_SAFE_CAUSE : Nat := 0x2900300
def fPM_SAFE_CAUSE_REQUEST : Fld := ⟨rPM_SAFE_CAUSE, 0, 0⟩
def fPM_SAFE_CAUSE_INTERLOCK : Fld := ⟨rPM_SAFE_CAUSE, 1, 1⟩
def fPM_SAFE_CAUSE_THERMAL : Fld := ⟨rPM_SAFE_CAUSE, 2, 2⟩
def fPM_SAFE_CAUSE_CLOCK : Fld := ⟨rPM_SAFE_CAUSE, 3, 3⟩
def fPM_SAFE_CAUSE_REFERENCE : Fld := ⟨rPM_SAFE_CAUSE, 4, 4⟩
def fPM_SAFE_CAUSE_FEN_ILK : Fld := ⟨rPM_SAFE_CAUSE, 5, 5⟩
def fPM_SAFE_CAUSE_FIRST : Fld := ⟨rPM_SAFE_CAUSE, 31, 16⟩
def rPM_SAFE_COUNT : Nat := 0x2900304
def fPM_SAFE_COUNT_ENTRIES : Fld := ⟨rPM_SAFE_COUNT, 15, 0⟩
def rPM_ILK_CFG : Nat := 0x2900308
def fPM_ILK_CFG_EN : Fld := ⟨rPM_ILK_CFG, 7, 0⟩
def fPM_ILK_CFG_LEVEL : Fld := ⟨rPM_ILK_CFG, 15, 8⟩
def rPM_ILK_STATUS : Nat := 0x290030c
def fPM_ILK_STATUS_PIN : Fld := ⟨rPM_ILK_STATUS, 7, 0⟩
def fPM_ILK_STATUS_LATCHED : Fld := ⟨rPM_ILK_STATUS, 15, 8⟩
def rPM_THERM_CFG : Nat := 0x2900310
def fPM_THERM_CFG_WARN : Fld := ⟨rPM_THERM_CFG, 7, 0⟩
def fPM_THERM_CFG_CRIT : Fld := ⟨rPM_THERM_CFG, 15, 8⟩
def fPM_THERM_CFG_HYST : Fld := ⟨rPM_THERM_CFG, 19, 16⟩
def rPM_THERM_STATUS : Nat := 0x2900314
def fPM_THERM_STATUS_TMAX : Fld := ⟨rPM_THERM_STATUS, 11, 0⟩
def fPM_THERM_STATUS_THERMAL_WARN : Fld := ⟨rPM_THERM_STATUS, 16, 16⟩
def fPM_THERM_STATUS_CRIT : Fld := ⟨rPM_THERM_STATUS, 17, 17⟩
def fPM_THERM_STATUS_SHUTDOWN_SEEN : Fld := ⟨rPM_THERM_STATUS, 24, 24⟩
def rGLB_ID : Nat := 0x0
def fGLB_ID_PART : Fld := ⟨rGLB_ID, 15, 0⟩
def fGLB_ID_REV : Fld := ⟨rGLB_ID, 23, 16⟩
def rGLB_CAP : Nat := 0x4
def fGLB_CAP_POOL_MASK : Fld := ⟨rGLB_CAP, 15, 0⟩
def fGLB_CAP_CW_PORT_MASK : Fld := ⟨rGLB_CAP, 23, 16⟩
def fGLB_CAP_SEDGE : Fld := ⟨rGLB_CAP, 24, 24⟩
def fGLB_CAP_PCIE_LANES : Fld := ⟨rGLB_CAP, 28, 25⟩
def fGLB_CAP_VALID : Fld := ⟨rGLB_CAP, 31, 31⟩
def rGLB_DBG_PAGE : Nat := 0x10
def fGLB_DBG_PAGE_POOL : Fld := ⟨rGLB_DBG_PAGE, 3, 0⟩
def rGLB_SNAP_REQ : Nat := 0x20
def fGLB_SNAP_REQ_POOLS : Fld := ⟨rGLB_SNAP_REQ, 15, 0⟩
def fGLB_SNAP_REQ_TM : Fld := ⟨rGLB_SNAP_REQ, 16, 16⟩
def fGLB_SNAP_REQ_SDG : Fld := ⟨rGLB_SNAP_REQ, 17, 17⟩
def fGLB_SNAP_REQ_CW : Fld := ⟨rGLB_SNAP_REQ, 18, 18⟩
def fGLB_SNAP_REQ_BW : Fld := ⟨rGLB_SNAP_REQ, 19, 19⟩
def fGLB_SNAP_REQ_FEN_DN : Fld := ⟨rGLB_SNAP_REQ, 20, 20⟩
def fGLB_SNAP_REQ_IC : Fld := ⟨rGLB_SNAP_REQ, 21, 21⟩
def fGLB_SNAP_REQ_SLU : Fld := ⟨rGLB_SNAP_REQ, 22, 22⟩
def fGLB_SNAP_REQ_DPW : Fld := ⟨rGLB_SNAP_REQ, 23, 23⟩
def fGLB_SNAP_REQ_RELEASE : Fld := ⟨rGLB_SNAP_REQ, 30, 30⟩
def fGLB_SNAP_REQ_REQ : Fld := ⟨rGLB_SNAP_REQ, 31, 31⟩
def rGLB_SNAP_STATUS : Nat := 0x24
def fGLB_SNAP_STATUS_BUSY : Fld := ⟨rGLB_SNAP_STATUS, 0, 0⟩
def fGLB_SNAP_STATUS_DONE : Fld := ⟨rGLB_SNAP_STATUS, 1, 1⟩
def fGLB_SNAP_STATUS_IGNORED : Fld := ⟨rGLB_SNAP_STATUS, 2, 2⟩
def rGLB_SNAP_T_L : Nat := 0x28
def fGLB_SNAP_T_L_T : Fld := ⟨rGLB_SNAP_T_L, 31, 0⟩
def rGLB_SNAP_T_H : Nat := 0x2c
def fGLB_SNAP_T_H_T : Fld := ⟨rGLB_SNAP_T_H, 31, 0⟩
def rGLB_XING_OVF : Nat := 0x30
def fGLB_XING_OVF_OVF : Fld := ⟨rGLB_XING_OVF, 24, 0⟩
def rGLB_ACCESS_ERR : Nat := 0x34
def fGLB_ACCESS_ERR_COUNT : Fld := ⟨rGLB_ACCESS_ERR, 15, 0⟩
def fGLB_ACCESS_ERR_PATH : Fld := ⟨rGLB_ACCESS_ERR, 18, 16⟩
def rGLB_ACCESS_ADDR : Nat := 0x38
def fGLB_ACCESS_ADDR_OFFSET : Fld := ⟨rGLB_ACCESS_ADDR, 25, 0⟩
def rGLB_REFUSED_w (w : Nat) : Nat := 0x40 + w * 0x4
def fGLB_REFUSED_w_BITS (w : Nat) : Fld := ⟨rGLB_REFUSED_w w, 31, 0⟩
def rGLB_UNIT_STATUS_u (u : Nat) : Nat := 0x100 + u * 0x4
def fGLB_UNIT_STATUS_u_ENABLED (u : Nat) : Fld := ⟨rGLB_UNIT_STATUS_u u, 0, 0⟩
def fGLB_UNIT_STATUS_u_REFUSED (u : Nat) : Fld := ⟨rGLB_UNIT_STATUS_u u, 1, 1⟩
def fGLB_UNIT_STATUS_u_REASON (u : Nat) : Fld := ⟨rGLB_UNIT_STATUS_u u, 15, 8⟩
def fGLB_UNIT_STATUS_u_CONFLICT_ID (u : Nat) : Fld := ⟨rGLB_UNIT_STATUS_u u, 31, 16⟩

/-- The registers of TM. -/
def tableTM0 : List RegRow := [
  ⟨0x2500000, [], [⟨0, 0, .rw, 0⟩, ⟨1, 1, .rwl, 0⟩, ⟨6, 4, .rw, 0⟩, ⟨8, 8, .wo, 0⟩]⟩,
  ⟨0x2500004, [], [⟨1, 0, .rwl, 1⟩, ⟨15, 8, .rwl, 64⟩, ⟨20, 16, .rwl, 16⟩, ⟨24, 24, .rwl, 0⟩]⟩,
  ⟨0x2500008, [], [⟨2, 0, .ro, 0⟩, ⟨5, 4, .ro, 0⟩, ⟨6, 6, .ro, 0⟩, ⟨7, 7, .ro, 0⟩, ⟨13, 8, .ro, 63⟩, ⟨16, 16, .ro, 0⟩, ⟨31, 24, .ro, 0⟩]⟩,
  ⟨0x250000c, [], [⟨19, 0, .rwl, 100000⟩]⟩,
  ⟨0x2500010, [], [⟨31, 0, .ro, 0⟩]⟩,
  ⟨0x2500014, [], [⟨31, 0, .ro, 0⟩]⟩,
  ⟨0x2500018, [], [⟨15, 0, .ro, 0⟩]⟩,
  ⟨0x250001c, [], [⟨13, 0, .ro, 0⟩, ⟨16, 16, .rs, 0⟩]⟩,
  ⟨0x2500020, [], [⟨31, 0, .rwl, 0⟩]⟩,
  ⟨0x2500024, [], [⟨31, 0, .rwl, 0⟩]⟩,
  ⟨0x2500028, [], [⟨15, 0, .rwl, 0⟩]⟩,
  ⟨0x2500030, [], [⟨31, 0, .ro, 0⟩]⟩,
  ⟨0x2500038, [], [⟨31, 0, .ro, 0⟩]⟩,
  ⟨0x250003c, [], [⟨31, 0, .ro, 0⟩]⟩,
  ⟨0x2500040, [], [⟨31, 0, .ro, 0⟩]⟩,
  ⟨0x2500044, [], [⟨31, 0, .ro, 0⟩]⟩,
  ⟨0x2500048, [], [⟨7, 0, .ro, 0⟩, ⟨15, 8, .ro, 0⟩, ⟨31, 16, .ro, 0⟩]⟩,
  ⟨0x2500050, [], [⟨31, 0, .ro, 0⟩]⟩,
  ⟨0x2500054, [], [⟨31, 0, .ro, 0⟩]⟩,
  ⟨0x2500060, [], [⟨0, 0, .rw, 0⟩, ⟨1, 1, .rw, 0⟩, ⟨10, 8, .ro, 0⟩, ⟨16, 16, .w1c, 0⟩]⟩]

def tableTM1 : List RegRow := [
  ⟨0x2500064, [], [⟨31, 0, .ro, 0⟩]⟩,
  ⟨0x2500068, [], [⟨31, 0, .ro, 0⟩]⟩,
  ⟨0x250006c, [], [⟨15, 0, .ro, 0⟩, ⟨31, 31, .ro, 0⟩]⟩,
  ⟨0x2500200, [(0x4, 8)], [⟨31, 0, .ro, 4294967295⟩]⟩,
  ⟨0x2500100, [(0x20, 8)], [⟨0, 0, .rw, 0⟩, ⟨1, 1, .rwl, 0⟩]⟩,
  ⟨0x2500104, [(0x20, 8)], [⟨31, 0, .rwl, 0⟩]⟩,
  ⟨0x2500108, [(0x20, 8)], [⟨31, 0, .rwl, 0⟩]⟩,
  ⟨0x250010c, [(0x20, 8)], [⟨31, 0, .rwl, 0⟩]⟩,
  ⟨0x2500110, [(0x20, 8)], [⟨15, 0, .rwl, 0⟩]⟩,
  ⟨0x2500114, [(0x20, 8)], [⟨31, 0, .rwl, 16⟩]⟩,
  ⟨0x2500118, [(0x20, 8)], [⟨0, 0, .ro, 0⟩, ⟨1, 1, .w1c, 0⟩, ⟨8, 8, .ro, 0⟩, ⟨31, 24, .ro, 0⟩]⟩,
  ⟨0x2500400, [(0x40, 8), (0x4, 16)], [⟨31, 0, .rw, 0⟩]⟩]

def tableTM : List RegRow := tableTM0 ++ tableTM1

/-- The registers of DRV. -/
def tableDRV : List RegRow := [
  ⟨0x1000000, [(0x100000, 16)], [⟨0, 0, .rw, 0⟩, ⟨1, 1, .wo, 0⟩]⟩,
  ⟨0x1000004, [(0x100000, 16)], [⟨0, 0, .ro, 0⟩, ⟨1, 1, .ro, 0⟩, ⟨15, 8, .ro, 0⟩, ⟨31, 16, .ro, 0⟩]⟩,
  ⟨0x1000100, [(0x100000, 16), (0x20, 4)], [⟨1, 0, .rwl, 3⟩, ⟨4, 4, .rwl, 1⟩, ⟨8, 8, .rw, 0⟩]⟩,
  ⟨0x1000104, [(0x100000, 16), (0x20, 4)], [⟨31, 0, .rw, 0⟩]⟩,
  ⟨0x1000108, [(0x100000, 16), (0x20, 4)], [⟨15, 0, .rw, 0⟩]⟩,
  ⟨0x100010c, [(0x100000, 16), (0x20, 4)], [⟨31, 0, .rw, 0⟩]⟩,
  ⟨0x1000110, [(0x100000, 16), (0x20, 4)], [⟨15, 0, .rw, 0⟩]⟩,
  ⟨0x1000114, [(0x100000, 16), (0x20, 4)], [⟨31, 0, .ro, 0⟩]⟩,
  ⟨0x1001000, [(0x100000, 16), (0x40, 32)], [⟨31, 0, .rw, 0⟩]⟩,
  ⟨0x1001004, [(0x100000, 16), (0x40, 32)], [⟨15, 0, .rw, 0⟩]⟩,
  ⟨0x1001008, [(0x100000, 16), (0x40, 32)], [⟨31, 0, .rw, 0⟩]⟩,
  ⟨0x100100c, [(0x100000, 16), (0x40, 32)], [⟨15, 0, .rw, 0⟩]⟩,
  ⟨0x1001010, [(0x100000, 16), (0x40, 32)], [⟨17, 0, .rw, 0⟩]⟩,
  ⟨0x1001014, [(0x100000, 16), (0x40, 32)], [⟨31, 0, .rw, 0⟩]⟩,
  ⟨0x1001018, [(0x100000, 16), (0x40, 32)], [⟨4, 0, .rwl, 0⟩]⟩,
  ⟨0x100101c, [(0x100000, 16), (0x40, 32)], [⟨11, 0, .rw, 0⟩, ⟨16, 16, .rw, 0⟩]⟩,
  ⟨0x1001020, [(0x100000, 16), (0x40, 32)], [⟨0, 0, .rw, 0⟩, ⟨4, 2, .rw, 0⟩, ⟨17, 8, .rw, 0⟩, ⟨31, 20, .rw, 0⟩]⟩,
  ⟨0x1001024, [(0x100000, 16), (0x40, 32)], [⟨11, 0, .rw, 0⟩, ⟨23, 12, .rw, 0⟩]⟩,
  ⟨0x1001028, [(0x100000, 16), (0x40, 32)], [⟨11, 0, .ro, 0⟩, ⟨16, 16, .ro, 0⟩, ⟨17, 17, .ro, 0⟩, ⟨18, 18, .ro, 0⟩]⟩,
  ⟨0x100102c, [(0x100000, 16), (0x40, 32)], [⟨7, 0, .ro, 0⟩, ⟨15, 8, .ro, 0⟩, ⟨23, 16, .ro, 0⟩, ⟨31, 24, .ro, 0⟩]⟩]

/-- The registers of PEAT. -/
def tablePEAT : List RegRow := [
  ⟨0x1040000, [(0x100000, 16)], [⟨9, 0, .ro, 0⟩]⟩,
  ⟨0x1040100, [(0x100000, 16), (0x20, 16)], [⟨16, 0, .rw, 0⟩, ⟨31, 17, .rw, 1⟩]⟩,
  ⟨0x1040104, [(0x100000, 16), (0x20, 16)], [⟨0, 0, .rw, 0⟩, ⟨1, 1, .rwl, 0⟩, ⟨8, 8, .ro, 0⟩, ⟨23, 16, .ro, 0⟩]⟩,
  ⟨0x1040108, [(0x100000, 16), (0x20, 16)], [⟨31, 0, .ro, 0⟩]⟩,
  ⟨0x104010c, [(0x100000, 16), (0x20, 16)], [⟨31, 0, .ro, 0⟩]⟩,
  ⟨0x1040110, [(0x100000, 16), (0x20, 16)], [⟨31, 0, .ro, 0⟩]⟩,
  ⟨0x1040114, [(0x100000, 16), (0x20, 16)], [⟨31, 0, .ro, 0⟩]⟩,
  ⟨0x1040118, [(0x100000, 16), (0x20, 16)], [⟨15, 0, .ro, 0⟩, ⟨31, 16, .ro, 0⟩]⟩]

/-- The registers of SEG. -/
def tableSEG : List RegRow := [
  ⟨0x1060000, [(0x100000, 16), (0x20, 4096), (0x4, 7)], [⟨31, 0, .rw, 0⟩]⟩,
  ⟨0x106001c, [(0x100000, 16), (0x20, 4096)], [⟨31, 0, .wo, 0⟩]⟩]

/-- The registers of MK. -/
def tableMK : List RegRow := [
  ⟨0x1080000, [(0x100000, 16), (0x10, 4)], [⟨0, 0, .rwl, 0⟩, ⟨1, 1, .rwl, 0⟩, ⟨2, 2, .rwl, 0⟩, ⟨3, 3, .rwl, 0⟩, ⟨31, 16, .rwl, 16⟩]⟩,
  ⟨0x1080004, [(0x100000, 16), (0x10, 4)], [⟨15, 0, .rwl, 0⟩]⟩,
  ⟨0x1080008, [(0x100000, 16), (0x10, 4)], [⟨31, 0, .rwl, 0⟩]⟩]

/-- The registers of FLX. -/
def tableFLX : List RegRow := [
  ⟨0x1030000, [(0x100000, 16)], [⟨0, 0, .rw, 0⟩, ⟨1, 1, .wo, 0⟩]⟩,
  ⟨0x1030004, [(0x100000, 16)], [⟨0, 0, .ro, 0⟩, ⟨1, 1, .ro, 0⟩, ⟨15, 8, .ro, 0⟩, ⟨20, 16, .ro, 0⟩]⟩,
  ⟨0x1031000, [(0x100000, 16), (0x400, 8)], [⟨8, 8, .rw, 0⟩]⟩,
  ⟨0x1031004, [(0x100000, 16), (0x400, 8)], [⟨17, 0, .rw, 0⟩]⟩,
  ⟨0x1031008, [(0x100000, 16), (0x400, 8)], [⟨15, 0, .rwl, 0⟩]⟩,
  ⟨0x103100c, [(0x100000, 16), (0x400, 8)], [⟨9, 0, .rwl, 0⟩, ⟨15, 10, .rwl, 0⟩]⟩,
  ⟨0x1031010, [(0x100000, 16), (0x400, 8)], [⟨4, 0, .rwl, 0⟩]⟩,
  ⟨0x1031014, [(0x100000, 16), (0x400, 8)], [⟨11, 0, .ro, 0⟩, ⟨16, 16, .ro, 0⟩, ⟨17, 17, .ro, 0⟩]⟩,
  ⟨0x1031018, [(0x100000, 16), (0x400, 8)], [⟨31, 0, .ro, 0⟩]⟩,
  ⟨0x103101c, [(0x100000, 16), (0x400, 8)], [⟨7, 0, .ro, 0⟩, ⟨15, 8, .ro, 0⟩]⟩,
  ⟨0x1031040, [(0x100000, 16), (0x400, 8), (0x10, 4)], [⟨0, 0, .rwl, 0⟩]⟩,
  ⟨0x1031044, [(0x100000, 16), (0x400, 8), (0x10, 4)], [⟨31, 0, .rwl, 1073741824⟩]⟩,
  ⟨0x1031048, [(0x100000, 16), (0x400, 8), (0x10, 4)], [⟨31, 0, .rwl, 0⟩]⟩,
  ⟨0x103104c, [(0x100000, 16), (0x400, 8), (0x10, 4)], [⟨31, 0, .rwl, 0⟩]⟩,
  ⟨0x1031100, [(0x100000, 16), (0x400, 8)], [⟨17, 0, .rwl, 65536⟩]⟩,
  ⟨0x1031104, [(0x100000, 16), (0x400, 8), (0x4, 63)], [⟨17, 0, .rwl, 0⟩]⟩]

/-- The registers of RO. -/
def tableRO0 : List RegRow := [
  ⟨0x1020000, [(0x100000, 16)], [⟨0, 0, .rw, 0⟩, ⟨1, 1, .wo, 0⟩]⟩,
  ⟨0x1020004, [(0x100000, 16)], [⟨0, 0, .ro, 0⟩, ⟨1, 1, .ro, 0⟩, ⟨15, 8, .ro, 0⟩, ⟨22, 16, .ro, 0⟩]⟩,
  ⟨0x1020008, [(0x100000, 16)], [⟨8, 0, .ro, 0⟩, ⟨31, 16, .ro, 0⟩]⟩,
  ⟨0x1020100, [(0x100000, 16), (0x80, 2)], [⟨2, 0, .rwl, 4⟩, ⟨4, 4, .rwl, 1⟩, ⟨8, 8, .rw, 0⟩]⟩,
  ⟨0x1020104, [(0x100000, 16), (0x80, 2)], [⟨31, 0, .rw, 0⟩]⟩,
  ⟨0x1020108, [(0x100000, 16), (0x80, 2)], [⟨15, 0, .rw, 0⟩]⟩,
  ⟨0x102010c, [(0x100000, 16), (0x80, 2)], [⟨31, 0, .rw, 0⟩]⟩,
  ⟨0x1020110, [(0x100000, 16), (0x80, 2)], [⟨15, 0, .rw, 0⟩]⟩,
  ⟨0x1020114, [(0x100000, 16), (0x80, 2)], [⟨31, 0, .ro, 0⟩]⟩,
  ⟨0x1020118, [(0x100000, 16), (0x80, 2)], [⟨31, 0, .ro, 0⟩]⟩,
  ⟨0x1020120, [(0x100000, 16), (0x80, 2)], [⟨7, 0, .rw, 1⟩, ⟨8, 8, .rw, 0⟩, ⟨9, 9, .rw, 0⟩, ⟨31, 16, .rw, 1000⟩]⟩,
  ⟨0x1020124, [(0x100000, 16), (0x80, 2)], [⟨4, 0, .ro, 16⟩, ⟨8, 8, .ro, 0⟩, ⟨9, 9, .ro, 0⟩, ⟨10, 10, .w1c, 0⟩, ⟨11, 11, .w1c, 0⟩, ⟨12, 12, .ro, 0⟩]⟩,
  ⟨0x1020128, [(0x100000, 16), (0x80, 2)], [⟨15, 0, .ro, 0⟩, ⟨23, 16, .ro, 0⟩, ⟨31, 24, .ro, 0⟩]⟩,
  ⟨0x102012c, [(0x100000, 16), (0x80, 2)], [⟨15, 0, .ro, 0⟩]⟩,
  ⟨0x1020130, [(0x100000, 16), (0x80, 2)], [⟨0, 0, .wo, 0⟩, ⟨1, 1, .w1c, 0⟩, ⟨8, 8, .ro, 0⟩, ⟨23, 16, .ro, 0⟩]⟩,
  ⟨0x1021000, [(0x100000, 16), (0x80, 32)], [⟨31, 0, .rw, 0⟩]⟩,
  ⟨0x1021004, [(0x100000, 16), (0x80, 32)], [⟨15, 0, .rw, 0⟩]⟩,
  ⟨0x1021008, [(0x100000, 16), (0x80, 32)], [⟨31, 0, .rw, 0⟩]⟩,
  ⟨0x102100c, [(0x100000, 16), (0x80, 32)], [⟨15, 0, .rw, 0⟩]⟩,
  ⟨0x1021010, [(0x100000, 16), (0x80, 32)], [⟨17, 0, .rw, 0⟩]⟩]

def tableRO1 : List RegRow := [
  ⟨0x1021014, [(0x100000, 16), (0x80, 32)], [⟨31, 0, .rw, 0⟩]⟩,
  ⟨0x1021018, [(0x100000, 16), (0x80, 32)], [⟨4, 0, .rwl, 0⟩]⟩,
  ⟨0x102101c, [(0x100000, 16), (0x80, 32)], [⟨31, 0, .rw, 0⟩]⟩,
  ⟨0x1021020, [(0x100000, 16), (0x80, 32)], [⟨15, 0, .rw, 0⟩]⟩,
  ⟨0x1021024, [(0x100000, 16), (0x80, 32)], [⟨15, 0, .rwl, 0⟩]⟩,
  ⟨0x1021028, [(0x100000, 16), (0x80, 32)], [⟨14, 0, .rwl, 1⟩, ⟨27, 16, .rwl, 1⟩]⟩,
  ⟨0x102102c, [(0x100000, 16), (0x80, 32)], [⟨7, 0, .rwl, 0⟩, ⟨31, 16, .rwl, 0⟩]⟩,
  ⟨0x1021030, [(0x100000, 16), (0x80, 32)], [⟨15, 0, .rwl, 0⟩, ⟨16, 16, .rwl, 0⟩]⟩,
  ⟨0x1021034, [(0x100000, 16), (0x80, 32)], [⟨0, 0, .rwl, 0⟩, ⟨1, 1, .rwl, 1⟩, ⟨3, 2, .rwl, 0⟩, ⟨4, 4, .rwl, 0⟩, ⟨5, 5, .rwl, 0⟩]⟩,
  ⟨0x1021038, [(0x100000, 16), (0x80, 32)], [⟨13, 0, .rwl, 0⟩, ⟨20, 16, .rwl, 1⟩, ⟨31, 21, .rwl, 1⟩]⟩,
  ⟨0x102103c, [(0x100000, 16), (0x80, 32)], [⟨0, 0, .ro, 0⟩, ⟨1, 1, .ro, 0⟩, ⟨2, 2, .ro, 0⟩, ⟨3, 3, .ro, 0⟩, ⟨27, 16, .ro, 0⟩]⟩,
  ⟨0x1021040, [(0x100000, 16), (0x80, 32)], [⟨15, 0, .ro, 0⟩, ⟨23, 16, .ro, 0⟩, ⟨31, 24, .ro, 0⟩]⟩,
  ⟨0x1021044, [(0x100000, 16), (0x80, 32)], [⟨31, 0, .ro, 0⟩]⟩,
  ⟨0x1021048, [(0x100000, 16), (0x80, 32)], [⟨0, 0, .wo, 0⟩]⟩,
  ⟨0x1021050, [(0x100000, 16), (0x80, 32)], [⟨1, 0, .rwl, 1⟩, ⟨3, 2, .rwl, 0⟩, ⟨4, 4, .rwl, 1⟩, ⟨5, 5, .rwl, 1⟩, ⟨30, 16, .rwl, 1⟩]⟩,
  ⟨0x1021054, [(0x100000, 16), (0x80, 32), (0x8, 3)], [⟨15, 0, .rwl, 16384⟩, ⟨31, 16, .rwl, 0⟩]⟩,
  ⟨0x1021058, [(0x100000, 16), (0x80, 32), (0x8, 3)], [⟨31, 0, .rwl, 0⟩]⟩,
  ⟨0x102106c, [(0x100000, 16), (0x80, 32)], [⟨31, 0, .rwl, 0⟩]⟩,
  ⟨0x1021070, [(0x100000, 16), (0x80, 32)], [⟨31, 0, .rwl, 4194304⟩]⟩,
  ⟨0x1021074, [(0x100000, 16), (0x80, 32)], [⟨1, 0, .rwl, 0⟩, ⟨11, 8, .rwl, 8⟩, ⟨12, 12, .rw, 0⟩, ⟨13, 13, .wo, 0⟩]⟩]

def tableRO2 : List RegRow := [
  ⟨0x1021078, [(0x100000, 16), (0x80, 32)], [⟨31, 0, .rw, 0⟩]⟩,
  ⟨0x102107c, [(0x100000, 16), (0x80, 32)], [⟨23, 0, .ro, 0⟩, ⟨25, 24, .ro, 3⟩, ⟨28, 28, .ro, 0⟩]⟩,
  ⟨0x1023000, [(0x100000, 16), (0x20, 32)], [⟨31, 0, .rw, 0⟩]⟩,
  ⟨0x1023004, [(0x100000, 16), (0x20, 32)], [⟨31, 0, .rw, 0⟩]⟩,
  ⟨0x1023008, [(0x100000, 16), (0x20, 32)], [⟨31, 0, .ro, 0⟩]⟩,
  ⟨0x102300c, [(0x100000, 16), (0x20, 32)], [⟨23, 0, .rwl, 8388608⟩, ⟨28, 24, .rwl, 16⟩]⟩,
  ⟨0x1023010, [(0x100000, 16), (0x20, 32)], [⟨31, 0, .rw, 0⟩]⟩,
  ⟨0x1023014, [(0x100000, 16), (0x20, 32)], [⟨23, 0, .ro, 0⟩, ⟨31, 24, .ro, 0⟩]⟩,
  ⟨0x1023018, [(0x100000, 16), (0x20, 32)], [⟨15, 0, .ro, 0⟩, ⟨31, 16, .ro, 0⟩]⟩,
  ⟨0x1024000, [(0x100000, 16), (0x400, 32), (0x4, 256)], [⟨31, 0, .ro, 0⟩]⟩]

def tableRO : List RegRow := tableRO0 ++ tableRO1 ++ tableRO2

/-- The registers of RC. -/
def tableRC0 : List RegRow := [
  ⟨0x1050000, [(0x100000, 16), (0x1000, 4)], [⟨0, 0, .rw, 0⟩, ⟨1, 1, .wo, 0⟩]⟩,
  ⟨0x1050004, [(0x100000, 16), (0x1000, 4)], [⟨2, 0, .ro, 0⟩, ⟨5, 4, .ro, 0⟩, ⟨8, 8, .ro, 0⟩, ⟨23, 16, .ro, 0⟩, ⟨30, 24, .ro, 0⟩]⟩,
  ⟨0x1050008, [(0x100000, 16), (0x1000, 4)], [⟨14, 0, .ro, 0⟩, ⟨29, 16, .ro, 0⟩, ⟨31, 31, .ro, 1⟩]⟩,
  ⟨0x105000c, [(0x100000, 16), (0x1000, 4)], [⟨13, 0, .ro, 0⟩]⟩,
  ⟨0x1050010, [(0x100000, 16), (0x1000, 4)], [⟨31, 0, .ro, 0⟩]⟩,
  ⟨0x1050014, [(0x100000, 16), (0x1000, 4)], [⟨31, 0, .ro, 0⟩]⟩,
  ⟨0x1050018, [(0x100000, 16), (0x1000, 4)], [⟨6, 0, .rw, 8⟩, ⟨22, 16, .ro, 0⟩]⟩,
  ⟨0x1050020, [(0x100000, 16), (0x1000, 4)], [⟨0, 0, .rw, 0⟩, ⟨1, 1, .rw, 0⟩, ⟨8, 8, .w1s, 0⟩]⟩,
  ⟨0x1050024, [(0x100000, 16), (0x1000, 4)], [⟨10, 0, .rw, 0⟩]⟩,
  ⟨0x1050028, [(0x100000, 16), (0x1000, 4)], [⟨10, 0, .rw, 0⟩]⟩,
  ⟨0x105002c, [(0x100000, 16), (0x1000, 4)], [⟨10, 0, .w1c, 0⟩]⟩,
  ⟨0x1050030, [(0x100000, 16), (0x1000, 4)], [⟨13, 0, .ro, 0⟩, ⟨29, 16, .ro, 0⟩]⟩,
  ⟨0x1050034, [(0x100000, 16), (0x1000, 4)], [⟨9, 0, .rw, 0⟩]⟩,
  ⟨0x1050038, [(0x100000, 16), (0x1000, 4)], [⟨31, 0, .rw, 0⟩]⟩,
  ⟨0x105003c, [(0x100000, 16), (0x1000, 4)], [⟨31, 0, .rw, 0⟩]⟩,
  ⟨0x1050040, [(0x100000, 16), (0x1000, 4)], [⟨31, 0, .rw, 0⟩]⟩,
  ⟨0x1050050, [(0x100000, 16), (0x1000, 4)], [⟨15, 0, .ro, 0⟩, ⟨31, 16, .ro, 0⟩]⟩,
  ⟨0x1050054, [(0x100000, 16), (0x1000, 4)], [⟨11, 0, .ro, 0⟩, ⟨19, 12, .ro, 0⟩, ⟨31, 20, .ro, 0⟩]⟩,
  ⟨0x1050058, [(0x100000, 16), (0x1000, 4)], [⟨31, 0, .ro, 0⟩]⟩,
  ⟨0x1050060, [(0x100000, 16), (0x1000, 4)], [⟨15, 0, .ro, 0⟩, ⟨31, 16, .ro, 0⟩]⟩]

def tableRC1 : List RegRow := [
  ⟨0x1050064, [(0x100000, 16), (0x1000, 4)], [⟨13, 0, .ro, 0⟩]⟩,
  ⟨0x1050068, [(0x100000, 16), (0x1000, 4)], [⟨31, 0, .ro, 0⟩]⟩,
  ⟨0x105006c, [(0x100000, 16), (0x1000, 4)], [⟨31, 0, .ro, 0⟩]⟩,
  ⟨0x1050070, [(0x100000, 16), (0x1000, 4)], [⟨31, 0, .ro, 4294967295⟩]⟩,
  ⟨0x1050074, [(0x100000, 16), (0x1000, 4)], [⟨31, 0, .ro, 0⟩]⟩,
  ⟨0x1050078, [(0x100000, 16), (0x1000, 4)], [⟨31, 0, .ro, 0⟩]⟩,
  ⟨0x1054000, [(0x100000, 16)], [⟨15, 0, .ro, 0⟩, ⟨31, 16, .ro, 0⟩]⟩,
  ⟨0x1054004, [(0x100000, 16)], [⟨3, 0, .ro, 0⟩, ⟨15, 8, .ro, 0⟩]⟩,
  ⟨0x1054008, [(0x100000, 16)], [⟨31, 0, .ro, 0⟩]⟩,
  ⟨0x105400c, [(0x100000, 16)], [⟨31, 0, .ro, 0⟩]⟩]

def tableRC : List RegRow := tableRC0 ++ tableRC1

/-- The registers of SDG. -/
def tableSDG0 : List RegRow := [
  ⟨0x2000000, [], [⟨0, 0, .rw, 0⟩, ⟨1, 1, .wo, 0⟩, ⟨2, 2, .wo, 0⟩, ⟨3, 3, .wo, 0⟩, ⟨4, 4, .wo, 0⟩]⟩,
  ⟨0x2000004, [], [⟨0, 0, .ro, 0⟩, ⟨3, 1, .ro, 0⟩, ⟨4, 4, .ro, 0⟩, ⟨15, 8, .ro, 0⟩, ⟨26, 16, .ro, 0⟩]⟩,
  ⟨0x2000008, [], [⟨5, 0, .rwl, 8⟩, ⟨13, 8, .rwl, 4⟩, ⟨23, 16, .rwl, 8⟩]⟩,
  ⟨0x200000c, [], [⟨31, 0, .rwl, 6400⟩]⟩,
  ⟨0x2000010, [], [⟨31, 0, .rwl, 0⟩]⟩,
  ⟨0x2000014, [], [⟨31, 0, .rwl, 0⟩]⟩,
  ⟨0x2000018, [], [⟨31, 0, .rwl, 0⟩]⟩,
  ⟨0x200001c, [], [⟨31, 0, .rwl, 1600⟩]⟩,
  ⟨0x2000020, [], [⟨15, 0, .rw, 0⟩]⟩,
  ⟨0x2000024, [], [⟨12, 0, .ro, 0⟩, ⟨15, 13, .ro, 0⟩, ⟨16, 16, .ro, 0⟩]⟩,
  ⟨0x2000028, [], [⟨31, 0, .rw, 0⟩]⟩,
  ⟨0x200002c, [], [⟨31, 0, .ro, 0⟩]⟩,
  ⟨0x2000030, [], [⟨31, 0, .ro, 4294967295⟩]⟩,
  ⟨0x2000034, [], [⟨31, 0, .ro, 4294967295⟩]⟩,
  ⟨0x2000038, [], [⟨7, 0, .ro, 0⟩, ⟨15, 8, .ro, 0⟩]⟩,
  ⟨0x200003c, [], [⟨31, 0, .ro, 0⟩]⟩,
  ⟨0x2000040, [], [⟨31, 0, .ro, 0⟩]⟩,
  ⟨0x2000044, [], [⟨0, 0, .w1c, 0⟩]⟩,
  ⟨0x2000048, [], [⟨31, 0, .ro, 0⟩]⟩,
  ⟨0x200004c, [], [⟨31, 0, .ro, 0⟩]⟩]

def tableSDG1 : List RegRow := [
  ⟨0x2000050, [], [⟨31, 0, .ro, 0⟩]⟩,
  ⟨0x2000054, [], [⟨31, 0, .ro, 0⟩]⟩,
  ⟨0x2000060, [], [⟨23, 0, .ro, 0⟩, ⟨31, 24, .ro, 0⟩]⟩,
  ⟨0x2000064, [], [⟨15, 0, .ro, 0⟩, ⟨31, 16, .ro, 0⟩]⟩,
  ⟨0x2000100, [(0x10, 6)], [⟨2, 0, .ro, 0⟩, ⟨15, 8, .ro, 0⟩, ⟨23, 16, .ro, 0⟩]⟩,
  ⟨0x2000104, [(0x10, 6)], [⟨15, 0, .ro, 0⟩, ⟨31, 16, .ro, 0⟩]⟩,
  ⟨0x2001000, [(0x4, 1024)], [⟨0, 0, .rwl, 0⟩, ⟨13, 2, .rwl, 0⟩, ⟨18, 16, .rwl, 0⟩, ⟨21, 20, .rwl, 0⟩]⟩,
  ⟨0x2002000, [(0x4, 512)], [⟨0, 0, .ro, 0⟩, ⟨1, 1, .ro, 0⟩, ⟨2, 2, .ro, 0⟩]⟩,
  ⟨0x2003000, [(0x4, 64)], [⟨23, 0, .ro, 0⟩, ⟨24, 24, .ro, 0⟩, ⟨25, 25, .ro, 0⟩, ⟨26, 26, .ro, 0⟩, ⟨27, 27, .ro, 0⟩, ⟨28, 28, .ro, 0⟩, ⟨29, 29, .ro, 0⟩]⟩]

def tableSDG : List RegRow := tableSDG0 ++ tableSDG1

/-- The registers of FEN. -/
def tableFEN : List RegRow := [
  ⟨0x2100000, [], [⟨1, 1, .ro, 0⟩, ⟨15, 8, .ro, 0⟩, ⟨26, 16, .ro, 0⟩]⟩,
  ⟨0x2100004, [], [⟨6, 0, .rw, 64⟩]⟩,
  ⟨0x2100008, [], [⟨15, 0, .ro, 0⟩]⟩,
  ⟨0x210000c, [], [⟨15, 0, .ro, 0⟩, ⟨18, 16, .ro, 0⟩, ⟨19, 19, .ro, 0⟩]⟩,
  ⟨0x2100010, [], [⟨15, 0, .wo, 0⟩]⟩,
  ⟨0x2100100, [(0x4, 8)], [⟨31, 0, .w1c, 0⟩]⟩,
  ⟨0x2100140, [(0x4, 8)], [⟨31, 0, .w1c, 0⟩]⟩,
  ⟨0x2100180, [(0x4, 8)], [⟨31, 0, .w1c, 0⟩]⟩,
  ⟨0x2100200, [(0x8, 16)], [⟨7, 0, .rw, 0⟩, ⟨8, 8, .rw, 0⟩]⟩,
  ⟨0x2100204, [(0x8, 16)], [⟨31, 0, .ro, 0⟩]⟩,
  ⟨0x2101000, [(0x4, 256)], [⟨0, 0, .rw, 0⟩, ⟨1, 1, .rwl, 0⟩, ⟨5, 2, .rwl, 0⟩, ⟨17, 8, .rwl, 1023⟩, ⟨26, 24, .rwl, 0⟩, ⟨27, 27, .rwl, 0⟩]⟩,
  ⟨0x2102000, [(0x8, 1024)], [⟨0, 0, .rw, 0⟩, ⟨15, 8, .rwl, 0⟩, ⟨27, 16, .rwl, 4095⟩, ⟨30, 28, .rwl, 0⟩, ⟨31, 31, .rwl, 0⟩]⟩,
  ⟨0x2102004, [(0x8, 1024)], [⟨7, 0, .ro, 0⟩, ⟨15, 8, .ro, 0⟩, ⟨16, 16, .w1c, 0⟩]⟩,
  ⟨0x2108000, [], [⟨0, 0, .rw, 0⟩, ⟨1, 1, .wo, 0⟩]⟩,
  ⟨0x2108004, [], [⟨0, 0, .ro, 0⟩, ⟨1, 1, .ro, 0⟩, ⟨15, 8, .ro, 0⟩, ⟨31, 16, .ro, 0⟩]⟩,
  ⟨0x2108008, [], [⟨15, 0, .ro, 0⟩, ⟨31, 16, .ro, 0⟩]⟩,
  ⟨0x210800c, [], [⟨15, 0, .ro, 0⟩]⟩,
  ⟨0x2109000, [(0x4, 1024)], [⟨1, 0, .ro, 0⟩, ⟨2, 2, .ro, 0⟩, ⟨7, 4, .ro, 0⟩]⟩,
  ⟨0x210a000, [(0x8, 1024)], [⟨8, 0, .rwl, 0⟩, ⟨16, 16, .rwl, 0⟩]⟩,
  ⟨0x210a004, [(0x8, 1024)], [⟨13, 0, .rwl, 0⟩, ⟨24, 16, .rwl, 0⟩]⟩]

/-- The registers of CW. -/
def tableCW0 : List RegRow := [
  ⟨0x2200000, [(0x10000, 8)], [⟨0, 0, .rw, 0⟩, ⟨1, 1, .wo, 0⟩, ⟨2, 2, .wo, 0⟩, ⟨3, 3, .rwl, 0⟩]⟩,
  ⟨0x2200004, [(0x10000, 8)], [⟨3, 0, .rwl, 15⟩, ⟨4, 4, .rwl, 1⟩, ⟨15, 8, .rwl, 10⟩, ⟨23, 16, .rwl, 50⟩]⟩,
  ⟨0x2200008, [(0x10000, 8)], [⟨7, 0, .rwl, 228⟩, ⟨11, 8, .rwl, 0⟩, ⟨15, 12, .rwl, 0⟩]⟩,
  ⟨0x220000c, [(0x10000, 8)], [⟨2, 0, .ro, 0⟩, ⟨7, 4, .ro, 0⟩, ⟨8, 8, .ro, 0⟩, ⟨9, 9, .ro, 0⟩, ⟨16, 16, .ro, 0⟩, ⟨31, 24, .ro, 0⟩]⟩,
  ⟨0x2200010, [(0x10000, 8)], [⟨13, 0, .ro, 0⟩, ⟨18, 16, .ro, 0⟩, ⟨23, 20, .ro, 0⟩, ⟨24, 24, .ro, 0⟩]⟩,
  ⟨0x2200014, [(0x10000, 8)], [⟨6, 0, .rwl, 16⟩, ⟨14, 8, .ro, 0⟩]⟩,
  ⟨0x2200018, [(0x10000, 8)], [⟨7, 0, .rwl, 0⟩, ⟨15, 8, .rwl, 0⟩, ⟨21, 16, .rwl, 0⟩]⟩,
  ⟨0x220001c, [(0x10000, 8)], [⟨15, 0, .ro, 0⟩, ⟨23, 16, .ro, 0⟩]⟩,
  ⟨0x2200020, [(0x10000, 8)], [⟨15, 0, .ro, 0⟩, ⟨31, 16, .ro, 0⟩]⟩,
  ⟨0x2200024, [(0x10000, 8)], [⟨15, 0, .ro, 0⟩, ⟨23, 16, .ro, 0⟩, ⟨31, 24, .ro, 0⟩]⟩,
  ⟨0x2200028, [(0x10000, 8)], [⟨11, 0, .ro, 0⟩, ⟨23, 12, .ro, 0⟩, ⟨31, 24, .ro, 0⟩]⟩,
  ⟨0x2280000, [], [⟨0, 0, .rw, 0⟩]⟩,
  ⟨0x2280004, [], [⟨0, 0, .ro, 0⟩, ⟨1, 1, .ro, 0⟩, ⟨2, 2, .rs, 0⟩, ⟨15, 8, .ro, 0⟩, ⟨31, 16, .ro, 0⟩]⟩,
  ⟨0x2280008, [], [⟨13, 0, .rwl, 0⟩, ⟨19, 16, .ro, 0⟩]⟩,
  ⟨0x2280010, [(0x4, 3)], [⟨3, 0, .rwl, 0⟩, ⟨18, 4, .rwl, 1⟩, ⟨20, 20, .rwl, 0⟩, ⟨26, 24, .rwl, 0⟩, ⟨30, 28, .rwl, 0⟩]⟩,
  ⟨0x2280020, [], [⟨0, 0, .rw, 0⟩]⟩,
  ⟨0x2280024, [], [⟨0, 0, .rw, 1⟩, ⟨1, 1, .rw, 0⟩, ⟨15, 8, .rw, 0⟩]⟩,
  ⟨0x2280028, [], [⟨0, 0, .ro, 0⟩, ⟨1, 1, .ro, 0⟩, ⟨2, 2, .ro, 0⟩, ⟨3, 3, .ro, 0⟩, ⟨15, 8, .ro, 0⟩]⟩,
  ⟨0x228002c, [], [⟨11, 0, .ro, 0⟩, ⟨23, 12, .ro, 0⟩, ⟨31, 24, .ro, 0⟩]⟩,
  ⟨0x2280100, [(0x8, 8)], [⟨13, 0, .rwl, 0⟩, ⟨29, 16, .rwl, 0⟩]⟩]

def tableCW1 : List RegRow := [
  ⟨0x2280104, [(0x8, 8)], [⟨0, 0, .rwl, 0⟩, ⟨6, 4, .rwl, 0⟩]⟩,
  ⟨0x2281000, [(0x4, 512)], [⟨13, 0, .rwl, 0⟩, ⟨16, 16, .rwl, 0⟩]⟩]

def tableCW : List RegRow := tableCW0 ++ tableCW1

/-- The registers of BW. -/
def tableBW0 : List RegRow := [
  ⟨0x2300000, [], [⟨2, 0, .ro, 0⟩, ⟨7, 4, .ro, 0⟩, ⟨10, 8, .ro, 0⟩, ⟨12, 12, .ro, 0⟩]⟩,
  ⟨0x2300004, [], [⟨1, 0, .rw, 0⟩]⟩,
  ⟨0x2300008, [], [⟨1, 0, .rw, 0⟩, ⟨3, 2, .rw, 0⟩, ⟨5, 4, .rw, 0⟩, ⟨7, 6, .rw, 0⟩, ⟨9, 8, .rw, 0⟩, ⟨11, 10, .rw, 0⟩, ⟨13, 12, .rw, 0⟩, ⟨15, 14, .rw, 0⟩, ⟨17, 16, .rw, 0⟩, ⟨19, 18, .rw, 0⟩, ⟨21, 20, .rw, 0⟩, ⟨23, 22, .rw, 0⟩, ⟨25, 24, .rw, 0⟩, ⟨27, 26, .rw, 0⟩, ⟨29, 28, .rw, 0⟩, ⟨31, 30, .rw, 0⟩]⟩,
  ⟨0x230000c, [], [⟨15, 0, .ro, 0⟩, ⟨18, 16, .ro, 0⟩, ⟨31, 20, .ro, 0⟩]⟩,
  ⟨0x2300010, [], [⟨15, 0, .rs, 0⟩, ⟨17, 16, .rs, 0⟩]⟩,
  ⟨0x2301000, [(0x1000, 4)], [⟨0, 0, .rw, 0⟩, ⟨1, 1, .wo, 0⟩]⟩,
  ⟨0x2301004, [(0x1000, 4)], [⟨0, 0, .ro, 0⟩, ⟨1, 1, .ro, 0⟩, ⟨2, 2, .ro, 0⟩, ⟨15, 8, .ro, 0⟩, ⟨19, 16, .ro, 0⟩, ⟨28, 24, .ro, 0⟩]⟩,
  ⟨0x2301008, [(0x1000, 4)], [⟨31, 0, .rwl, 0⟩]⟩,
  ⟨0x230100c, [(0x1000, 4)], [⟨31, 0, .rwl, 0⟩]⟩,
  ⟨0x2301010, [(0x1000, 4)], [⟨31, 0, .rwl, 0⟩]⟩,
  ⟨0x2301014, [(0x1000, 4)], [⟨31, 0, .rwl, 0⟩]⟩,
  ⟨0x2301018, [(0x1000, 4)], [⟨9, 0, .rw, 100⟩, ⟨23, 16, .rw, 10⟩]⟩,
  ⟨0x230101c, [(0x1000, 4)], [⟨15, 0, .ro, 0⟩, ⟨31, 16, .ro, 0⟩]⟩,
  ⟨0x2301100, [(0x1000, 4), (0x20, 8)], [⟨31, 0, .rw, 0⟩]⟩,
  ⟨0x2301104, [(0x1000, 4), (0x20, 8)], [⟨31, 0, .rw, 0⟩]⟩,
  ⟨0x2301108, [(0x1000, 4), (0x20, 8)], [⟨16, 0, .rw, 16⟩]⟩,
  ⟨0x230110c, [(0x1000, 4), (0x20, 8)], [⟨0, 0, .rw, 0⟩, ⟨6, 4, .rwl, 0⟩]⟩,
  ⟨0x2301110, [(0x1000, 4), (0x20, 8)], [⟨0, 0, .ro, 0⟩, ⟨1, 1, .ro, 0⟩, ⟨2, 2, .ro, 0⟩, ⟨15, 8, .ro, 0⟩]⟩,
  ⟨0x2301114, [(0x1000, 4), (0x20, 8)], [⟨31, 0, .ro, 0⟩]⟩,
  ⟨0x2301200, [(0x1000, 4), (0x20, 8)], [⟨31, 0, .rw, 0⟩]⟩]

def tableBW1 : List RegRow := [
  ⟨0x2301204, [(0x1000, 4), (0x20, 8)], [⟨31, 0, .rw, 0⟩]⟩,
  ⟨0x2301208, [(0x1000, 4), (0x20, 8)], [⟨16, 0, .rw, 16⟩]⟩,
  ⟨0x230120c, [(0x1000, 4), (0x20, 8)], [⟨0, 0, .rw, 0⟩]⟩,
  ⟨0x2301210, [(0x1000, 4), (0x20, 8)], [⟨0, 0, .ro, 0⟩, ⟨2, 2, .ro, 0⟩, ⟨15, 8, .ro, 0⟩, ⟨31, 16, .ro, 0⟩]⟩,
  ⟨0x2301214, [(0x1000, 4), (0x20, 8)], [⟨31, 0, .ro, 0⟩]⟩]

def tableBW : List RegRow := tableBW0 ++ tableBW1

/-- The registers of IC. -/
def tableIC : List RegRow := [
  ⟨0x2400000, [], [⟨0, 0, .rw, 0⟩, ⟨1, 1, .rwl, 0⟩]⟩,
  ⟨0x2400004, [], [⟨0, 0, .ro, 0⟩, ⟨1, 1, .ro, 0⟩, ⟨15, 8, .ro, 0⟩, ⟨31, 16, .ro, 0⟩]⟩,
  ⟨0x2400008, [], [⟨0, 0, .rw, 0⟩]⟩,
  ⟨0x240000c, [], [⟨7, 0, .wo, 0⟩, ⟨10, 8, .wo, 0⟩]⟩,
  ⟨0x2400010, [], [⟨15, 0, .ro, 0⟩, ⟨31, 16, .ro, 0⟩]⟩,
  ⟨0x2400100, [(0x4, 32)], [⟨15, 0, .rw, 0⟩]⟩,
  ⟨0x2400200, [(0x4, 16)], [⟨31, 0, .rw, 4294967295⟩]⟩,
  ⟨0x2400280, [(0x4, 16)], [⟨31, 0, .w1s, 0⟩]⟩,
  ⟨0x24002c0, [(0x4, 16)], [⟨31, 0, .w1c, 0⟩]⟩,
  ⟨0x2400300, [(0x4, 16)], [⟨31, 0, .rw, 0⟩]⟩,
  ⟨0x2400340, [(0x4, 16)], [⟨31, 0, .ro, 0⟩]⟩,
  ⟨0x2400380, [(0x4, 10)], [⟨31, 0, .ro, 0⟩]⟩,
  ⟨0x2401000, [(0x4, 512)], [⟨7, 0, .rwl, 0⟩, ⟨10, 8, .rwl, 0⟩, ⟨16, 16, .ro, 0⟩]⟩]

/-- The registers of SLU. -/
def tableSLU : List RegRow := [
  ⟨0x2600000, [], [⟨0, 0, .rw, 0⟩, ⟨1, 1, .wo, 0⟩]⟩,
  ⟨0x2600004, [], [⟨0, 0, .ro, 0⟩, ⟨1, 1, .ro, 0⟩, ⟨2, 2, .ro, 0⟩, ⟨3, 3, .ro, 1⟩, ⟨15, 8, .ro, 0⟩, ⟨31, 16, .ro, 0⟩]⟩,
  ⟨0x2600008, [], [⟨15, 0, .rw, 64⟩, ⟨23, 16, .rw, 10⟩, ⟨27, 24, .rw, 2⟩]⟩,
  ⟨0x2600010, [(0x4, 4)], [⟨0, 0, .ro, 0⟩, ⟨1, 1, .ro, 0⟩]⟩,
  ⟨0x2600100, [(0x10, 16)], [⟨0, 0, .rwl, 1⟩, ⟨1, 1, .rwl, 0⟩, ⟨2, 2, .rwl, 0⟩, ⟨6, 4, .rwl, 0⟩, ⟨8, 8, .rwl, 0⟩]⟩,
  ⟨0x2600104, [(0x10, 16)], [⟨0, 0, .wo, 0⟩]⟩,
  ⟨0x2600108, [(0x10, 16)], [⟨15, 0, .ro, 0⟩, ⟨31, 16, .ro, 0⟩]⟩,
  ⟨0x2601000, [(0x20, 256)], [⟨17, 0, .rw, 0⟩]⟩,
  ⟨0x2601004, [(0x20, 256)], [⟨0, 0, .rw, 0⟩, ⟨2, 1, .ro, 0⟩, ⟨31, 16, .rwl, 65535⟩]⟩,
  ⟨0x2601008, [(0x20, 256)], [⟨15, 0, .rw, 65535⟩, ⟨31, 16, .rw, 1⟩]⟩,
  ⟨0x260100c, [(0x20, 256)], [⟨1, 0, .wo, 0⟩, ⟨4, 4, .wo, 0⟩]⟩,
  ⟨0x2601010, [(0x20, 256)], [⟨2, 0, .ro, 0⟩, ⟨8, 8, .w1c, 0⟩, ⟨9, 9, .w1c, 0⟩, ⟨10, 10, .ro, 0⟩, ⟨23, 16, .ro, 0⟩]⟩,
  ⟨0x2601014, [(0x20, 256)], [⟨17, 0, .ro, 0⟩]⟩,
  ⟨0x2601018, [(0x20, 256)], [⟨17, 0, .ro, 0⟩]⟩,
  ⟨0x260101c, [(0x20, 256)], [⟨7, 0, .ro, 0⟩, ⟨15, 8, .ro, 0⟩, ⟨23, 16, .ro, 0⟩]⟩]

/-- The registers of DPW. -/
def tableDPW : List RegRow := [
  ⟨0x2700000, [], [⟨0, 0, .rw, 0⟩, ⟨1, 1, .wo, 0⟩]⟩,
  ⟨0x2700004, [], [⟨0, 0, .ro, 0⟩, ⟨1, 1, .ro, 0⟩, ⟨2, 2, .ro, 0⟩, ⟨15, 8, .ro, 0⟩, ⟨31, 16, .ro, 0⟩]⟩,
  ⟨0x2700008, [], [⟨15, 0, .rwl, 10⟩, ⟨23, 16, .rwl, 32⟩]⟩,
  ⟨0x270000c, [], [⟨15, 0, .ro, 0⟩]⟩,
  ⟨0x2700010, [], [⟨3, 0, .rwl, 0⟩]⟩,
  ⟨0x2700100, [(0x40, 2)], [⟨1, 0, .rwl, 0⟩, ⟨6, 4, .rwl, 0⟩, ⟨16, 8, .rwl, 0⟩]⟩,
  ⟨0x2700104, [(0x40, 2)], [⟨19, 0, .rwl, 1000⟩]⟩,
  ⟨0x2700108, [(0x40, 2)], [⟨8, 0, .rwl, 0⟩, ⟨15, 12, .rwl, 0⟩, ⟨17, 16, .rwl, 0⟩, ⟨23, 20, .rwl, 0⟩]⟩,
  ⟨0x270010c, [(0x40, 2)], [⟨15, 0, .rwl, 0⟩]⟩,
  ⟨0x2700110, [(0x40, 2)], [⟨8, 0, .wo, 0⟩, ⟨16, 16, .wo, 0⟩, ⟨17, 17, .ro, 0⟩]⟩,
  ⟨0x2700114, [(0x40, 2)], [⟨0, 0, .wo, 0⟩, ⟨1, 1, .w1c, 0⟩, ⟨8, 8, .ro, 0⟩, ⟨23, 16, .ro, 0⟩]⟩,
  ⟨0x2700118, [(0x40, 2)], [⟨7, 0, .ro, 0⟩, ⟨15, 8, .ro, 0⟩, ⟨23, 16, .ro, 0⟩, ⟨31, 24, .ro, 0⟩]⟩,
  ⟨0x2701000, [(0x800, 2), (0x4, 320)], [⟨8, 0, .rwl, 0⟩, ⟨15, 12, .rwl, 0⟩]⟩,
  ⟨0x2704000, [(0x20, 320)], [⟨31, 0, .ro, 0⟩]⟩,
  ⟨0x2704004, [(0x20, 320)], [⟨15, 0, .ro, 0⟩]⟩,
  ⟨0x2704008, [(0x20, 320)], [⟨31, 0, .ro, 0⟩]⟩,
  ⟨0x270400c, [(0x20, 320)], [⟨31, 0, .ro, 0⟩]⟩,
  ⟨0x2704010, [(0x20, 320)], [⟨31, 0, .ro, 0⟩]⟩,
  ⟨0x2704014, [(0x20, 320)], [⟨0, 0, .rw, 1⟩, ⟨1, 1, .rw, 0⟩]⟩,
  ⟨0x2704018, [(0x20, 320)], [⟨0, 0, .wo, 0⟩]⟩]

/-- The registers of SEC. -/
def tableSEC : List RegRow := [
  ⟨0x2800000, [], [⟨0, 0, .wo, 0⟩, ⟨1, 1, .wo, 0⟩, ⟨4, 4, .rw, 0⟩]⟩,
  ⟨0x2800004, [], [⟨3, 0, .ro, 0⟩, ⟨8, 8, .ro, 0⟩, ⟨23, 16, .ro, 0⟩, ⟨31, 24, .ro, 0⟩]⟩,
  ⟨0x2800010, [], [⟨31, 0, .rw, 0⟩]⟩,
  ⟨0x2800014, [], [⟨31, 0, .rw, 0⟩]⟩,
  ⟨0x2800018, [], [⟨21, 0, .rw, 0⟩]⟩,
  ⟨0x2800020, [], [⟨7, 0, .ro, 0⟩, ⟨15, 8, .ro, 0⟩, ⟨31, 16, .ro, 0⟩]⟩,
  ⟨0x2800024, [], [⟨7, 0, .ro, 0⟩, ⟨9, 8, .ro, 0⟩, ⟨13, 12, .ro, 0⟩]⟩,
  ⟨0x2800100, [(0x10, 11)], [⟨0, 0, .ro, 0⟩, ⟨1, 1, .ro, 0⟩, ⟨2, 2, .ro, 0⟩, ⟨3, 3, .ro, 0⟩, ⟨4, 4, .w1c, 0⟩]⟩,
  ⟨0x2800104, [(0x10, 11)], [⟨31, 0, .ro, 0⟩]⟩,
  ⟨0x2800108, [(0x10, 11)], [⟨15, 0, .ro, 0⟩, ⟨23, 16, .ro, 0⟩]⟩,
  ⟨0x280010c, [(0x10, 11)], [⟨0, 0, .wo, 0⟩]⟩,
  ⟨0x2800200, [(0x4, 3)], [⟨6, 0, .ro, 0⟩]⟩,
  ⟨0x2800210, [], [⟨3, 0, .ro, 1⟩, ⟨11, 8, .ro, 0⟩]⟩,
  ⟨0x2800214, [], [⟨1, 0, .ro, 0⟩, ⟨4, 4, .ro, 0⟩]⟩,
  ⟨0x2800218, [], [⟨0, 0, .ro, 0⟩, ⟨1, 1, .w1c, 0⟩]⟩]

/-- The registers of PM. -/
def tablePM0 : List RegRow := [
  ⟨0x29000f0, [], [⟨7, 0, .ro, 0⟩, ⟨15, 8, .ro, 0⟩, ⟨31, 16, .ro, 0⟩]⟩,
  ⟨0x2900000, [], [⟨3, 0, .wo, 0⟩, ⟨4, 4, .wo, 0⟩]⟩,
  ⟨0x2900004, [], [⟨3, 0, .ro, 3⟩, ⟨4, 4, .ro, 0⟩, ⟨8, 8, .w1c, 0⟩, ⟨9, 9, .w1c, 0⟩, ⟨10, 10, .ro, 0⟩, ⟨23, 16, .ro, 0⟩, ⟨31, 28, .ro, 0⟩]⟩,
  ⟨0x2900008, [], [⟨0, 0, .rw, 0⟩, ⟨1, 1, .rw, 0⟩, ⟨2, 2, .rw, 0⟩]⟩,
  ⟨0x290000c, [], [⟨0, 0, .w1c, 0⟩, ⟨1, 1, .w1c, 0⟩, ⟨2, 2, .w1c, 0⟩]⟩,
  ⟨0x2900010, [], [⟨29, 0, .ro, 15887⟩]⟩,
  ⟨0x2900014, [], [⟨29, 0, .rw, 0⟩]⟩,
  ⟨0x2900018, [], [⟨24, 0, .ro, 1⟩]⟩,
  ⟨0x290001c, [], [⟨15, 0, .ro, 0⟩, ⟨16, 16, .ro, 0⟩]⟩,
  ⟨0x2900020, [], [⟨0, 0, .wo, 0⟩, ⟨1, 1, .wo, 0⟩, ⟨31, 16, .wo, 0⟩]⟩,
  ⟨0x2900024, [], [⟨15, 0, .wo, 0⟩, ⟨16, 16, .wo, 0⟩, ⟨17, 17, .wo, 0⟩]⟩,
  ⟨0x2900028, [], [⟨0, 0, .ro, 1⟩, ⟨1, 1, .ro, 0⟩, ⟨2, 2, .ro, 0⟩, ⟨3, 3, .ro, 0⟩]⟩,
  ⟨0x290002c, [], [⟨29, 0, .ro, 0⟩]⟩,
  ⟨0x2900100, [(0x10, 8)], [⟨0, 0, .rw, 0⟩, ⟨1, 1, .rwl, 0⟩, ⟨2, 2, .rwl, 0⟩, ⟨5, 4, .ro, 0⟩, ⟨8, 8, .ro, 0⟩, ⟨23, 16, .ro, 0⟩]⟩,
  ⟨0x2900104, [(0x10, 8)], [⟨31, 0, .rwl, 1000⟩]⟩,
  ⟨0x2900108, [(0x10, 8)], [⟨31, 0, .ro, 0⟩]⟩,
  ⟨0x2900200, [(0x4, 8)], [⟨1, 0, .rw, 0⟩, ⟨31, 16, .rw, 1⟩]⟩,
  ⟨0x2900300, [], [⟨0, 0, .w1c, 0⟩, ⟨1, 1, .w1c, 0⟩, ⟨2, 2, .w1c, 0⟩, ⟨3, 3, .w1c, 0⟩, ⟨4, 4, .w1c, 0⟩, ⟨5, 5, .w1c, 0⟩, ⟨31, 16, .ro, 0⟩]⟩,
  ⟨0x2900304, [], [⟨15, 0, .ro, 0⟩]⟩,
  ⟨0x2900308, [], [⟨7, 0, .rw, 0⟩, ⟨15, 8, .rw, 0⟩]⟩]

def tablePM1 : List RegRow := [
  ⟨0x290030c, [], [⟨7, 0, .ro, 0⟩, ⟨15, 8, .w1c, 0⟩]⟩,
  ⟨0x2900310, [], [⟨7, 0, .rw, 100⟩, ⟨15, 8, .rw, 110⟩, ⟨19, 16, .rw, 5⟩]⟩,
  ⟨0x2900314, [], [⟨11, 0, .ro, 0⟩, ⟨16, 16, .ro, 0⟩, ⟨17, 17, .ro, 0⟩, ⟨24, 24, .rs, 0⟩]⟩]

def tablePM : List RegRow := tablePM0 ++ tablePM1

/-- The registers of GLB. -/
def tableGLB : List RegRow := [
  ⟨0x0, [], [⟨15, 0, .ro, 0⟩, ⟨23, 16, .ro, 0⟩]⟩,
  ⟨0x4, [], [⟨15, 0, .ro, 0⟩, ⟨23, 16, .ro, 0⟩, ⟨24, 24, .ro, 0⟩, ⟨28, 25, .ro, 0⟩, ⟨31, 31, .ro, 0⟩]⟩,
  ⟨0x10, [], [⟨3, 0, .rw, 0⟩]⟩,
  ⟨0x20, [], [⟨15, 0, .wo, 0⟩, ⟨16, 16, .wo, 0⟩, ⟨17, 17, .wo, 0⟩, ⟨18, 18, .wo, 0⟩, ⟨19, 19, .wo, 0⟩, ⟨20, 20, .wo, 0⟩, ⟨21, 21, .wo, 0⟩, ⟨22, 22, .wo, 0⟩, ⟨23, 23, .wo, 0⟩, ⟨30, 30, .wo, 0⟩, ⟨31, 31, .wo, 0⟩]⟩,
  ⟨0x24, [], [⟨0, 0, .ro, 0⟩, ⟨1, 1, .ro, 0⟩, ⟨2, 2, .w1c, 0⟩]⟩,
  ⟨0x28, [], [⟨31, 0, .ro, 0⟩]⟩,
  ⟨0x2c, [], [⟨31, 0, .ro, 0⟩]⟩,
  ⟨0x30, [], [⟨24, 0, .w1c, 0⟩]⟩,
  ⟨0x34, [], [⟨15, 0, .ro, 0⟩, ⟨18, 16, .ro, 0⟩]⟩,
  ⟨0x38, [], [⟨25, 0, .ro, 0⟩]⟩,
  ⟨0x40, [(0x4, 3)], [⟨31, 0, .w1c, 0⟩]⟩,
  ⟨0x100, [(0x4, 80)], [⟨0, 0, .ro, 0⟩, ⟨1, 1, .ro, 0⟩, ⟨15, 8, .ro, 0⟩, ⟨31, 16, .ro, 0⟩]⟩]

/-- The table that holds the register at a BAR0 offset, by the map of R449. Empty where the map has no register. -/
def regTable (off : Nat) : List RegRow :=
  if off < 0x1000000 then tableGLB
  else if off < 0x2000000 then
    match off % 0x100000 / 0x10000 with
    | 0 => tableDRV
    | 2 => tableRO
    | 3 => tableFLX
    | 4 => tablePEAT
    | 5 => tableRC
    | 6 => tableSEG
    | 7 => tableSEG
    | 8 => tableMK
    | _ => []
  else
    match off / 0x100000 with
    | 0x20 => tableSDG
    | 0x21 => tableFEN
    | 0x22 => tableCW
    | 0x23 => tableBW
    | 0x24 => tableIC
    | 0x25 => tableTM
    | 0x26 => tableSLU
    | 0x27 => tableDPW
    | 0x28 => tableSEC
    | 0x29 => tablePM
    | _ => []

/-- Does an offset past the base of an array fall on one of its registers? -/
def dimsHit : List (Nat × Nat) → Nat → Bool
  | [], rem => rem == 0
  | (stride, count) :: rest, rem => rem / stride < count && dimsHit rest (rem % stride)

/-- Does this row hold the register at the offset? -/
def RegRow.hit (row : RegRow) (off : Nat) : Bool :=
  row.base ≤ off && dimsHit row.dims (off - row.base)

/-- The row of the register map for a BAR0 offset; none for a reserved offset (R12). -/
def regRow (off : Nat) : Option RegRow := (regTable off).find? (·.hit off)

/-- The reset values of the fields of a row, put together. -/
def rowReset : List FieldRow → Nat
  | [] => 0
  | f :: fs => f.reset * 2 ^ f.lo + rowReset fs

/-- The host interrupt sources of R349 that are LEVEL sources. -/
def icIsLevel (s : Nat) : Bool :=
  s ∈ [0, 2, 16, 17, 20, 26, 30, 44] || (32 ≤ s && s < 40) || s ∈ [72, 88, 104, 120] ||
    (264 ≤ s && (s - 264) % 16 == 0)


/-- The value of the register at a BAR0 offset after power-on reset. -/
def regReset (off : Nat) : Word :=
  if 0x2401000 ≤ off && off < 0x2401800 && off % 4 == 0 then
    let s := (off - 0x2401000) / 4
    BitVec.ofNat 32 (s / 16 + if icIsLevel s then 0x10000 else 0)
  else
    match regRow off with
    | some row => BitVec.ofNat 32 (rowReset row.fields)
    | none => 0

end Sys2Proof.Machine
end

