-- ==== Sys2Proof/Machine/SMap.lean ====
section
/-!
DEFINITION. Sparse stores: a list of key and value pairs in one canonical form.

Keys rise strictly, and no entry holds what its key reads as when it is not listed, so equal stores are equal lists.
Memories (R452) are sparse stores of bytes, which is a list of `Host.Cell`; the register file and the per-tone,
per-channel, per-core and per-port records of the state use the same form.
-/
namespace Sys2Proof.Machine

/-- A sparse store of values of type `α`. -/
abbrev SMap (α : Type) := List (Nat × α)

/-- What the store holds at a key; `d` gives what an unlisted key reads as. -/
def SMap.get {α : Type} (d : Nat → α) : SMap α → Nat → α
  | [], k => d k
  | (k', v) :: m, k => if k' = k then v else SMap.get d m k

/-- Puts an entry into a list of rising keys. -/
def SMap.insert {α : Type} : SMap α → Nat → α → SMap α
  | [], k, v => [(k, v)]
  | (k', v') :: m, k, v =>
    if k' < k then (k', v') :: SMap.insert m k v
    else if k' = k then (k, v) :: m
    else (k, v) :: (k', v') :: m

/-- Puts a value at a key; where it is what the key reads as unlisted, the entry goes. -/
def SMap.set {α : Type} [DecidableEq α] (d : Nat → α) (m : SMap α) (k : Nat) (v : α) : SMap α :=
  if v = d k then m.filter (fun e => e.1 != k) else SMap.insert m k v

/-- The canonical form: keys strictly rising, no entry equal to what its key reads as unlisted. -/
def SMap.wf {α : Type} [DecidableEq α] (d : Nat → α) : SMap α → Bool
  | [] => true
  | [(k, v)] => decide (v ≠ d k)
  | (k, v) :: (k', v') :: m => decide (v ≠ d k) && decide (k < k') && SMap.wf d ((k', v') :: m)

/-- Drops every entry whose key the test names. -/
def SMap.drop {α : Type} (p : Nat → Bool) (m : SMap α) : SMap α := m.filter (fun e => !p e.1)

/-- A memory of bytes. -/
abbrev Memory := SMap Byte

/-- What a byte of memory that nothing has written reads as.
DESIGN CHOICE: the specification gives no contents of a memory after power-on; see the assumption log, row 3. -/
def blank (_ : Nat) : Byte := 0

/-- What a byte of instruction memory that nothing has written reads as: the fill pattern of R205.
DESIGN CHOICE: the specification gives no contents after power-up; see the assumption log, row 3. -/
def unloaded (_ : Nat) : Byte := 0xFF

/-- The byte at an address. -/
def Memory.read (m : Memory) (a : Nat) : Byte := SMap.get blank m a

/-- Writes one byte. -/
def Memory.write (m : Memory) (a : Nat) (b : Byte) : Memory := SMap.set blank m a b

/-- The canonical form of a memory. -/
abbrev Memory.wf (m : Memory) : Bool := SMap.wf blank m

/-- Writes bytes at rising addresses. -/
def Memory.writeBytes (m : Memory) (a : Nat) : List Byte → Memory
  | [] => m
  | b :: bs => Memory.writeBytes (m.write a b) (a + 1) bs

/-- Reads bytes at rising addresses. -/
def Memory.readBytes (m : Memory) (a : Nat) : Nat → List Byte
  | 0 => []
  | n + 1 => m.read a :: Memory.readBytes m (a + 1) n

/-- Writes bytes of instruction memory at rising addresses. -/
def imemWrite (m : SMap Byte) (a : Nat) : List Byte → SMap Byte
  | [] => m
  | b :: bs => imemWrite (SMap.set unloaded m a b) (a + 1) bs

/-- Reads bytes of instruction memory at rising addresses. -/
def imemRead (m : SMap Byte) (a : Nat) : Nat → List Byte
  | 0 => []
  | n + 1 => SMap.get unloaded m a :: imemRead m (a + 1) n

/-- The value of bytes in little-endian order (R11). -/
def leNat : List Byte → Nat
  | [] => 0
  | b :: bs => b.toNat + 256 * leNat bs

/-- The bytes of a value in little-endian order (R11). -/
def leBytes : Nat → Nat → List Byte
  | 0, _ => []
  | n + 1, v => BitVec.ofNat 8 v :: leBytes n (v / 256)

/-- Reads `n` bytes as one little-endian value. -/
def Memory.readLe (m : Memory) (a n : Nat) : Nat := leNat (m.readBytes a n)

/-- Writes one value as `n` little-endian bytes. -/
def Memory.writeLe (m : Memory) (a n v : Nat) : Memory := m.writeBytes a (leBytes n v)

end Sys2Proof.Machine
end

