-- ==== Sys2Proof/Machine/State.lean ====
section
/-!
DEFINITION. The state of the block, as plain data, and its value after power-on reset.

A register of the register map has one home, `regs`; what the specification gives the block besides (engines, queues,
buffers, memories, the fabric-time value) has a field of its own. Records that exist per tone, channel, core or port are
sparse stores keyed by the device-wide index.
-/
namespace Sys2Proof.Machine

/-- The part of the family (R1). -/
inductive Part
  | pl5120
  | pl5112
  | pl5080
  | pl5040
  deriving DecidableEq, Repr

/-- What the block has put out at its boundary. -/
inductive Output
  /-- A write to host memory. -/
  | hostWrite (addr : Nat) (bytes : List Byte)
  /-- An MSI-X message of a vector, by its index in IC_DISARMED (R352). -/
  | msix (index : Nat)
  /-- The data of a register read on a path. -/
  | readData (path : Path) (off : Nat) (data : Word)
  /-- A flit sent on a Causeway port (R291). -/
  | flit (port : Nat) (bits : BitVec 256)
  /-- An ALIGN slot sent on a Causeway port (R284). -/
  | align (port : Nat)
  /-- The data of a read through the debug window on a path (R452). -/
  | windowData (path : Path) (off : Nat) (bytes : List Byte)
  /-- The byte that the SPI command STATUS returns (R405). -/
  | spiStatus (b : Byte)
  /-- Bits at TDO, first bit first (R406). -/
  | tdo (bits : List Bool)
  /-- The covered balls follow the boundary register (R406). -/
  | balls (bits : List Bool)
  deriving DecidableEq, Repr

/-- The time unit's record of one port (R46, R47). -/
structure TmPort where
  /-- TSEQ of the next TIME flit sent. -/
  txSeq : BitVec 16 := 0
  /-- TSEQ of the last TIME flit received. -/
  rxSeq : BitVec 16 := 0
  /-- Receive stamp of that flit. -/
  rxStamp : BitVec 80 := 0
  /-- TIME flits sent, newest first: TSEQ and transmit stamp. -/
  sent : List (BitVec 16 × BitVec 80) := []
  /-- t2 − t1 and t4 − t3 of the last valid exchange, in 2⁻¹⁶ tick. -/
  prev : Option (Int × Int) := none
  /-- (t2 − t1) + (t4 − t3) of the last valid exchanges, newest first, at most 64. -/
  paths : List Int := []
  deriving DecidableEq, Repr

/-- A time pulse output (R60). -/
structure Tpo where
  /-- The enable check accepted and EN not cleared since. -/
  enabled : Bool := false
  /-- t_en: the tick at which EN was set. -/
  tEn : Nat := 0
  /-- A one-shot output has fired. -/
  fired : Bool := false
  /-- End tick of the last pulse started. -/
  pulseEnd : Nat := 0
  deriving DecidableEq, Repr

/-- The time unit beyond its registers. -/
structure TmState where
  /-- Fabric time FT, 80 bits (R36). -/
  ft : BitVec 80 := 0
  /-- The unit is enabled. -/
  enabled : Bool := false
  /-- Valid exchanges collected in ACQUIRE or since a re-route. -/
  exchanges : Nat := 0
  /-- 15,625 × ((t2 − t1) − (t4 − t3)) − 16,384 × asym of the last valid exchange: θ in units of 2⁻¹⁵ fs. -/
  theta : Int := 0
  /-- A root identity has been taken since the unit was enabled. -/
  rootKnown : Bool := false
  /-- F_freq after the last updates, newest first, at most 64 (R53). -/
  freqHist : List Int := []
  /-- Stamp of the last PPS capture. -/
  lastPps : Option (BitVec 80) := none
  /-- PPS captures, oldest first, at most 4. -/
  ppsFifo : List (BitVec 80) := []
  deriving DecidableEq, Repr

/-- The host interrupt controller beyond its registers. -/
structure IcState where
  /-- Bit g: the hold-off of group g runs. -/
  holdOff : BitVec 32 := 0
  /-- MSI-X Enable of the functions PF0, VF1–VF4. -/
  msixEnable : BitVec 5 := 0
  /-- Function mask of the functions. -/
  funcMask : BitVec 5 := 0
  /-- Mask of each table entry, by vector index. -/
  entryMask : BitVec 320 := BitVec.allOnes 320
  /-- Pending-bit array, by vector index. -/
  pba : BitVec 320 := 0
  deriving DecidableEq, Repr

/-- Fen beyond its registers. -/
structure FenState where
  /-- Events presented by sources and not yet delivered to channels, oldest first. -/
  presented : List Nat := []
  /-- Task activations not yet delivered: task input and task, oldest first. -/
  acts : List (Nat × Nat) := []
  /-- Bit c: the enable check of channel c accepted and EN not cleared since (R433). -/
  chOn : Nat := 0
  /-- Bit i: the same for task input i. -/
  tiOn : Nat := 0
  /-- Bit c: channel c re-arms (R264). -/
  rearm : Nat := 0
  /-- Bit c: channel c holds a pending event. -/
  held : Nat := 0
  /-- Acceptances per channel in the 1 µs interval in progress (R272). -/
  accepted : SMap Nat := []
  deriving DecidableEq, Repr

/-- A segment table entry (R76). -/
structure Seg where
  rate : Nat := 0
  start : Nat := 0
  next : Nat := 0
  len : Nat := 0
  loop : Nat := 0
  mkStart : Nat := 0
  mkPat : Nat := 0
  mkStop : Nat := 0
  valid : Bool := false
  last : Bool := false
  rampIn : Bool := false
  rampOut : Bool := false
  stream : Bool := false
  sbuf : Nat := 0
  type : Nat := 0
  deriving DecidableEq, Repr

/-- Where an untimed jump request stands (R82). -/
inductive ReqPhase
  /-- It has arrived and its pass has not reached its commit point. -/
  | fresh
  /-- It takes effect at the end of the pass in progress. -/
  | armed
  /-- It came after the commit point and takes effect at the end of the following pass. -/
  | late
  deriving DecidableEq, Repr

/-- A pending untimed jump request (R82). -/
structure JumpReq where
  target : Nat
  arrival : Nat
  phase : ReqPhase
  deriving DecidableEq, Repr

/-- The segment chain of a tone engine: a drive tone, a read-out transmit tone or a flux channel. -/
structure Chain where
  /-- A chain is playing. -/
  active : Bool := false
  /-- Tick at which the chain started: T of its PLAY or CUT. -/
  began : Nat := 0
  /-- The entry now playing. -/
  entry : Nat := 0
  /-- The entry as latched when the pass began (R77). -/
  seg : Seg := {}
  /-- Start of the pass at the ball, in 2⁻¹⁶ tick (R67). -/
  start : Nat := 0
  /-- Passes of the segment before this one. -/
  passNo : Nat := 0
  /-- The pass plays zero for its cost (R89, R103). -/
  zero : Bool := false
  /-- Stream samples taken in this pass. -/
  taken : Nat := 0
  /-- The stream samples of this pass that a flux channel has taken, oldest first. -/
  samples : List Word := []
  /-- A timed BOUNDARY jump: target and T. -/
  jump : Option (Nat × Nat) := none
  /-- The pending untimed request. -/
  req : Option JumpReq := none
  /-- The commit point of this pass has been evaluated. -/
  committed : Bool := false
  /-- T of the last CUT that was executed (R81). -/
  lastCut : Option Nat := none
  /-- A CUT's crossfade: its T and the entry faded out (R80). -/
  fade : Option (Nat × Option Nat) := none
  /-- Tick at which an early-close ramp-down begins (R152). -/
  rampDown : Option Nat := none
  /-- Muted by stream policy ABORT until the next RUN (R86). -/
  muted : Bool := false
  /-- SEQ last seen on the decision-driven jump's slot (R83). -/
  recorded : Option Nat := none
  deriving DecidableEq, Repr

/-- A stream buffer beyond its registers (R84). -/
structure SBuf where
  enabled : Bool := false
  /-- The engine that plays it. -/
  user : Option Nat := none
  deriving DecidableEq, Repr

/-- A marker pin beyond its registers (R91, R210). -/
structure Marker where
  /-- MARK commands in force: instant at the ball, ACT, WIDTH, oldest first. -/
  cmds : List (Nat × Nat × Nat) := []
  /-- End tick of the last Fen pulse and its start. -/
  fenStart : Nat := 0
  fenEnd : Nat := 0
  deriving DecidableEq, Repr

/-- The predistortion chain of a flux channel (R106). -/
structure Filter where
  /-- The next output sample to compute: a tick on the flux grid. -/
  upTo : Nat := 0
  /-- x_s[n − 1] of the stages 0–3. -/
  xs : List Int := [0, 0, 0, 0]
  /-- y_s[n − 1] of the stages 0–3. -/
  ys : List Int := [0, 0, 0, 0]
  /-- The FIR delay line, newest first, at most 63. -/
  fir : List Int := []
  /-- The last code. -/
  code : Int := 0
  deriving DecidableEq, Repr

/-- A timed command (R178): command, target, execution time, operands, command number, bundle index and core. -/
structure TCmd where
  top : Nat
  tgt : Nat
  time : Nat
  a : Word
  b : Word
  c : Word
  d : Word
  seq : Word
  pc : Nat
  core : Nat
  deriving DecidableEq, Repr

/-- A command in an armed buffer, with the decision a CPLAY has captured (R184). -/
structure Armed where
  cmd : TCmd
  captured : Option Nat
  deriving DecidableEq, Repr

/-- A result on its way to a register of a core (R169): the bundle that makes it, the first bundle whose D-slot and T-slot
see it, the register's key and the value. -/
structure InFlight where
  bundle : Nat
  due : Nat
  key : Nat
  val : Nat
  deriving DecidableEq, Repr

/-- What the D-slot of the bundle in progress does when the bundle reaches EX1. -/
structure Post where
  /-- A store: address, size in bytes and value. -/
  store : Option (Nat × Nat × Nat) := none
  /-- RDFT with H = 0: the key of its destination. -/
  rdft : Option Nat := none
  /-- A read of ST_L: the key of its destination. -/
  stRead : Option Nat := none
  /-- A data access is misaligned or outside data memory. -/
  fault : Bool := false
  deriving DecidableEq, Repr

/-- The delay slots of a control-flow bundle (R171) and what follows them. -/
structure Delay where
  /-- Delay slots left. -/
  left : Nat
  /-- The target of a taken transfer. -/
  target : Option Nat := none
  /-- The level that RETI returns to. -/
  cl : Option Nat := none
  /-- The write of g31 by a call: key and value. -/
  link : Option (Nat × Nat) := none
  /-- HALT. -/
  halt : Bool := false
  deriving DecidableEq, Repr

/-- A Reed core beyond its registers of the register map. -/
structure Core where
  /-- ENTRY of the loaded image. -/
  entry : Nat := 0
  /-- The presets of the loaded image: register ID and value. -/
  presets : List (Nat × Nat) := []
  /-- The architectural registers, by key: the ID of R218 (accumulators 0x80 to 0x8F, flags 0x90 to 0x94) plus 256 times the
  bank of a banked register. -/
  regs : SMap Nat := []
  /-- Results in flight, in the order of issue. -/
  flight : List InFlight := []
  /-- Bundles issued. -/
  no : Nat := 0
  /-- The D-slot of the bundle in progress has been taken, and its T-slot has not. -/
  half : Bool := false
  post : Post := {}
  delay : Option Delay := none
  /-- The level that a level-2 entry interrupted. -/
  below : Nat := 0
  /-- Schedule time. -/
  st : BitVec 64 := 0
  /-- The latch of ST_H (R218). -/
  stHi : Word := 0
  /-- The latch of RDFT (R219). -/
  ftHi : Word := 0
  /-- The timed queue, oldest first. -/
  queue : List TCmd := []
  /-- A command whose bundle holds in OF because the queue is full. -/
  held : Option TCmd := none
  /-- A FENCE holds its bundle in OF. -/
  fence : Bool := false
  /-- The latest T of the commands delivered in this RUN. -/
  lastT : Nat := 0
  /-- The commit instant of the command in LAST_COMMIT. -/
  lastCommit : Option Nat := none
  deriving DecidableEq, Repr

/-- A result buffer posted to a RUN (R344), with what its completion record needs. -/
structure PostBuf where
  runTag : Nat
  addr : Nat
  size : Nat
  seq : Nat
  flg : Nat
  /-- Completion ring. -/
  cq : Nat
  /-- The tick at which processing began. -/
  began : Nat
  deriving DecidableEq, Repr

/-- A RUN's current result buffer (R343). -/
structure ResBuf where
  addr : Nat
  size : Nat
  /-- 16-byte records written. -/
  units : Nat := 0
  /-- T_end of the last window written. -/
  tLast : Nat := 0
  /-- The RESULT_POST that brought it. -/
  post : Option PostBuf := none
  deriving DecidableEq, Repr

/-- A RUN that has been fetched and has not completed (R340). -/
structure Run where
  /-- Partition and submission ring. -/
  part : Nat := 0
  ring : Nat := 0
  tag : Nat := 0
  seq : Nat := 0
  /-- The RUN has become ready and has not completed. -/
  active : Bool := false
  /-- Its cores have started. -/
  started : Bool := false
  /-- Named cores. -/
  coreMask : Nat := 0
  /-- T_START. -/
  tStart : Nat := 0
  /-- T_s. -/
  ts : Nat := 0
  /-- The reference tone, 32n + k. -/
  shotTone : Option Nat := none
  /-- TIMEOUT in µs; 0 for none. -/
  timeout : Nat := 0
  /-- Ticks and codes of the faults that mark a shot PARTIAL, oldest first (R341). -/
  marks : List (Nat × Nat) := []
  /-- T_end of the reference windows, oldest first. -/
  refs : List Nat := []
  /-- The latest T_end of a window of its Pools. -/
  lastEnd : Option Nat := none
  /-- The smallest T of a committed command other than TRIG. -/
  launch : Option Nat := none
  /-- The T of the last committed command. -/
  lastT : Option Nat := none
  /-- What decided STATUS ABORTED: 0, or 0x0A05. -/
  ended : Option Nat := none
  /-- The first code that decides STATUS FAULT. -/
  fault : Option Nat := none
  buf : Option ResBuf := none
  /-- Windows lost since a buffer was retired. -/
  lost : Nat := 0
  deriving DecidableEq, Repr

/-- How far a fetched descriptor has come. -/
inductive DescPhase
  /-- Fetched and checked under R335, points 1 to 4. -/
  | fetched
  /-- A RUN that waits or is active. -/
  | run
  /-- An append with samples left: written and discarded so far, and whether the host read failed after the last. -/
  | append (left : List Word) (written discarded : Nat) (short : Bool)
  /-- A held weight load, and whether the host read failed after the last weight. -/
  | weights (ws : List Word) (short : Bool)
  /-- An ABORT that waits for the RUNs of these rings. -/
  | abort (rings : List Nat) (ended : Nat)
  /-- A FENCE that waits. -/
  | fence
  deriving DecidableEq, Repr

/-- A descriptor in progress (R329, R332). -/
structure Desc where
  bits : BitVec 512
  /-- The number of the fetch. -/
  no : Nat
  /-- Completion ring. -/
  cq : Nat
  /-- The tick at which processing began. -/
  began : Nat
  phase : DescPhase := .fetched
  deriving DecidableEq, Repr

/-- A submission ring beyond its registers. -/
structure SubRing where
  on : Bool := false
  /-- SQ_TAIL at the last poll. -/
  tail : Nat := 0
  /-- The descriptor in progress. -/
  cur : Option Desc := none
  deriving DecidableEq, Repr

/-- A completion ring beyond its registers. -/
structure CplRing where
  on : Bool := false
  /-- CQ_HEAD at the last poll. -/
  head : Nat := 0
  deriving DecidableEq, Repr

/-- A partition beyond its registers. -/
structure Partition where
  /-- The post queue, oldest first. -/
  posts : List PostBuf := []
  /-- The tick at which a poll last found a changed index, or KICK was written. -/
  changed : Option Nat := none
  deriving DecidableEq, Repr

/-- The security controller beyond its registers. -/
structure SecState where
  /-- The retained store: the plaintext of the image in use (R395). -/
  retained : List Byte := []
  /-- Control-store contents by unit (R394). -/
  stores : SMap (List Byte) := []
  secPatch : List Byte := []
  pmPatch : List Byte := []
  /-- The image in use asks for ARB_COMMIT; its SVNs of image, SEC patch and PM patch. -/
  arb : Option (Nat × Nat × Nat) := none
  /-- Key hashes by slot (R402). -/
  hashes : SMap Nat := []
  /-- Subsystem vendor ID and subsystem ID in force (R396). -/
  pcieId : Nat × Nat := (0x1F3B, 0)
  /-- Values that apply from the next assertion of PERST_N. -/
  pcieNext : Option (Nat × Nat) := none
  /-- PCIe link training is enabled. -/
  linkOn : Bool := false
  /-- PERST_N is asserted. -/
  perst : Bool := false
  /-- Words corrected at the last scrub: unit and word. -/
  scrubbed : List (Nat × Nat) := []
  deriving DecidableEq, Repr

/-- The power manager beyond its registers. -/
structure PmState where
  /-- The mode of the transition in progress. -/
  target : Option Nat := none
  /-- Domains to switch on, in order; the first is being switched (R415). -/
  todo : List Nat := []
  /-- A sleep mode is being entered. -/
  entering : Bool := false
  /-- A wake has been latched during entry (R419). -/
  woken : Bool := false
  /-- A wake source that reaches PM in the CD0 cycle of the next request (R419). -/
  tie : Option Nat := none
  /-- A cold reset waits for Sluice to be open: the bit of PM_RESET_CAUSE (R421). -/
  cold : Option Nat := none
  /-- Domains are held off until the junction has cooled (R446). -/
  cooling : Bool := false
  /-- Bit k: a pulse drives GPIO[k] high (R423). -/
  gpioHigh : Nat := 0
  /-- Bit k: GPIO[k] is driven low as HOST_WAKE (R420). -/
  hostWake : Nat := 0
  /-- Bit k: ILK_N[k] is low. -/
  ilkLow : Nat := 0
  /-- Bit g: general timer g runs (R422). -/
  gtOn : Nat := 0
  /-- Exit from sleep tries the failed domains again (R415). -/
  retry : Bool := false
  deriving DecidableEq, Repr

/-- The snapshot of a requester path (R455). -/
structure Snap where
  mask : Nat := 0
  busy : Bool := false
  done : Bool := false
  ignored : Bool := false
  /-- T_snap. -/
  tick : Nat := 0
  /-- Captured values by BAR0 offset. -/
  vals : SMap Word := []
  deriving DecidableEq, Repr

/-- The instructions of the JTAG port (R406). -/
inductive JtagIr
  | bypass
  | sample
  | extest
  | idcode
  | clamp
  | highz
  deriving DecidableEq, Repr

/-- The JTAG port (R406). -/
structure Jtag where
  ir : JtagIr := .idcode
  /-- The boundary register: one bit per covered ball. -/
  boundary : List Bool := []
  deriving DecidableEq, Repr

/-- The management SPI slave (R405). -/
structure Spi where
  err : Bool := false
  /-- Writes of a WRITE have been taken that no later command has found complete. -/
  writing : Bool := false
  deriving DecidableEq, Repr

/-- Class 0 traffic that waits at a transmit port (R295, R298, R308), in the order of its arrival. -/
inductive C0Entry
  /-- A decision item of the export queue. -/
  | item (i : DecItem)
  /-- A flit in transit. -/
  | transit (f : Flit)
  /-- A SEDGE0 flit of this device. -/
  | own (f : Flit)
  deriving DecidableEq, Repr

/-- A remote block write in progress (R306). -/
structure Block where
  src : Nat
  /-- The header came as a LOCAL flit. -/
  loc : Bool
  tag : Nat
  /-- Offset inside the debug window. -/
  addr : Nat
  /-- Data flits left, and the index of the next. -/
  left : Nat
  index : Nat
  /-- STATUS of the answer so far. -/
  status : Nat
  deriving DecidableEq, Repr

/-- A Causeway port beyond its registers. -/
structure CwPort where
  /-- Class 0 flits and items that wait. -/
  c0 : List C0Entry := []
  /-- The head of the class 0 traffic has been counted as waiting for a token (R296). -/
  c0Waited : Bool := false
  /-- A TIME flit that waits for a token. -/
  timeWait : Option (BitVec 256) := none
  /-- Fabric time of the last FAULT 0x0907 of the port. -/
  lastPol : Option Nat := none
  /-- An ALIGN slot is due and deferred. -/
  alignDue : Bool := false
  /-- Flits of classes 1–3 that wait to be sent, oldest first. -/
  queue : List Flit := []
  /-- The class of a packet in progress. -/
  packet : Option Nat := none
  /-- Flits sent and not acknowledged, oldest first. -/
  unacked : List Flit := []
  /-- LSEQ of the next flit sent. -/
  txSeq : Nat := 0
  /-- LSEQ expected next. -/
  rxExp : Nat := 0
  /-- A flit has been accepted since the retry state was reset. -/
  rxAny : Bool := false
  /-- A NAK has been sent, or is to be sent, for the expected flit. -/
  nakSent : Bool := false
  /-- A NAK is to be sent. -/
  nakDue : Bool := false
  /-- Consecutive replays without progress. -/
  replays : Nat := 0
  /-- Buffers freed per class and set, modulo 256 (R304). -/
  freed : List Nat := [0, 0, 0, 0, 0, 0]
  /-- The CRED counts received last. -/
  credRx : List Nat := [0, 0, 0, 0, 0, 0]
  /-- Flits sent per class and set, modulo 256. -/
  used : List Nat := [0, 0, 0, 0, 0, 0]
  /-- The retry state was reset since the last ACTIVE. -/
  rst : Bool := false
  /-- Logical receive lanes on which valid TS words have arrived in this training. -/
  lanesSeen : Nat := 0
  /-- The partner's usable lanes. -/
  partnerLanes : Nat := 0
  /-- Consecutive CONFIG words whose MASK agrees. -/
  good : Nat := 0
  /-- The last beacon received: SUB_RDY, MACHINE_RDY and CHILD; none when none has arrived in 30 µs. -/
  beacon : Option (Bool × Bool × Bool) := none
  /-- Block writes in progress (R306). -/
  blocks : List Block := []
  deriving DecidableEq, Repr

/-- A window of a read-out tone (R122 to R125, R148). -/
structure Win where
  /-- T_open. -/
  opened : Nat
  /-- Opened by WINDOW_START. -/
  inj : Bool
  /-- θ_app in force at T_open. -/
  theta : Int
  /-- Demod samples integrated, newest first. -/
  samples : List (Int × Int) := []
  /-- The running sum Λ, exact, in 2⁻⁴⁵. -/
  lam : Int := 0
  /-- The sequential decision: its state and Λ − θ_app, in 2⁻⁴⁵. -/
  decided : Option (Nat × Int) := none
  /-- An ADC over-range has entered the window. -/
  overRange : Bool := false
  /-- Shot index. -/
  shot : Nat
  deriving DecidableEq, Repr

/-- A WIN on a tone that has been committed and has opened no window yet. -/
structure WinSeq where
  /-- T of the WIN. -/
  time : Nat
  /-- T_open of the first window. -/
  first : Nat
  deriving DecidableEq, Repr

/-- A read-out tone beyond its registers. -/
structure RoTone where
  /-- Committed WINs, in order of time. -/
  seqs : List WinSeq := []
  /-- Open times of the repetitions left of the sequence in progress. -/
  more : List Nat := []
  /-- The open window. -/
  win : Option Win := none
  /-- The waiting injected request: its natural open time and its open time (R126). -/
  inj : Option (Nat × Nat) := none
  /-- Windows opened since the RUN started. -/
  count : Nat := 0
  sumI : Int := 0
  sumQ : Int := 0
  sqI : Nat := 0
  sqQ : Nat := 0
  accSat : Bool := false
  traceSat : Bool := false
  /-- Trace bins; bins past the end hold 0. -/
  bins : List (Int × Int) := []
  deriving DecidableEq, Repr

/-- A read-out line beyond its registers (R136 to R139). -/
structure RoLine where
  /-- Fabric time at which the last foreground calibration was accepted. -/
  fgFrom : Option Nat := none
  /-- Fabric time at which it was done. -/
  fgTo : Option Nat := none
  /-- It has begun. -/
  begun : Bool := false
  /-- The deferred swap step is forced at the next window end. -/
  force : Bool := false
  /-- The hard freeze in force has expired. -/
  expired : Bool := false
  deriving DecidableEq, Repr

/-- The records of one window in a result FIFO (R129 to R131). -/
structure WinRecs where
  tone : Nat
  tEnd : Nat
  /-- Four words per record. -/
  words : List Word
  deriving DecidableEq, Repr

/-- An edge of a detector graph (R238). -/
structure Edge where
  a : Nat
  b : Nat
  btype : Nat
  nb : Nat
  own : Bool
  wt : Nat
  frame : Nat
  pauli : Nat
  obs : Nat
  deriving DecidableEq, Repr

/-- A loaded detector graph (R237). -/
structure Graph where
  /-- INIT of the local detectors. -/
  init : List Bool
  /-- Node IDs of the six neighbours; none where EN is 0. -/
  nbs : List (Option Nat)
  edges : List Edge
  deriving DecidableEq, Repr

/-- Sedge beyond its registers. -/
structure SdgState where
  graph : Option Graph := none
  /-- The round r0 at which an armed session begins. -/
  start : Option Nat := none
  /-- The first round of the session. -/
  first : Nat := 0
  /-- The round in progress: the next to close. -/
  round : Nat := 0
  /-- The round origin of windowing: r0, or the restart round. -/
  base : Nat := 0
  /-- The window that decodes next. -/
  window : Nat := 0
  /-- m of the last closed round: detectors with m = 1, ascending. -/
  prev : List Nat := []
  /-- Measurements of the round in progress: detector and value. -/
  meas : List (Nat × Bool) := []
  /-- Writes seen per slot in the round in progress. -/
  writes : SMap Nat := []
  /-- Detection events of closed rounds from the next window's first round on: round and detectors. -/
  events : List (Nat × List Nat) := []
  /-- Ghost events received: neighbour, round, parts seen, ghost indices. -/
  ghosts : List (Nat × Nat × List Nat × List Nat) := []
  /-- Neighbour and round that timed out under R242. -/
  timedOut : List (Nat × Nat) := []
  /-- Neighbour and first round closed after it linked. -/
  linkedFrom : List (Nat × Nat) := []
  /-- Consecutive rounds that timed out, per neighbour. -/
  silent : List Nat := [0, 0, 0, 0, 0, 0]
  /-- Detectors toggled in the first round after the last commit region (R247). -/
  carry : List Nat := []
  /-- Own seam corrections: neighbour, first round of the region, seam edge and round offset. -/
  ownSeam : List (Nat × Nat × List (Nat × Nat)) := []
  /-- Commits received from owners and not compared yet. -/
  theirSeam : List (Nat × Nat × List (Nat × Nat)) := []
  /-- SEAM_COMMIT flits of a commit that is not complete: neighbour, first round, entries. -/
  partSeam : List (Nat × Nat × List (Nat × Nat)) := []
  /-- The flush round of a session that ends. -/
  flush : Option Nat := none
  deriving DecidableEq, Repr

/-- A Sluice channel beyond its registers. -/
structure SluCh where
  /-- Enabled: EN set and the check accepted (R367, R384). -/
  on : Bool := false
  /-- Stages of a range-change sequence passed (R368). -/
  stage : Nat := 0
  /-- The range that the sequence switches to. -/
  newRange : Nat := 0
  /-- ZEROING ends OPEN. -/
  toOpen : Bool := false
  /-- ZEROING ends FAULTED. -/
  toFault : Bool := false
  /-- Consecutive mismatches (R380). -/
  misses : Nat := 0
  /-- Output codes with the conversion slot from which each stood, newest first. -/
  past : List (Nat × Int) := []
  deriving DecidableEq, Repr

/-- A Dipwell converter beyond its registers. -/
structure DpwConv where
  /-- Supervision credit (R375). -/
  credit : Nat := 0
  /-- The channel supervised last. -/
  sup : Option Nat := none
  /-- The scan in progress: entry and conversions of it made. -/
  scan : Option (Nat × Nat) := none
  /-- Conversions left of a delayed conversion. -/
  dly : Option Nat := none
  /-- The delayed conversion is due. -/
  dlyDue : Bool := false
  /-- The input of a pending injected conversion. -/
  inj : Option Nat := none
  /-- Calibration is requested or runs (R379). -/
  cal : Bool := false
  deriving DecidableEq, Repr

/-- Dipwell beyond its registers. -/
structure DpwState where
  /-- Conversion slots so far. -/
  slots : Nat := 0
  convs : SMap DpwConv := []
  /-- A cross-check is due or in progress. -/
  xchk : Bool := false
  /-- The two REF readings of the cross-check in progress. -/
  xref : Option (Int × Int) := none
  /-- The channel cross-checked last. -/
  xlast : Option Nat := none
  deriving DecidableEq, Repr

/-- The state of the block. -/
structure State where
  /-- Commands that wait, first in, first out. -/
  pending : List Instr := []
  /-- The part. -/
  part : Part := .pl5120
  /-- Registers by BAR0 offset. -/
  regs : SMap Word := []
  /-- Companion words latched per requester path (R429), keyed by path × 2²⁶ + offset. -/
  latches : SMap Word := []
  /-- What the block has put out, oldest first. -/
  out : List Output := []
  /-- Codes of the run-time faults raised, oldest first (R437). -/
  faultLog : List Nat := []
  /-- Draws of free values so far: the model's own counter. -/
  freeIdx : Nat := 0
  tm : TmState := {}
  tmPorts : SMap TmPort := []
  tpos : SMap Tpo := []
  /-- Progress of a PPS read per path: 1 after L, 2 after M (R59). -/
  ppsStage : SMap Nat := []
  ic : IcState := {}
  fen : FenState := {}
  /-- Segment entry words staged for a commit (R77), by the register's offset. -/
  segStage : SMap Word := []
  /-- Chains by 72n + e: e = 0–31 drive tones, 32–63 read-out transmit tones, 64–71 flux channels of Pool n. -/
  chains : SMap Chain := []
  /-- Stream buffers by 16n + b. -/
  sbufs : SMap SBuf := []
  /-- Marker pins by 4n + m. -/
  markers : SMap Marker := []
  /-- Predistortion chains by 8n + f. -/
  filters : SMap Filter := []
  /-- Peat, by 2²²n + byte address. -/
  peat : Memory := []
  /-- Data memories, by 65,536 × core + byte address. -/
  dmem : Memory := []
  /-- Instruction memories, by 131,072 × core + byte address. -/
  imem : SMap Byte := []
  /-- Reed cores by global number. -/
  cores : SMap Core := []
  /-- Armed buffers by 128n + target: TGT of R207, 0x58 for the trigger engine, 0x60 + k for the window engine of tone k. -/
  armed : SMap (List Armed) := []
  /-- Causeway ports by number. -/
  cw : SMap CwPort := []
  /-- End-to-end sequence of the next class 0 flit per destination node (R300). -/
  esqTx : SMap Nat := []
  /-- Expected end-to-end sequence plus 1 per tracked source; 0 before the first flit. -/
  esqRx : SMap Nat := []
  sdg : SdgState := {}
  /-- Read-out tones by 32n + k. -/
  tones : SMap RoTone := []
  /-- Read-out lines by 2n + l. -/
  lines : SMap RoLine := []
  /-- Weights by 2048 × (32n + k) + i. -/
  weights : SMap Word := []
  /-- Result FIFOs by Pool. -/
  fifos : SMap (List WinRecs) := []
  /-- Sluice channels by number. -/
  slu : SMap SluCh := []
  dpw : DpwState := {}
  /-- RUNs fetched and not completed, oldest first. -/
  runs : List Run := []
  /-- Submission rings by 8p + r. -/
  sqs : SMap SubRing := []
  /-- Completion rings by 8p + r. -/
  cqs : SMap CplRing := []
  /-- Partitions by number. -/
  parts : SMap Partition := []
  /-- Descriptors fetched so far. -/
  fetches : Nat := 0
  /-- Bit n: the read-out unit of Pool n has been enabled since its power-up. -/
  roEver : Nat := 0
  sec : SecState := {}
  pm : PmState := {}
  /-- Debug-window pages by path (R451). -/
  pages : SMap Nat := []
  /-- Snapshots by path. -/
  snaps : SMap Snap := []
  jtag : Jtag := {}
  spi : Spi := {}
  deriving DecidableEq, Repr

/-- Why the machine stops. It has no constructor: no command of the block stops it, since the specification gives every
command its effect. -/
inductive Fault
  deriving DecidableEq, Repr

/-- Why a command has no meaning. -/
inductive Refusal
  /-- For a row that is not modelled: safe. No arm of the dispatcher raises it. -/
  | notModelled (mnemonic : String)
  deriving DecidableEq, Repr

/-- What a step answers. -/
abbrev Result := Host.Outcome State Fault Refusal

/-- The machine right after power-on reset. -/
def State.reset : State := {}

end Sys2Proof.Machine
end

