-- ==== Sys2Proof/Machine/Ops.lean ====
section
/-!
DEFINITION. The operations every unit uses: register and field access, what is present and powered, faults, Fen sources,
host interrupts, the record of an enable check, and the change of mode.
-/
namespace Sys2Proof.Machine

/-! ### Registers -/

/-- The value of the register at a BAR0 offset. -/
def State.reg (s : State) (off : Nat) : Word := SMap.get regReset s.regs off

/-- Sets a register. -/
def State.setReg (s : State) (off : Nat) (v : Word) : State := { s with regs := SMap.set regReset s.regs off v }

/-- Sets a register from a natural number, modulo 2³². -/
def State.setRegN (s : State) (off v : Nat) : State := s.setReg off (BitVec.ofNat 32 v)

/-- A register as a natural number. -/
def State.regN (s : State) (off : Nat) : Nat := (s.reg off).toNat

/-- The bits [hi:lo] of a word. -/
def fieldOf (w : Word) (hi lo : Nat) : Nat := w.toNat / 2 ^ lo % 2 ^ (hi + 1 - lo)

/-- A word with the bits [hi:lo] replaced by a value, taken modulo the field's size. -/
def putField (w : Word) (hi lo v : Nat) : Word :=
  BitVec.ofNat 32 (w.toNat / 2 ^ (hi + 1) * 2 ^ (hi + 1) + v % 2 ^ (hi + 1 - lo) * 2 ^ lo + w.toNat % 2 ^ lo)

/-- The value of a register field. -/
def State.fld (s : State) (f : Fld) : Nat := fieldOf (s.reg f.off) f.hi f.lo

/-- Sets a register field. -/
def State.setFld (s : State) (f : Fld) (v : Nat) : State := s.setReg f.off (putField (s.reg f.off) f.hi f.lo v)

/-- Is a register field non-zero? -/
def State.flag (s : State) (f : Fld) : Bool := s.fld f != 0

/-- Sets a one-bit field. -/
def State.setFlag (s : State) (f : Fld) (b : Bool) : State := s.setFld f (bit b)

/-- The largest value of a field. -/
def Fld.max (f : Fld) : Nat := 2 ^ (f.hi + 1 - f.lo) - 1

/-- Adds to a counter field that saturates. -/
def State.incSat (s : State) (f : Fld) (n : Nat := 1) : State := s.setFld f (min (s.fld f + n) f.max)

/-- Adds to a counter field that wraps. -/
def State.incWrap (s : State) (f : Fld) (n : Nat := 1) : State := s.setFld f (s.fld f + n)

/-- A field as a signed number. -/
def State.fldS (s : State) (f : Fld) : Int := signed (f.hi + 1 - f.lo) (s.fld f)

/-- Sets a field to a signed number, modulo the field's size. -/
def State.setFldS (s : State) (f : Fld) (v : Int) : State := s.setFld f (unsigned (f.hi + 1 - f.lo) v)

/-- A 64-bit value held in a register and the next. -/
def State.reg64 (s : State) (offL : Nat) : Nat := s.regN offL + 2 ^ 32 * s.regN (offL + 4)

/-- Sets a 64-bit value held in a register and the next. -/
def State.setReg64 (s : State) (offL v : Nat) : State := (s.setRegN offL v).setRegN (offL + 4) (v / 2 ^ 32)

/-- Returns every register from `lo` up to `hi` to its reset value. -/
def State.resetRegs (s : State) (lo hi : Nat) : State :=
  { s with regs := SMap.drop (fun k => lo ≤ k && k < hi) s.regs }

/-- Puts something out at the boundary. -/
def State.emit (s : State) (o : Output) : State := { s with out := s.out ++ [o] }

/-- Draws a free value: the counter advances. -/
def State.draw (s : State) : State := { s with freeIdx := s.freeIdx + 1 }

/-- Does it for every index, in ascending order. -/
def forRange {σ : Type} (n : Nat) (f : Nat → σ → σ) (s : σ) : σ := (List.range n).foldl (fun t i => f i t) s

/-- Does it where the condition holds. -/
def State.when (s : State) (c : Bool) (f : State → State) : State := if c then f s else s

/-! ### What is present, powered and locked -/

/-- The number of Pools present (R1, R6). -/
def Part.pools : Part → Nat
  | .pl5120 => 16
  | .pl5112 => 16
  | .pl5080 => 8
  | .pl5040 => 4

/-- The number of Causeway ports present (R1, R6). -/
def Part.ports : Part → Nat
  | .pl5120 => 8
  | .pl5112 => 8
  | .pl5080 => 4
  | .pl5040 => 2

/-- Is Sedge present (R1)? -/
def Part.sedge : Part → Bool
  | .pl5120 => true
  | .pl5112 => false
  | .pl5080 => true
  | .pl5040 => false

/-- The maximum PCIe link width (R1). -/
def Part.lanes : Part → Nat
  | .pl5040 => 4
  | _ => 8

/-- The part number in BCD. -/
def Part.code : Part → Nat
  | .pl5120 => 0x5120
  | .pl5112 => 0x5112
  | .pl5080 => 0x5080
  | .pl5040 => 0x5040

def State.poolPresent (s : State) (n : Nat) : Bool := n < s.part.pools
def State.portPresent (s : State) (p : Nat) : Bool := p < s.part.ports

/-- Is the unit of a power domain present (R2)? -/
def State.pdPresent (s : State) (d : Nat) : Bool :=
  if 14 ≤ d then s.poolPresent (d - 14)
  else if 10 ≤ d then s.poolPresent (4 * (d - 10))
  else if d = 8 then s.part.sedge
  else if d = 6 then s.portPresent 4
  else true

/-- Does power domain d report power-good? -/
def State.pdOn (s : State) (d : Nat) : Bool := bitOf (s.fld fPM_PD_STATUS_ON) d

/-- Is clock domain d locked? -/
def State.locked (s : State) (d : Nat) : Bool := bitOf (s.fld fPM_CLK_STATUS_LOCKED) d

/-- Pool n is present and powered. -/
def State.poolPowered (s : State) (n : Nat) : Bool := s.poolPresent n && s.pdOn (14 + n)

/-- Pool n is present and powered, and its clock is locked (R22). -/
def State.poolLive (s : State) (n : Nat) : Bool := s.poolPowered n && s.locked (9 + n)

/-- Sedge is present and powered. -/
def State.sedgePowered (s : State) : Bool := s.part.sedge && s.pdOn 8

/-- The power domain of a Causeway port (R18). -/
def portPd (p : Nat) : Nat := if p < 4 then 5 else 6

/-- Port p is present and powered. -/
def State.portPowered (s : State) (p : Nat) : Bool := s.portPresent p && s.pdOn 4 && s.pdOn (portPd p)

/-- The tick count of fabric time (R36). -/
def State.now (s : State) : Nat := s.tm.ft.toNat / 2 ^ 16

/-! ### Modes (R409) -/

def modeDeepSleep : Nat := 1
def modeBiasHold : Nat := 2
def modeBoot : Nat := 3
def modeLoad : Nat := 4
def modeConfig : Nat := 5
def modeCalibrate : Nat := 6
def modeReady : Nat := 7
def modeRun : Nat := 8
def modeDrain : Nat := 9
def modeSafe : Nat := 10
def modeDiag : Nat := 11

/-- The code of the present mode. -/
def State.mode (s : State) : Nat := s.fld fPM_STATUS_MODE

/-- CONFIG, CALIBRATE, READY or DIAG: the modes that enable checks and time steps share (R50, R63). -/
def State.modeOpen (s : State) : Bool :=
  s.mode ∈ [modeConfig, modeCalibrate, modeReady, modeDiag]

/-! ### Host interrupts -/

/-- Is s a source of R349, of a unit that is present (R9)? -/
def State.icSource (s : State) (src : Nat) : Bool :=
  if src < 7 then true
  else if 16 ≤ src && src < 23 then true
  else if 24 ≤ src && src < 31 then s.part.sedge
  else if 32 ≤ src && src < 40 then s.portPresent (src - 32)
  else if 40 ≤ src && src < 46 then true
  else if 48 ≤ src && src < 52 then s.poolPresent (4 * (src - 48))
  else if 52 ≤ src && src < 57 then true
  else if 64 ≤ src && src < 128 then (src - 64) % 16 < 10
  else if 128 ≤ src && src < 144 then true
  else if 256 ≤ src && src < 512 then (src - 256) % 16 < 9 && s.poolPresent ((src - 256) / 16)
  else false

/-- The index of vector v of function f in IC_DISARMED. -/
def icIndex (fn v : Nat) : Nat := if fn = 0 then v else 256 + 16 * (fn - 1) + v

/-- The vector index that source s is routed to. -/
def State.icVector (s : State) (src : Nat) : Nat := icIndex (s.fld (fIC_SRC_s_FUNC src)) (s.fld (fIC_SRC_s_VEC src))

/-- The partition that owns Pool n (R323). -/
def State.poolOwner (s : State) (n : Nat) : Nat := bitsOf (s.regN rBW_POOL_OWNER) (2 * n + 1) (2 * n)

/-- Is a source treated as masked because its Pool has changed owner (R355)? -/
def State.icStray (s : State) (src : Nat) : Bool :=
  256 ≤ src && s.fld (fIC_SRC_s_FUNC src) != 0 &&
    s.fld (fIC_SRC_s_FUNC src) != s.poolOwner ((src - 256) / 16) + 1

def State.icPending (s : State) (src : Nat) : Bool := bitOf (s.regN (rIC_PEND_w (src / 32))) (src % 32)
def State.icMasked (s : State) (src : Nat) : Bool := bitOf (s.regN (rIC_MASK_w (src / 32))) (src % 32)
def State.icDisarmed (s : State) (ix : Nat) : Bool := bitOf (s.regN (rIC_DISARMED_x (ix / 32))) (ix % 32)

def State.setRegBit (s : State) (off i : Nat) (b : Bool) : State := s.setRegN off (putBit (s.regN off) i b)

/-- Does a source assert its vector (R352)? -/
def State.icAsserting (s : State) (src : Nat) : Bool :=
  s.icSource src && s.icPending src && !s.icMasked src && !s.icStray src

/-- The sources of a group. -/
def groupSources (g : Nat) : List Nat := (List.range 16).map (16 * g + ·)

/-- The index of the MSI-X function of a vector. -/
def icFunction (ix : Nat) : Nat := if ix < 256 then 0 else (ix - 256) / 16 + 1

/-- Is the message of a vector held back by MSI-X masks or enables (R356)? -/
def State.msixHeld (s : State) (ix : Nat) : Bool :=
  s.ic.entryMask.getLsbD ix || s.ic.funcMask.getLsbD (icFunction ix) || !s.ic.msixEnable.getLsbD (icFunction ix)

/-- Sends the message of a vector: MSIX_MESSAGE (R352, R355, R356). -/
def State.icSend (s : State) (g ix : Nat) : State :=
  let s := s.incWrap fIC_COUNT_MSGS
  let s := if s.msixHeld ix then { s with ic := { s.ic with pba := s.ic.pba ||| BitVec.twoPow 320 ix } }
    else s.emit (.msix ix)
  if ix < 256 then s.setRegBit (rIC_DISARMED_x (ix / 32)) (ix % 32) true
  else
    (groupSources g).foldl (fun t src =>
      if t.icAsserting src && t.icVector src == ix then t.setRegBit (rIC_PEND_w (src / 32)) (src % 32) false else t) s

/-- The vectors of a group that are asserted and armed, in ascending order. -/
def State.icSendable (s : State) (g : Nat) : List Nat :=
  (((groupSources g).filter s.icAsserting).map s.icVector).foldl
    (fun acc ix => if ix ∈ acc || s.icDisarmed ix then acc else acc.insertIdx (acc.countP (· < ix)) ix) []

/-- Sends every sendable vector of a group and starts its hold-off (R352, R353). -/
def State.icService (s : State) (g : Nat) : State :=
  if s.flag fIC_STATUS_ENABLED && !s.flag fIC_GATE_GATE && !s.ic.holdOff.getLsbD g then
    match s.icSendable g with
    | [] => s
    | ixs =>
      let s := ixs.foldl (fun t ix => t.icSend g ix) s
      if s.fld (fIC_HOLD_g_HOLD g) = 0 then s
      else { s with ic := { s.ic with holdOff := s.ic.holdOff ||| BitVec.twoPow 32 g } }
  else s

/-- Services every group. -/
def State.icServiceAll (s : State) : State := forRange 32 (fun g t => t.icService g) s

/-- A source becomes pending (R350); the IC lives while PD3 is on (R360). -/
def State.icPend (s : State) (src : Nat) : State :=
  if s.icSource src && s.pdOn 3 then
    let s := if s.icStray src && !s.icPending src then s.incSat fIC_COUNT_STRAY else s
    let s := s.setRegBit (rIC_PEND_w (src / 32)) (src % 32) true
    s.icService (src / 16)
  else s

/-- The condition of a LEVEL source (R350): its rise makes the source pending. -/
def State.icLevel (s : State) (src : Nat) (b : Bool) : State :=
  if s.icSource src && s.pdOn 3 then
    let was := bitOf (s.regN (rIC_RAW_w (src / 32))) (src % 32)
    let s := s.setRegBit (rIC_RAW_w (src / 32)) (src % 32) b
    if b && !was then s.icPend src else s
  else s

/-! ### Fen sources and faults -/

/-- Can a Fen source of R262 fire: is its unit present, and its Pool live (R9, R22)? -/
def State.fenSourceLive (s : State) (src : Nat) : Bool :=
  if src < 0x200 then s.poolLive (src / 32)
  else if src < 0x300 then s.poolLive ((src - 0x200) / 16)
  else if src < 0x310 then s.poolLive (src - 0x300)
  else if 0x320 ≤ src && src < 0x323 then s.sedgePowered
  else if 0x36C ≤ src && src < 0x370 then s.poolPresent (4 * (src - 0x36C))
  else true

/-- A unit presents an event to Fen (R261, R262). -/
def State.fire (s : State) (src : Nat) : State :=
  if s.fenSourceLive src then { s with fen := { s.fen with presented := s.fen.presented ++ [src] } } else s

/-- Raises a run-time fault code (R437). -/
def State.raise (s : State) (code : Nat) : State := { s with faultLog := s.faultLog ++ [code] }

/-- Does a set of cores name a core of Pool n? -/
def coresInPool (mask n : Nat) : Bool := bitsOf mask (4 * n + 3) (4 * n) != 0

/-- The RUN takes part in Pool n. -/
def Run.hasPool (r : Run) (n : Nat) : Bool := coresInPool r.coreMask n

/-- Pool n takes part in an active RUN. -/
def State.poolInRun (s : State) (n : Nat) : Bool := s.runs.any (fun r => r.active && r.hasPool n)

/-- Marks the shot of an active RUN of Pool n that contains the tick (R341). -/
def State.markShot (s : State) (n code at_ : Nat) : State :=
  { s with runs := s.runs.map (fun r =>
      if r.active && r.hasPool n then { r with marks := r.marks ++ [(at_, code)] } else r) }

/-- Applies a change to the active RUN that holds Pool n. -/
def State.mapRun (s : State) (n : Nat) (f : Run → Run) : State :=
  { s with runs := s.runs.map (fun r => if r.active && r.hasPool n then f r else r) }

/-- A core of an active RUN has reached FAULTED with a code (R338). -/
def State.runFault (s : State) (core code : Nat) : State :=
  s.mapRun (core / 4) (fun r => if bitOf r.coreMask core && r.fault.isNone then { r with fault := some code } else r)

/-- A command of a core has been committed: T_LAUNCH and T_END of its RUN (R345). -/
def State.runCommit (s : State) (core t : Nat) (trig : Bool) : State :=
  s.mapRun (core / 4) (fun r =>
    if bitOf r.coreMask core then
      { r with
        lastT := some (max t (r.lastT.getD 0))
        launch := if trig then r.launch else some (min t (r.launch.getD t)) }
    else r)

/-- A window of tone k of Pool n has ended (R341, R345). -/
def State.runWindow (s : State) (n k tEnd : Nat) : State :=
  s.mapRun n (fun r => { r with
    lastEnd := some (max tEnd (r.lastEnd.getD 0))
    refs := if r.shotTone = some (32 * n + k) then r.refs ++ [tEnd] else r.refs })

/-- A window's records are lost (R343). -/
def State.runLost (s : State) (n : Nat) : State := s.mapRun n (fun r => { r with lost := r.lost + 1 })

/-- The host source of a Pool fault by its class (R438); the core's own source is set by the core's record. -/
def poolFaultSource (n code : Nat) : Option Nat :=
  match code / 0x100 with
  | 0x02 => some (260 + 16 * n)
  | 0x03 => some (261 + 16 * n)
  | 0x04 => some (262 + 16 * n)
  | 0x06 => some (263 + 16 * n)
  | _ => none

/-- A run-time fault raised in Pool n by a unit and index of R201; `partialAt` is the tick whose shot it marks PARTIAL. -/
def State.poolFault (s : State) (n code unit index : Nat) (partialAt : Option Nat) : State :=
  let s := s.raise code
  let s :=
    if s.fld (fRC_PFR_CODE_CODE n) = 0 then
      let s := s.setFld (fRC_PFR_CODE_CODE n) code
      let s := s.setFld (fRC_PFR_SRC_UNIT n) unit
      let s := s.setFld (fRC_PFR_SRC_INDEX n) index
      s.setReg64 (rRC_PFR_TIME_L n) s.now
    else s
  let s := s.incSat (fRC_PFR_CODE_COUNT n)
  let s := match poolFaultSource n code with
    | some src => s.icPend src
    | none => s
  match partialAt with
  | some t => s.markShot n code t
  | none => s

/-- Takes one activation of a task off Fen, when one waits there. -/
def State.takeAct (s : State) (task : Nat) : State :=
  match s.fen.acts.findIdx? (fun a => a.2 == task) with
  | some i => { s with fen := { s.fen with acts := s.fen.acts.eraseIdx i } }
  | none => s

/-! ### The record of an enable check (R433, R454) -/

/-- Unit indices of R453. -/
def uTM : Nat := 0
def uFEN : Nat := 1
def uDN : Nat := 2
def uSDG : Nat := 3
def uCW : Nat := 4
def uBW : Nat := 5
def uIC : Nat := 6
def uSLU : Nat := 7
def uDPW : Nat := 8
def uSEC : Nat := 9
def uPM : Nat := 10
def uDRV (n : Nat) : Nat := 16 + 4 * n
def uRO (n : Nat) : Nat := 17 + 4 * n
def uFLX (n : Nat) : Nat := 18 + 4 * n
def uSB (n : Nat) : Nat := 19 + 4 * n

/-- Shows a refusal in GLB (R454). -/
def State.showRefusal (s : State) (u reason item : Nat) : State :=
  let s := s.setFlag (fGLB_UNIT_STATUS_u_REFUSED u) true
  let s := s.setFld (fGLB_UNIT_STATUS_u_REASON u) reason
  let s := s.setFld (fGLB_UNIT_STATUS_u_CONFLICT_ID u) item
  s.setRegBit (rGLB_REFUSED_w (u / 32)) (u % 32) true

/-- Reports a refused check in GLB and to the host. -/
def State.reportRefused (s : State) (u reason item : Nat) : State := (s.showRefusal u reason item).icPend 6

/-- Reports an accepted check in GLB. -/
def State.reportAccepted (s : State) (u : Nat) : State :=
  let s := s.setFlag (fGLB_UNIT_STATUS_u_REFUSED u) false
  let s := s.setFld (fGLB_UNIT_STATUS_u_REASON u) 0
  s.setFld (fGLB_UNIT_STATUS_u_CONFLICT_ID u) 0

/-- A failed condition of a check: its reason code and the item it names. -/
abbrev Failure := Nat × Nat

/-- The rank of a reason code in the order of R434. -/
def reasonRank (r : Nat) : Nat :=
  if r = 0x01 then 0 else if r = 0x02 then 1 else if r = 0x03 then 2 else if r = 0x09 then 3
  else if r = 0x04 then 4 else if r = 0x05 then 5 else if r = 0x07 then 6
  else if r = 0x08 then 1000 else if r = 0x06 then 1001 else 7 + r

/-- The failure that a check reports: the first in the order of R434, and among those the lowest-numbered item. -/
def worstFailure : List Failure → Option Failure
  | [] => none
  | f :: fs =>
    match worstFailure fs with
    | none => some f
    | some g =>
      if reasonRank g.1 < reasonRank f.1 || (g.1 == f.1 && g.2 < f.2) then some g else some f

/-- A condition that fails. -/
def failIf (c : Bool) (reason : Nat) (item : Nat := 0) : List Failure := if c then [(reason, item)] else []

/-- A condition that fails for the lowest-numbered of the items below `n`. -/
def failFirst (n : Nat) (bad : Nat → Bool) (reason : Nat) : List Failure :=
  match (List.range n).find? bad with
  | some i => [(reason, i)]
  | none => []

/-! ### The change of mode -/

/-- The mode takes a new code (R410): Fen source MODE, host source 1, and host source 0 in SAFE (R349). -/
def State.setMode (s : State) (m : Nat) : State :=
  let s := s.setFld fPM_STATUS_PREV_MODE s.mode
  let s := s.setFld fPM_STATUS_MODE m
  let s := s.fire 0x390
  let s := s.icPend 1
  s.icLevel 0 (m == modeSafe)

/-! ### The outcome of a command -/

/-- A command that completes. -/
def done (s : State) : Result := .next s

end Sys2Proof.Machine
end

