-- ==== Sys2Proof/Machine/Access.lean ====
section
/-!
DEFINITION. Who may reach which register: requester identity (R321), absent and unpowered units (R7, R450), the modes that
serve BAR0 (R396, R409), and the records of ignored accesses.
-/
namespace Sys2Proof.Machine

/-- The path code of GLB_ACCESS_ERR.PATH. -/
def Path.idx : Path → Nat
  | .pf0 => 0
  | .vf k => 1 + k.val
  | .spi => 5
  | .causeway => 6

/-- The partition that an access belongs to; none for a manager access (R321). -/
def Path.partition : Path → Option Nat
  | .vf k => some k.val
  | _ => none

/-- Has the access the attribute S (R321, R405)? -/
def Path.secure : Path → Bool
  | .pf0 => true
  | .spi => true
  | _ => false

/-- The requester code of FEN_SEC_ADDR.REQ: 0 manager, 1–4 partition 0–3. -/
def Path.requester (p : Path) : Nat :=
  match Path.partition p with
  | some k => k + 1
  | none => 0

/-- Is the unit of a BAR0 offset present and powered (R7, R450)? -/
def State.unitThere (s : State) (off : Nat) : Bool :=
  if off < 0x1000000 then s.pdOn 2
  else if off < 0x2000000 then s.poolPowered ((off - 0x1000000) / 0x100000)
  else
    match off / 0x100000 with
    | 0x20 => s.sedgePowered
    | 0x21 => off % 0x100000 < 0x8000 || s.pdOn 2
    | 0x22 => if off % 0x100000 < 0x80000 then s.portPowered (off % 0x100000 / 0x10000) else s.pdOn 4
    | 0x23 => s.pdOn 3
    | 0x24 => s.pdOn 3
    | 0x25 => s.pdOn 7
    | 0x26 =>
      if off % 0x100000 < 0x1000 then true
      else s.poolPresent ((off % 0x100000 - 0x1000) / 0x200) && s.pdOn (10 + (off % 0x100000 - 0x1000) / 0x800)
    | 0x27 => s.pdOn 9
    | 0x28 => s.pdOn 1
    | 0x29 => true
    | _ => true

/-- Does the present mode serve the offset (R396, R409)? -/
def State.modeServes (s : State) (off : Nat) : Bool :=
  if modeConfig ≤ s.mode then true
  else if s.mode = modeBoot || s.mode = modeLoad then
    off < 0x1000000 || off / 0x100000 == 0x28 || off / 0x100000 == 0x29
  else false

/-- Is the register at an offset reached at all? -/
def State.reachable (s : State) (off : Nat) : Bool := s.modeServes off && s.unitThere off

/-- May partition k write the register at an offset (R321)? A Fen entry is a channel, a task input, its flags or counter. -/
def State.partitionMay (s : State) (k off : Nat) : Bool :=
  if 0x1000000 ≤ off && off < 0x2000000 then s.poolOwner ((off - 0x1000000) / 0x100000) == k
  else if off / 0x100000 = 0x23 then
    0x1000 + 0x1000 * k ≤ off % 0x100000 && off % 0x100000 < 0x2000 + 0x1000 * k
  else if off / 0x100000 = 0x21 then
    0x100 ≤ off % 0x100000 && off % 0x100000 < 0x4000
  else false

/-- Counts a write ignored under R321. -/
def State.secLog (s : State) (p : Path) (off : Nat) : State :=
  let s := s.incSat fBW_SEC_LOG_COUNT
  let s := s.setFld fBW_SEC_LOG_FUNC (Path.idx p)
  let s := s.setFld fBW_SEC_LOG_OFFSET (off / 2 ^ 20)
  s.icPend 56

/-- Counts an access handled under R450. -/
def State.accessErr (s : State) (p : Path) (off : Nat) : State :=
  let s := s.incSat fGLB_ACCESS_ERR_COUNT
  let s := s.setFld fGLB_ACCESS_ERR_PATH (Path.idx p)
  s.setFld fGLB_ACCESS_ADDR_OFFSET off

/-- Is the write of a path to a register carried out by the register's unit (R7, R321, R396, R404, R450)? -/
def State.mayWrite (s : State) (p : Path) (off : Nat) : Bool :=
  s.reachable off &&
    (match Path.partition p with
      | some k => s.partitionMay k off
      | none => true) &&
    (off / 0x100000 != 0x28 || Path.secure p)

/-- The record of a write that its unit does not carry out. -/
def State.writeIgnored (s : State) (p : Path) (off : Nat) : State :=
  if s.reachable off then
    let s := match Path.partition p with
      | some k => if s.partitionMay k off then s else s.secLog p off
      | none => s
    if off / 0x100000 == 0x28 && !Path.secure p then s.incSat fSEC_STATUS_NS_IGNORED else s
  else s

/-- A write of a path to the register at an offset: what the unit does with it, where the write is carried out. -/
def State.viaBus (s : State) (p : Path) (off : Nat) (unit : State → State) : State :=
  if s.mayWrite p off then unit s else s.writeIgnored p off

end Sys2Proof.Machine
end

