-- ==== Sys2Proof/Machine/Engine.lean ====
section
/-!
DEFINITION. The tone engine that drive tones, read-out transmit tones and flux channels share: the segment table, chains
and passes, jumps, stream buffers, the Peat budget (chapter "Drive synthesis", R66 to R90), and the predistortion chain of a
flux channel (chapter "Fast flux channels", R98 to R112).

An engine of Pool n has a number e: 0–31 the drive tones, 32–63 the read-out transmit tones, 64–71 the flux channels.
A chain stands as the engine's pipeline has reached it, 384 ticks ahead of the ball (R65, R109); times are those at the ball.
-/
namespace Sys2Proof.Machine

/-! ### Records -/

def State.chain (s : State) (n e : Nat) : Chain := SMap.get (fun _ => {}) s.chains (72 * n + e)
def State.setChain (s : State) (n e : Nat) (c : Chain) : State :=
  { s with chains := SMap.set (fun _ => {}) s.chains (72 * n + e) c }
def State.sbuf (s : State) (n b : Nat) : SBuf := SMap.get (fun _ => {}) s.sbufs (16 * n + b)
def State.setSBuf (s : State) (n b : Nat) (v : SBuf) : State :=
  { s with sbufs := SMap.set (fun _ => {}) s.sbufs (16 * n + b) v }
def State.filter (s : State) (n f : Nat) : Filter := SMap.get (fun _ => {}) s.filters (8 * n + f)
def State.setFilter (s : State) (n f : Nat) (v : Filter) : State :=
  { s with filters := SMap.set (fun _ => {}) s.filters (8 * n + f) v }

/-- The 32-bit Peat word at a byte address of Pool n. -/
def State.peatWord (s : State) (n a : Nat) : Word := BitVec.ofNat 32 (s.peat.readLe (2 ^ 22 * n + a % 2 ^ 22) 4)

def isDrive (e : Nat) : Bool := e < 32
def isReadout (e : Nat) : Bool := 32 ≤ e && e < 64
def isFlux (e : Nat) : Bool := 64 ≤ e

/-- The tone or channel index within the unit. -/
def engIndex (e : Nat) : Nat := if e < 64 then e % 32 else e - 64

/-- The allocation of an engine in units of 1/16 tone-equivalent (R88). -/
def State.engAlloc (s : State) (n e : Nat) : Nat :=
  if isDrive e then s.fld (fDRV_Tk_ALLOC_ALLOC n e)
  else if isReadout e then s.fld (fRO_Tk_ALLOC_ALLOC n (e - 32))
  else s.fld (fFLX_Cf_ALLOC_ALLOC n (e - 64))

/-- The sum of the 72 allocations of a Pool (R88). -/
def State.allocSum (s : State) (n : Nat) : Nat := ((List.range 72).map (s.engAlloc n)).sum

/-! ### Faults of an engine -/

/-- The kinds of engine fault: band, segment, cut, cost (R97, R115, R116). -/
inductive EngFault
  | band
  | segment
  | cut
  | cost
  deriving DecidableEq, Repr

/-- The code of an engine fault. -/
def engFaultCode (e : Nat) (k : EngFault) : Nat :=
  let i := match k with
    | .band => 2
    | .segment => 3
    | .cut => 4
    | .cost => 5
  if isDrive e then 0x0200 + i
  else if isReadout e then 0x0310 + i
  else
    match k with
    | .band => 0x0402
    | .segment => 0x0402
    | .cost => 0x0403
    | .cut => 0x0404

/-- The unit code of R201 of an engine. -/
def engUnit (e : Nat) : Nat := if isDrive e then 0 else if isReadout e then 1 else 2

/-- Raises an engine fault that marks the shot containing a tick, and counts it on the tone or channel. -/
def State.engFault (s : State) (n e : Nat) (k : EngFault) (at_ : Nat) : State :=
  let s := s.poolFault n (engFaultCode e k) (engUnit e) (engIndex e) (some at_)
  if isDrive e then s.incSat (fDRV_Tk_COUNT_CMD_FAULT n e)
  else if isFlux e then s.incSat (fFLX_Cf_COUNT_CMD_FAULT n (e - 64))
  else s

/-! ### The segment table -/

/-- Reads the fields of an entry from its words (R76). -/
def segOfWords (w0 w1 w2 w3 w4 w5 : Word) : Seg := {
  rate := w0.toNat
  start := fieldOf w1 16 0
  next := fieldOf w1 31 20
  len := fieldOf w2 19 0
  loop := fieldOf w2 31 20
  mkStart := fieldOf w3 19 0
  mkPat := fieldOf w3 23 20
  mkStop := fieldOf w4 19 0
  valid := w5.getLsbD 0
  last := w5.getLsbD 1
  rampIn := w5.getLsbD 2
  rampOut := w5.getLsbD 3
  stream := w5.getLsbD 4
  sbuf := fieldOf w5 11 8
  type := fieldOf w5 13 12 }

/-- Entry i of Pool n's segment table as committed. -/
def State.segEntry (s : State) (n i : Nat) : Seg :=
  let w (j : Nat) : Word := s.reg (rSEG_e n i + 4 * j)
  segOfWords (w 0) (w 1) (w 2) (w 3) (w 4) (w 5)

/-- Do two ranges of Peat sample addresses overlap? -/
def overlap (a la b lb : Nat) : Bool := a < b + lb && b < a + la

/-- First sample address and samples of a stream buffer's region (R84). -/
def State.sbRegion (s : State) (n b : Nat) : Nat × Nat :=
  (s.fld (fPEAT_SBb_CFG_BASE n b) * 8, s.fld (fPEAT_SBb_CFG_SIZE n b) * 64)

/-- The first enabled stream buffer that a segment's samples overlap. -/
def State.segConflict (s : State) (n : Nat) (g : Seg) : Option Nat :=
  (List.range 16).find? (fun b =>
    (s.sbuf n b).enabled && !g.stream && overlap (g.start * 8) g.len (s.sbRegion n b).1 (s.sbRegion n b).2)

/-- The check of a segment entry (R77). -/
def State.segCheck (s : State) (n : Nat) (g : Seg) : List Failure :=
  failIf (g.rate < 0x10000 || g.len = 0 || (!g.stream && 1048576 < g.start * 8 + g.len) ||
    g.len < g.mkStart || g.len < g.mkStop || 2 ≤ g.type) 0x22 ++
  match s.segConflict n g with
  | some b => [(0x06, 0x2000 + 16 * n + b)]
  | none => []

/-- Commits eight words to an entry (R77): a failing entry is committed with VALID = 0, and the write is refused. -/
def State.segCommit (s : State) (n i : Nat) (words : List Word) : State :=
  let w (j : Nat) : Word := words.getD j 0
  let bad := worstFailure (s.segCheck n (segOfWords (w 0) (w 1) (w 2) (w 3) (w 4) (w 5)))
  let s := forRange 7 (fun j t =>
    t.setReg (rSEG_e n i + 4 * j) (if j = 5 && bad.isSome then w j &&& ~~~1#32 else w j)) s
  match bad with
  | some (r, item) =>
    let s := s.setFlag (fDRV_STATUS_REFUSED n) true
    let s := s.setFld (fDRV_STATUS_REASON n) r
    let s := s.setFld (fDRV_STATUS_CONFLICT_ID n) item
    s.reportRefused (uDRV n) r item
  | none =>
    let s := s.setFlag (fDRV_STATUS_REFUSED n) false
    let s := s.setFld (fDRV_STATUS_REASON n) 0
    let s := s.setFld (fDRV_STATUS_CONFLICT_ID n) 0
    s.reportAccepted (uDRV n)

/-- The staged word of a segment entry. -/
def State.staged (s : State) (n i j : Nat) : Word := SMap.get (fun _ => 0) s.segStage (rSEG_e n i + 4 * j)
def State.setStaged (s : State) (n i j : Nat) (v : Word) : State :=
  { s with segStage := SMap.set (fun _ => 0) s.segStage (rSEG_e n i + 4 * j) v }

/-- A write to word j of a segment entry: words 0–6 are staged, word 7 commits. -/
def State.segWrite (s : State) (n i j : Nat) (v : Word) : State :=
  if j = 7 then s.segCommit n i ((List.range 7).map (s.staged n i)) else s.setStaged n i j v

/-! ### The predistortion chain of a flux channel (R106) -/

/-- The device is in a mode in which the flux chain runs (R106, R111). -/
def State.fluxRuns (s : State) : Bool := s.mode ∈ [modeRun, modeDrain, modeDiag]

/-- The end of a pass at the ball, in 2⁻¹⁶ tick (R67). -/
def Chain.endsAt (c : Chain) : Nat := c.start + c.seg.len * c.seg.rate * 8

/-- The held sample of a flux pass at output sample tick g, times the ramp weights of R101 in 1/256. -/
def State.fluxInput (s : State) (n f g : Nat) : Int :=
  let c := s.chain n (64 + f)
  let t0 := c.start / 65536
  if !c.active || c.zero || g < t0 || c.endsAt ≤ g * 65536 then 0
  else
    let m := c.seg.rate / 65536
    let j := (g - t0) / (8 * m)
    let w : Word := if c.seg.stream then c.samples.getD j 0 else s.peatWord n (c.seg.start * 32 + 4 * j)
    let v := if (g - t0) / (4 * m) % 2 = 0 then signed 16 (fieldOf w 15 0) else signed 16 (fieldOf w 31 16)
    let o := (g - t0) / 4
    let left := (c.endsAt / 65536 - g + 3) / 4
    let wIn : Nat := if c.seg.rampIn && c.passNo = 0 && o < 16 then o + 1 else 16
    let wOut : Nat := if c.seg.rampOut && c.passNo = c.seg.loop && c.seg.loop != 0xFFF && left ≤ 16 then left - 1 else 16
    v * wIn * wOut

/-- A value with its saturation to 24 bits, and whether it saturated. -/
def sat24 (v : Int) : Int × Nat := (satS 24 v, if satS 24 v = v then 0 else 1)

/-- One IIR stage: the coefficients, x[n], x[n−1], y[n−1]; y[n] and the saturations. -/
def iirStage (c0 c1 p x x' y' : Int) : Int × Nat :=
  sat24 (roundShift (c0 * x) 30 + roundShift (c1 * x') 30 + roundShift (p * y') 30)

/-- The four IIR stages on one input: outputs per stage, inputs per stage, and the saturations. -/
def State.iirChain (s : State) (n f : Nat) (r : Filter) : List Nat → Int → List Int × List Int × Nat × Int
  | [], x => ([], [], 0, x)
  | st :: rest, x =>
    let (y, k) :=
      if s.flag (fFLX_Cf_IIRs_CTRL_EN n f st) then
        iirStage (s.fldS (fFLX_Cf_IIRs_C0_C0 n f st)) (s.fldS (fFLX_Cf_IIRs_C1_C1 n f st))
          (s.fldS (fFLX_Cf_IIRs_P_P n f st)) x (r.xs.getD st 0) (r.ys.getD st 0)
      else (x, 0)
    let (xs, ys, k', v) := State.iirChain s n f r rest y
    (x :: xs, y :: ys, k + k', v)

/-- The FIR sum over a delay line, newest first. -/
def State.firSum (s : State) (n f : Nat) : Nat → List Int → Int
  | _, [] => 0
  | j, v :: vs => roundShift (s.fldS (fFLX_Cf_FIR_j_H n f j) * v) 16 + State.firSum s n f (j + 1) vs

/-- Computes one output sample. -/
def State.fluxSample (s : State) (n f : Nat) : State :=
  let r := s.filter n f
  let g := r.upTo
  let x := roundShift (s.fldS (fFLX_Cf_AMP_AMP n f) * s.fluxInput n f g) 20
  let (xs, ys, k1, v) := s.iirChain n f r [0, 1, 2, 3] x
  let line := (v :: r.fir).take 64
  let (w, k2) := sat24 (s.firSum n f 0 line)
  let raw := roundShift (w + s.fldS (fFLX_Cf_OFFSET_OFFSET n f) * 32) 5
  let code := satS 16 raw
  let sats := k1 + k2 + (if code = raw then 0 else 1)
  let s := s.setFilter n f { upTo := g + 4, xs := xs, ys := ys, fir := line.take 63, code := code }
  forRange sats (fun _ t => (t.incSat (fFLX_Cf_SAT_SAT n f)).poolFault n 0x0401 2 f none) s

/-- Every filter state is zero. -/
def Filter.quiet (r : Filter) : Bool := r.xs.all (· == 0) && r.ys.all (· == 0) && r.fir.all (· == 0)

/-- Advances the chain of a flux channel over the output samples before a tick. -/
def State.fluxAdvance (s : State) (n f t : Nat) : State :=
  let r := s.filter n f
  if !s.fluxRuns || !s.flag (fFLX_STATUS_ENABLED n) || t ≤ r.upTo then s
  else if r.quiet && !(s.chain n (64 + f)).active then
    let code := satS 16 (roundShift (s.fldS (fFLX_Cf_OFFSET_OFFSET n f) * 32) 5)
    s.setFilter n f { r with upTo := (t + 3) / 4 * 4, code := code }
  else forRange ((t - r.upTo + 3) / 4) (fun _ u => u.fluxSample n f) s

/-- Brings a flux channel up to a tick before its input changes; other engines have no such state. -/
def State.engSync (s : State) (n e t : Nat) : State := if isFlux e then s.fluxAdvance n (e - 64) t else s

/-- Clears the filter of a flux channel: code 0 from the tick on (R111). -/
def State.fluxClear (s : State) (n f : Nat) : State := s.setFilter n f { upTo := (s.now + 3) / 4 * 4 }

/-! ### Chains and passes -/

/-- Gives back the stream buffer that an engine plays. -/
def State.releaseBuf (s : State) (n e : Nat) : State :=
  forRange 16 (fun b t => if (t.sbuf n b).user = some e then t.setSBuf n b { t.sbuf n b with user := none } else t) s

/-- Ends the chain of an engine; a request still pending is discarded (R82). -/
def State.chainEnd (s : State) (n e : Nat) : State :=
  let c := s.chain n e
  if c.active then
    let s := if c.req.isSome && isDrive e then s.incSat (fDRV_Tk_COUNT_JUMP_IDLE n e) else s
    let s := s.releaseBuf n e
    s.setChain n e { c with
      active := false, req := none, jump := none, samples := [], fade := none, rampDown := none, committed := false }
  else s

/-- Takes the next sample of a stream pass (R86). -/
def State.takeSample (s : State) (n e : Nat) : State :=
  let c := s.chain n e
  if !c.active || !c.seg.stream || c.seg.len ≤ c.taken then s
  else
    let b := c.seg.sbuf
    let rd := s.reg64 (rPEAT_SBb_RDPOS_L n b)
    let wr := s.reg64 (rPEAT_SBb_WRPOS_L n b)
    let (base, size) := s.sbRegion n b
    let placed := (c.start + c.taken * c.seg.rate * 8) / 65536
    let word : Word := if rd < wr then s.peatWord n (4 * (base + rd % size)) else 0
    let s := s.setReg64 (rPEAT_SBb_RDPOS_L n b) (rd + 1)
    let s := s.setChain n e { c with
      taken := c.taken + 1, samples := if isFlux e then c.samples ++ [word] else c.samples }
    if rd < wr then s
    else
      let s := s.incSat (fPEAT_SBb_COUNT_UNDERRUN n b)
      let s := s.poolFault n 0x0601 4 b (some placed)
      let s := if isFlux e then s.incSat (fFLX_Cf_COUNT_UNDERRUN n (e - 64)) else s
      if s.flag (fPEAT_SBb_CTRL_POLICY n b) then
        let s := s.engSync n e placed
        let s := s.chainEnd n e
        s.setChain n e { s.chain n e with muted := true }
      else s

/-- Takes stream samples until the pass has taken a number of them. -/
def State.takeUpTo (s : State) (n e k : Nat) : State :=
  let c := s.chain n e
  if c.active && c.seg.stream then forRange (min k c.seg.len - c.taken) (fun _ t => t.takeSample n e) s else s

/-- The samples of a pass placed before a tick. -/
def Chain.placedBefore (c : Chain) (t : Nat) : Nat :=
  if c.seg.rate = 0 then 0 else (t * 65536 - c.start + c.seg.rate * 8 - 1) / (c.seg.rate * 8)

/-- Does an engine reject an entry (R79, R100)? -/
def segUnfit (e : Nat) (g : Seg) : Bool :=
  !g.valid || (if isFlux e then g.type != 1 || g.rate % 65536 != 0 else g.type != 0)

/-- Is the stream buffer of an entry disabled, or in use by another engine (R84, R87)? -/
def State.streamUnfit (s : State) (n e : Nat) (g : Seg) : Bool :=
  g.stream && (!(s.sbuf n g.sbuf).enabled ||
    ((s.sbuf n g.sbuf).user.isSome && (s.sbuf n g.sbuf).user != some e))

/-- Begins a pass of an entry at a time in 2⁻¹⁶ tick (R77 to R79, R84, R87, R89, R103). -/
def State.passBegin (s : State) (n e entry start passNo : Nat) : State :=
  let g := s.segEntry n entry
  let c := s.chain n e
  if segUnfit e g || s.streamUnfit n e g then
    (s.chainEnd n e).engFault n e .segment (start / 65536)
  else
    let s := s.releaseBuf n e
    let s := if g.stream then s.setSBuf n g.sbuf { s.sbuf n g.sbuf with user := some e } else s
    let zero : Bool := s.engAlloc n e * g.rate < 2 ^ 20
    let s := s.setChain n e { c with
      active := true, entry := entry, seg := g, start := start, passNo := passNo, zero := zero, taken := 0,
      samples := [], jump := none, committed := false }
    if zero then s.engFault n e .cost (start / 65536) else s

/-- PASS_END: the first applicable action of R78, with the untimed request as R82 places it. -/
def State.passEnd (s : State) (n e : Nat) : State :=
  let s := s.takeUpTo n e (s.chain n e).seg.len
  let c := s.chain n e
  if !c.active then s
  else
    let t := c.endsAt
    let s := s.engSync n e (t / 65536)
    let timed : Option Nat := match c.jump with
      | some (tgt, at_) => if at_ * 65536 ≤ t then some tgt else none
      | none => none
    let onward (u : State) : State :=
      if c.passNo < c.seg.loop || c.seg.loop = 0xFFF then u.passBegin n e c.entry t (c.passNo + 1)
      else if c.seg.last then u.chainEnd n e
      else u.passBegin n e c.seg.next t 0
    match timed with
    | some tgt =>
      let s := if c.req.isSome && isDrive e then s.incSat (fDRV_Tk_COUNT_JUMP_REPLACED n e) else s
      (s.setChain n e { c with req := none }).passBegin n e tgt t 0
    | none =>
      let again (u : State) : State :=
        let u' := onward u
        if (u'.chain n e).active then u'.setChain n e { u'.chain n e with jump := c.jump } else u'
      match c.req with
      | none => again s
      | some r =>
        let inTime : Bool := match r.phase with
          | .armed => true
          | .late => false
          | .fresh => (r.arrival + 448) * 65536 ≤ t
        if inTime then (s.setChain n e { c with req := none }).passBegin n e r.target t 0
        else
          let s := if r.phase = .fresh then s.incSat (fDRV_Tk_COUNT_JUMP_LATE n e) else s
          again (s.setChain n e { c with req := some { r with phase := .armed } })

/-- JUMP_COMMIT_POINT: the pending request is evaluated for this pass (R82). -/
def State.jumpCommitPoint (s : State) (n e : Nat) : State :=
  let c := s.chain n e
  if !c.active || c.committed then s
  else s.setChain n e { c with
    committed := true, req := c.req.map (fun r => if r.phase = .fresh then { r with phase := .armed } else r) }

/-- The pass of a chain has not begun at the ball, and it is not the chain's first: the pass before it is still there. -/
def Chain.ahead (c : Chain) (now : Nat) : Bool := now * 65536 < c.start && c.start != c.began * 65536

/-- The chain that a PLAY has committed has not begun at the ball (R74). -/
def Chain.unbegun (c : Chain) (now : Nat) : Bool := now < c.began && c.lastCut != some c.began

/-- An untimed jump request reaches a drive tone (R82). After the commit point of the pass at the ball it is late; where the
pipeline has gone on to the next pass, it takes effect at that pass's end. -/
def State.jumpRequest (s : State) (n k target : Nat) : State :=
  let c := s.chain n k
  if !c.active || c.unbegun s.now then s.incSat (fDRV_Tk_COUNT_JUMP_IDLE n k)
  else
    let s := if c.req.isSome then s.incSat (fDRV_Tk_COUNT_JUMP_REPLACED n k) else s
    let ahead := c.ahead s.now
    let s := if c.committed || ahead then s.incSat (fDRV_Tk_COUNT_JUMP_LATE n k) else s
    s.setChain n k { c with
      req := some { target := target, arrival := s.now, phase :=
        if ahead then .armed else if c.committed then .late else .fresh } }

/-! ### Timed commands on an engine (R74, R104) -/

/-- The first tick at or after t on a grid. -/
def gridUp (g t : Nat) : Nat := (t + g - 1) / g * g

/-- PLAY: a chain starts at T, replacing any chain in progress. -/
def State.engPlay (s : State) (n e t entry : Nat) : State :=
  if (s.chain n e).muted then s
  else
    let ts := if isFlux e then gridUp 4 t else t
    let s := s.takeUpTo n e ((s.chain n e).placedBefore ts)
    let s := s.engSync n e ts
    if (s.chain n e).muted then s
    else
      let s := s.chainEnd n e
      (s.setChain n e { s.chain n e with began := ts }).passBegin n e entry (ts * 65536) 0

/-- JUMP, BOUNDARY or CUT (R80, R81, R104). -/
def State.engJump (s : State) (n e t entry : Nat) (cut : Bool) : State :=
  if cut && isFlux e then s.engFault n e .cut t
  else if (s.chain n e).muted then s
  else if !cut then
    if (s.chain n e).active then s.setChain n e { s.chain n e with jump := some (entry, t) } else s
  else
    let soon : Bool := match (s.chain n e).lastCut with
      | some t' => t < t' + 128
      | none => false
    if soon then s.engFault n e .cut t
    else
      let c := s.chain n e
      let lastGrid := gridUp 8 t + 15 * 8
      let s := s.takeUpTo n e (c.placedBefore (lastGrid + 1))
      if (s.chain n e).muted then s
      else
        let from_ := if (s.chain n e).active then some c.entry else none
        let s := s.setChain n e { s.chain n e with lastCut := some t, jump := none, began := t, rampDown := none }
        let s := s.passBegin n e entry (t * 65536) 0
        if (s.chain n e).active then s.setChain n e { s.chain n e with fade := some (t, from_) } else s

/-- AMP: the amplitude register of the engine takes a value. -/
def State.engAmp (s : State) (n e t v : Nat) : State :=
  if isDrive e then s.setFld (fDRV_Tk_AMP_AMP n e) v
  else if isReadout e then s.setFld (fRO_Tk_AMP_AMP n (e - 32)) v
  else (s.engSync n e (gridUp 4 t)).setFld (fFLX_Cf_AMP_AMP n (e - 64)) v

/-- The offset of the FRAME register of a drive or read-out tone. -/
def frameReg (n e : Nat) : Nat := if isDrive e then rDRV_Tk_FRAME n e else rRO_Tk_FRAME n (e - 32)

/-- FRAME and FRAMEA (R70). -/
def State.engFrame (s : State) (n e : Nat) (v : Word) (add : Bool) : State :=
  s.setReg (frameReg n e) (if add then s.reg (frameReg n e) + v else v)

/-! ### Frequencies and their limits (R71) -/

/-- A 48-bit value held in a register and the next. -/
def State.reg48 (s : State) (offL : Nat) : Nat := s.regN offL + 2 ^ 32 * (s.regN (offL + 4) % 2 ^ 16)
def State.setReg48 (s : State) (offL v : Nat) : State := (s.setRegN offL v).setRegN (offL + 4) (v / 2 ^ 32 % 2 ^ 16)

/-- The offset of the FTW register of a drive or read-out tone. -/
def ftwReg (n e : Nat) : Nat := if isDrive e then rDRV_Tk_FTW_L n e else rRO_Tk_FTW_L n (e - 32)
def poffReg (n e : Nat) : Nat := if isDrive e then rDRV_Tk_POFF_L n e else rRO_Tk_POFF_L n (e - 32)

/-- Carriers by number: 0–3 the drive DACs, 4–5 the read-out lines. -/
def cftwReg (n c : Nat) : Nat := if c < 4 then rDRV_DACd_CFTW_L n c else rRO_Ll_CFTW_L n (c - 4)
def cpoffReg (n c : Nat) : Nat := if c < 4 then rDRV_DACd_CPOFF_L n c else rRO_Ll_CPOFF_L n (c - 4)

/-- The carrier that serves a tone. -/
def carrierOf (e : Nat) : Nat := if isDrive e then e / 8 else 4 + (e - 32) / 16

/-- The tones that a carrier serves. -/
def tonesOf (c : Nat) : List Nat := if c < 4 then (List.range 8).map (8 * c + ·) else (List.range 16).map (32 + 16 * (c - 4) + ·)

/-- Is a tone in use (R71, R116)? -/
def State.toneInUse (s : State) (n e : Nat) : Bool := isReadout e || 0 < s.engAlloc n e

/-- Is a carrier in use? -/
def State.carrierInUse (s : State) (n c : Nat) : Bool := (tonesOf c).any (s.toneInUse n)

/-- The tone offset limit: |FTW| ≤ 14,073,748,835,532. -/
def offsetInBand (ftw : Nat) : Bool := (signed 48 ftw).natAbs ≤ 14073748835532

/-- The carrier limit: 0.5 GHz to 7.5 GHz. -/
def carrierInBand (cftw : Nat) : Bool := 8796093022208 ≤ cftw && cftw ≤ 131941395333120

/-- The limit of carrier plus offset: 0.1 GHz to 7.9 GHz. -/
def sumInBand (cftw ftw : Nat) : Bool :=
  (2 : Int) ^ 48 ≤ 160 * ((cftw : Int) + signed 48 ftw) && 160 * ((cftw : Int) + signed 48 ftw) ≤ 79 * (2 : Int) ^ 48

/-- Do the words of a tone keep the limits? -/
def State.toneInBand (s : State) (n e ftw : Nat) : Bool :=
  offsetInBand ftw && sumInBand (s.reg48 (cftwReg n (carrierOf e))) ftw

/-- The failing tones and carriers of a set at enable (REASON 0x21). -/
def State.bandFails (s : State) (n : Nat) (tones carriers : List Nat) : Bool :=
  tones.any (fun e => s.toneInUse n e && !s.toneInBand n e (s.reg48 (ftwReg n e))) ||
  carriers.any (fun c => s.carrierInUse n c && !carrierInBand (s.reg48 (cftwReg n c)))

/-- FREQ and FREQP on a tone (R71): out of band, the old frequency stays. -/
def State.toneFreq (s : State) (n e t ftw : Nat) (poff : Option Nat) : State :=
  if s.toneInUse n e && !s.toneInBand n e ftw then s.engFault n e .band t
  else
    let s := s.setReg48 (ftwReg n e) ftw
    match poff with
    | some v => s.setReg48 (poffReg n e) v
    | none => s

/-- FREQ and FREQP on a carrier (R71). -/
def State.carrierFreq (s : State) (n c t ftw : Nat) (poff : Option Nat) : State :=
  let bad : Bool := s.carrierInUse n c && (!carrierInBand ftw ||
    (tonesOf c).any (fun e => s.toneInUse n e && !sumInBand ftw (s.reg48 (ftwReg n e))))
  if bad then
    if c < 4 then s.poolFault n 0x0202 0 c (some t) else s.poolFault n 0x0312 1 (28 + c) (some t)
  else
    let s := s.setReg48 (cftwReg n c) ftw
    match poff with
    | some v => s.setReg48 (cpoffReg n c) v
    | none => s

/-- The phase of a tone's oscillator at a tick, in 2⁻⁴⁸ cycle (R56, R70). -/
def State.tonePhase (s : State) (n e tick : Nat) : Nat :=
  (s.reg48 (ftwReg n e) * tick + s.reg48 (poffReg n e) + s.regN (frameReg n e) * 2 ^ 16) % 2 ^ 48

/-- The phase of a carrier at a tick, in 2⁻⁴⁸ cycle (R56, R73). -/
def State.carrierPhase (s : State) (n c tick : Nat) : Nat :=
  (s.reg48 (cftwReg n c) * tick + s.reg48 (cpoffReg n c)) % 2 ^ 48

/-! ### Stream buffers (R84, R87) -/

/-- The check of R87. -/
def State.sbCheck (s : State) (n b : Nat) : List Failure :=
  let (base, size) := s.sbRegion n b
  failIf (!s.locked (9 + n)) 0x03 ++
  failIf (size = 0) 0x07 ++
  failIf (16384 * 64 < size || 1048576 < base + size) 0x25 ++
  failIf
    ((List.range 16).any (fun b' => b' != b && (s.sbuf n b').enabled &&
        overlap base size (s.sbRegion n b').1 (s.sbRegion n b').2) ||
      (List.range 4096).any (fun i =>
        let g := s.segEntry n i
        g.valid && !g.stream && overlap base size (g.start * 8) g.len))
    0x06 (0x2000 + 16 * n + b)

def State.sbRefuse (s : State) (n b r item : Nat) : State :=
  let s := s.setFlag (fPEAT_SBb_CTRL_REFUSED n b) true
  let s := s.setFld (fPEAT_SBb_CTRL_REASON n b) r
  s.reportRefused (uSB n) r item

/-- EN set: the check, and the positions start at 0. -/
def State.sbEnable (s : State) (n b : Nat) : State :=
  if (s.sbuf n b).enabled then s
  else
    match worstFailure (s.sbCheck n b) with
    | some (r, item) => s.sbRefuse n b r item
    | none =>
      let s := s.setFlag (fPEAT_SBb_CTRL_REFUSED n b) false
      let s := s.setFld (fPEAT_SBb_CTRL_REASON n b) 0
      let s := s.reportAccepted (uSB n)
      let s := s.setSBuf n b { s.sbuf n b with enabled := true }
      (s.setReg64 (rPEAT_SBb_RDPOS_L n b) 0).setReg64 (rPEAT_SBb_WRPOS_L n b) 0

/-- EN cleared: a chain that plays the buffer ends at its first unread sample (R87). -/
def State.sbDisable (s : State) (n b : Nat) : State :=
  let user := (s.sbuf n b).user
  let s := s.setSBuf n b { s.sbuf n b with enabled := false }
  match user with
  | some e =>
    let c := s.chain n e
    let s := s.engSync n e ((c.start + c.taken * c.seg.rate * 8) / 65536)
    (s.chainEnd n e).engFault n e .segment s.now
  | none => s

/-- A write of POOLn_PEAT_SBb_CTRL. -/
def State.sbCtrlWrite (s : State) (n b : Nat) (v : Word) : State :=
  let s := if (s.sbuf n b).enabled then s else s.setFld (fPEAT_SBb_CTRL_POLICY n b) (fieldOf v 1 1)
  let s := s.setFlag (fPEAT_SBb_CTRL_EN n b) (v.getLsbD 0)
  if v.getLsbD 0 then s.sbEnable n b else s.sbDisable n b

/-- A write of POOLn_PEAT_SBb_CFG: ignored and refused while the buffer is enabled. -/
def State.sbCfgWrite (s : State) (n b : Nat) (v : Word) : State :=
  if (s.sbuf n b).enabled then s.sbRefuse n b 0x24 0 else s.setReg (rPEAT_SBb_CFG n b) v

/-! ### All the engines of a unit -/

/-- Ends every chain of a range of engines. -/
def State.endChains (s : State) (n lo hi : Nat) : State :=
  forRange (hi - lo) (fun i t => t.chainEnd n (lo + i)) s

/-- Removes the commands of some targets from the Pool's armed buffers. -/
def State.disarm (s : State) (n : Nat) (tgt : Nat → Bool) : State :=
  { s with armed := SMap.drop (fun k => k / 128 == n && tgt (k % 128)) s.armed }

/-- The record of an accepted or refused check of a Pool unit, in the unit's STATUS fields and in GLB. -/
def State.unitOutcome (s : State) (u : Nat) (enabled refused reason : Fld) (item : Option Fld)
    (fails : List Failure) : State :=
  match worstFailure fails with
  | some (r, i) =>
    let s := s.setFlag refused true
    let s := s.setFld reason r
    let s := match item with
      | some f => s.setFld f i
      | none => s
    s.reportRefused u r i
  | none =>
    let s := s.setFlag refused false
    let s := s.setFld reason 0
    let s := match item with
      | some f => s.setFld f 0
      | none => s
    (s.reportAccepted u).setFlag enabled true

/-- The common conditions of a Pool unit's check. -/
def State.poolUnitCheck (s : State) (n : Nat) : List Failure :=
  failIf (!s.poolPresent n) 0x01 ++ failIf (!s.modeOpen) 0x02 ++ failIf (!s.locked (9 + n)) 0x03

/-- Is clearing a Pool unit's ENABLE ignored: RUN, DRAIN, or a RUN active on the Pool? -/
def State.poolHeld (s : State) (n : Nat) : Bool := s.mode = modeRun || s.mode = modeDrain || s.poolInRun n

end Sys2Proof.Machine
end

