-- ==== Sys2Proof/Machine/Link.lean ====
section
/-!
DEFINITION. What a Causeway port sends: routing (R307, R308), class 0 traffic with its policer (R295 to R298), retry and
credits of classes 1–3 (R303 to R305).
-/
namespace Sys2Proof.Machine

def State.cwPort (s : State) (p : Nat) : CwPort := SMap.get (fun _ => {}) s.cw p
def State.setCwPort (s : State) (p : Nat) (v : CwPort) : State :=
  { s with cw := SMap.set (fun _ => {}) s.cw p v }

/-- Port p is trained: its STATE is ACTIVE (R286). -/
def State.portActive (s : State) (p : Nat) : Bool :=
  s.portPowered p && s.fld (fCW_Pp_STATUS_STATE p) == 5

/-- The host source of a Causeway fault (R349). -/
def cwSource (code : Nat) : Option Nat :=
  if code = 0x0902 then some 40
  else if code = 0x0903 || code = 0x0904 || code = 0x0906 then some 41
  else if code = 0x0907 then some 42
  else if code = 0x0908 then some 43
  else none

/-- Raises a Causeway fault (R317). -/
def State.cwFault (s : State) (code : Nat) : State :=
  match cwSource code with
  | some src => (s.raise code).icPend src
  | none => s.raise code

/-! ### Routing -/

def State.nodeId (s : State) : Nat := s.fld fCW_NODE_ID

/-- The bits of the dimensions below d. -/
def State.dimShift (s : State) (d : Nat) : Nat := ((List.range d).map (fun i => s.fld (fCW_DIM_d_BITS i))).sum

/-- The coordinate of a node in dimension d (R307). -/
def State.coord (s : State) (node d : Nat) : Nat := node / 2 ^ s.dimShift d % 2 ^ s.fld (fCW_DIM_d_BITS d)

/-- What the routing of R308 answers. -/
inductive Route
  | here
  | port (p : Nat) (dim : Option Nat) (plus : Bool)
  | drop
  deriving DecidableEq, Repr

/-- The dimensions of R308, in ascending order; a destination equal in every dimension is not sent. -/
def State.routeDims (s : State) (dest : Nat) : List Nat → Route
  | [] => .drop
  | d :: ds =>
    let h := s.coord s.nodeId d
    let t := s.coord dest d
    let size := s.fld (fCW_DIM_d_SIZE d)
    if size ≤ t then .drop
    else if t = h then s.routeDims dest ds
    else
      let plus : Bool := if s.flag (fCW_DIM_d_WRAP d) then (t + size - h) % size ≤ size / 2 else h < t
      .port (if plus then s.fld (fCW_DIM_d_PLUS_PORT d) else s.fld (fCW_DIM_d_MINUS_PORT d)) (some d) plus

/-- The route of a destination (R308). -/
def State.route (s : State) (dest : Nat) : Route :=
  if dest = s.nodeId then .here
  else
    let hit (x : Nat) : Bool :=
      s.flag (fCW_EXC_x_ACT_EN x) &&
        dest &&& s.fld (fCW_EXC_x_MATCH_MASK x) == s.fld (fCW_EXC_x_MATCH_MATCH x) &&& s.fld (fCW_EXC_x_MATCH_MASK x)
    match (List.range 8).find? hit with
    | some x => .port (s.fld (fCW_EXC_x_ACT_PORT x)) none false
    | none => s.routeDims dest [0, 1, 2]

/-- Does the hop cross the wrap link of its dimension (R309)? -/
def State.wrapHop (s : State) (d : Nat) (plus : Bool) : Bool :=
  if plus then s.coord s.nodeId d + 1 == s.fld (fCW_DIM_d_SIZE d) else s.coord s.nodeId d == 0

/-! ### Class 0 -/

/-- Takes a policer token when one is there. -/
def State.takeToken (s : State) (p : Nat) : Option State :=
  let k := s.fld (fCW_Pp_POL_TOKENS p)
  if k = 0 then none else some (s.setFld (fCW_Pp_POL_TOKENS p) (k - 1))

/-- A class 0 flit waits for a token: counted, and a fault for the first wait in each 1 ms (R296). -/
def State.polWait (s : State) (p : Nat) : State :=
  let s := s.incSat (fCW_Pp_COUNT_C_POL_WAIT p)
  let r := s.cwPort p
  let again : Bool := match r.lastPol with
    | some t => s.now < t + 16000000
    | none => false
  if again then s else (s.setCwPort p { r with lastPol := some s.now }).cwFault 0x0907

/-- Drops a class 0 flit or item at a port. -/
def State.c0Drop (s : State) (p : Nat) : State := (s.incSat (fCW_Pp_COUNT_A_C0_DROP p)).cwFault 0x0906

def C0Entry.isDecision : C0Entry → Bool
  | .item _ => true
  | .transit f => f.kind == 1
  | .own f => f.kind == 1

/-- The next end-to-end sequence number toward a node. -/
def State.nextEseq (s : State) (dest : Nat) : Nat × State :=
  let k := SMap.get (fun _ => 0) s.esqTx dest
  (k, { s with esqTx := SMap.set (fun _ => 0) s.esqTx dest ((k + 1) % 1024) })

/-- The items of a queue that go into one DECISION flit: the first ones for the destination, up to ten; and the rest. -/
def packItems (dest : Nat) : Nat → List C0Entry → List DecItem × List C0Entry
  | _, [] => ([], [])
  | room, e :: es =>
    match e with
    | .item i =>
      if i.dest = dest && 0 < room then
        let r := packItems dest (room - 1) es
        (i :: r.1, r.2)
      else
        let r := packItems dest room es
        (r.1, e :: r.2)
    | _ =>
      let r := packItems dest room es
      (r.1, e :: r.2)

/-- Takes out the first entry that satisfies a condition. -/
def takeFirst (f : C0Entry → Bool) : List C0Entry → Option (C0Entry × List C0Entry)
  | [] => none
  | e :: es => if f e then some (e, es) else (takeFirst f es).map (fun r => (r.1, e :: r.2))

/-- Sends the class 0 entry that goes first among those that satisfy a condition, when a token allows. -/
def State.sendC0 (s : State) (p : Nat) (which : C0Entry → Bool) : State :=
  let r := s.cwPort p
  match takeFirst which r.c0 with
  | none => s
  | some (e, rest) =>
    match s.takeToken p with
    | none => if r.c0Waited then s else (s.setCwPort p { r with c0Waited := true }).polWait p
    | some s =>
      match e with
      | .item i =>
        let packed := packItems i.dest 9 rest
        let s := s.setCwPort p { r with c0 := packed.2, c0Waited := false }
        let (eseq, s) := s.nextEseq i.dest
        s.emit (.flit p (Flit.bits {
          cl := 0, kind := 1, dest := i.dest, src := s.nodeId, seq := eseq, loc := false, eop := true, vc := 0,
          payload := decisionPayload (i :: packed.1) }))
      | .transit f => (s.setCwPort p { r with c0 := rest, c0Waited := false }).emit (.flit p f.bits)
      | .own f => (s.setCwPort p { r with c0 := rest, c0Waited := false }).emit (.flit p f.bits)

/-- DECISION_FLIT_SEND: the oldest DECISION flit or item of a port. -/
def State.sendDecision (s : State) (p : Nat) : State :=
  if s.portActive p then s.sendC0 p C0Entry.isDecision else s

/-- Sends what class 0 traffic besides DECISION flits waits at a port (R295): SEDGE0 flits, then a TIME flit. -/
def State.pumpC0 (s : State) (p : Nat) : State :=
  let r := s.cwPort p
  if r.c0.any C0Entry.isDecision then s
  else
    let s := forRange r.c0.length (fun _ t => t.sendC0 p (fun _ => true)) s
    let r := s.cwPort p
    let s := match r.timeWait with
      | some b =>
        if r.c0 != [] then s
        else
          match s.takeToken p with
          | some t => (t.setCwPort p { r with timeWait := none }).emit (.flit p b)
          | none => s
      | none => s
    let r := s.cwPort p
    if r.alignDue && (r.c0 == [] || s.fld (fCW_Pp_POL_TOKENS p) == 0) then
      (s.setCwPort p { r with alignDue := false }).emit (.align p)
    else s

/-- Puts a class 0 entry into a port's queue, or drops it (R298, R308); routing works while Causeway is enabled. -/
def State.queueC0 (s : State) (p : Nat) (e : C0Entry) : State :=
  let r := s.cwPort p
  let full : Bool := match e with
    | .item _ => 32 ≤ r.c0.countP (fun x => match x with | .item _ => true | _ => false)
    | .transit _ => 16 ≤ r.c0.countP (fun x => match x with | .transit _ => true | _ => false)
    | .own _ => false
  if !s.portActive p || !s.flag fCW_STATUS_ENABLED || full then s.c0Drop p
  else (s.setCwPort p { r with c0 := r.c0 ++ [e] }).pumpC0 p

/-- Sends a time flit, which takes a token or waits for one. -/
def State.sendTimeFlit (s : State) (p : Nat) (b : BitVec 256) : State :=
  match s.takeToken p with
  | some t => t.emit (.flit p b)
  | none => (s.setCwPort p { s.cwPort p with timeWait := some b }).polWait p

/-- Originates a SEDGE0 flit to a node (R300, R301). -/
def State.sendSedge0 (s : State) (dest : Nat) (payload : BitVec 192) : State :=
  let (eseq, s) := s.nextEseq dest
  match s.route dest with
  | .port p _ _ => s.queueC0 p (.own {
      cl := 0, kind := 2, dest := dest, src := s.nodeId, seq := eseq, loc := false, eop := true, vc := 0,
      payload := payload })
  | _ => s.cwFault 0x0906

/-! ### Classes 1–3 -/

/-- The credit index of a class and buffer set (R303). -/
def credIx (cl vc : Nat) : Nat := 2 * (cl - 1) + vc

def bump (l : List Nat) (i : Nat) : List Nat := l.set i ((l.getD i 0 + 1) % 256)

/-- May a flit of classes 1–3 be sent now: fewer than 32 unreturned, fewer than 256 unacknowledged (R304, R305)? -/
def CwPort.maySend (r : CwPort) (f : Flit) : Bool :=
  r.unacked.length < 256 &&
    (r.used.getD (credIx f.cl f.vc) 0 + 256 - r.credRx.getD (credIx f.cl f.vc) 0) % 256 < 32

/-- The flit of classes 1–3 that goes next: the packet in progress, else the lowest class whose first flit has credit. -/
def CwPort.nextFlit (r : CwPort) : Option Flit :=
  match r.packet with
  | some c => (r.queue.find? (fun f => f.cl == c)).filter r.maySend
  | none => ([1, 2, 3].filterMap (fun c => r.queue.find? (fun f => f.cl == c))).find? r.maySend

/-- Sends one flit of classes 1–3 when one may go. -/
def State.sendOne (s : State) (p : Nat) : State :=
  let r := s.cwPort p
  match r.nextFlit with
  | none => s
  | some f =>
    let sent := { f with seq := r.txSeq }
    (s.setCwPort p { r with
      queue := r.queue.erase f, packet := if f.eop then none else some f.cl, unacked := r.unacked ++ [sent],
      txSeq := (r.txSeq + 1) % 1024, used := bump r.used (credIx f.cl f.vc) }).emit (.flit p sent.bits)

/-- Sends the flits of classes 1–3 that may go. -/
def State.pump (s : State) (p : Nat) : State :=
  if s.portActive p then forRange (s.cwPort p).queue.length (fun _ t => t.sendOne p) s else s

/-- A flit of classes 1–3 that cannot be sent is lost (R308). -/
def State.flitLost (s : State) (p : Nat) : State := s.incSat (fCW_Pp_COUNT_C_LOST p)

/-- Queues a flit of classes 1–3 at a port. -/
def State.queueFlit (s : State) (p : Nat) (f : Flit) : State :=
  if s.portActive p then (s.setCwPort p { s.cwPort p with queue := (s.cwPort p).queue ++ [f] }).pump p
  else s.flitLost p

/-- Forwards or originates a routed flit of classes 1–3 (R308, R309). -/
def State.sendRouted (s : State) (f : Flit) (fromDim : Option Nat) : State :=
  match s.route f.dest with
  | .port p dim plus =>
    let vc : Nat := match dim with
      | some d => if s.wrapHop d plus then 1 else if fromDim = some d then f.vc else 0
      | none => f.vc
    if s.flag fCW_STATUS_ENABLED then s.queueFlit p { f with vc := vc } else s.flitLost p
  | _ => s

/-- Originates a one-flit packet to a node. -/
def State.sendPacket (s : State) (cl kind dest : Nat) (payload : BitVec 192) : State :=
  s.sendRouted {
    cl := cl, kind := kind, dest := dest, src := s.nodeId, seq := 0, loc := false, eop := true, vc := 0,
    payload := payload } none

/-- Discards the retry state of a port (R305): what is not acknowledged is lost. -/
def State.retryReset (s : State) (p : Nat) : State :=
  let r := s.cwPort p
  let lost := r.unacked.length
  let s := s.setCwPort p { r with
    packet := none, unacked := [], txSeq := 0, rxExp := 0, rxAny := false, nakSent := false, nakDue := false,
    replays := 0, freed := [0, 0, 0, 0, 0, 0], credRx := [0, 0, 0, 0, 0, 0], used := [0, 0, 0, 0, 0, 0], rst := true,
    blocks := [] }
  if lost = 0 then s else (s.incSat (fCW_Pp_COUNT_C_LOST p) lost).cwFault 0x0908

end Sys2Proof.Machine
end

