-- ==== Sys2Proof/Machine/SedgeGraph.lean ====
section
/-!
DEFINITION. The detector graph (R237 to R240) and the decode of a window by weighted union-find and peeling (R243 to R245),
as functions of plain data.
-/
namespace Sys2Proof.Machine

/-- One step of the reflected CRC-32 of R195. -/
def crc32Bit (c : Nat) : Nat := if c % 2 = 1 then c / 2 ^^^ 0xEDB88320 else c / 2

/-- The CRC-32 of R195: reflected, initial value and final XOR 0xFFFF_FFFF. -/
def crc32 (bytes : List Byte) : Nat :=
  bytes.foldl (fun c b => (List.range 8).foldl (fun c _ => crc32Bit c) (c ^^^ b.toNat)) 0xFFFFFFFF ^^^ 0xFFFFFFFF

/-- The little-endian number in n bytes of an image from a byte on. -/
def imageLe (img : List Byte) (at_ n : Nat) : Nat := leNat ((img.drop at_).take n)

/-- Puts a number into an ascending list without repeats. -/
def insertNew (v : Nat) : List Nat → List Nat
  | [] => [v]
  | w :: ws => if v < w then v :: w :: ws else if v = w then w :: ws else w :: insertNew v ws

/-- The distinct numbers of a list, ascending. -/
def distinct (l : List Nat) : List Nat := l.foldl (fun acc v => insertNew v acc) []

/-! ### The image -/

/-- Reads an edge record (R238). -/
def edgeOf (img : List Byte) (at_ : Nat) : Edge :=
  let b4 := imageLe img (at_ + 4) 1
  let w6 := imageLe img (at_ + 6) 2
  { a := imageLe img at_ 2
    b := imageLe img (at_ + 2) 2
    btype := b4 % 4
    nb := b4 / 4 % 8
    own := bitOf b4 5
    wt := imageLe img (at_ + 5) 1
    frame := w6 % 512
    pauli := w6 / 512 % 4
    obs := imageLe img (at_ + 8) 8 }

/-- Are the reserved bits of an edge record 0? -/
def edgeReserved (img : List Byte) (at_ : Nat) : Bool :=
  imageLe img (at_ + 4) 1 < 64 && imageLe img (at_ + 6) 2 < 2048

/-- Reads a graph image whose length is right. -/
def graphOf (img : List Byte) : Graph :=
  let nd := imageLe img 8 4
  let ne := imageLe img 12 4
  { init := (List.range nd).map (fun i => bitOf (imageLe img (112 + 4 * i) 4) 0)
    nbs := (List.range 6).map (fun k =>
      let w := imageLe img (64 + 8 * k) 2
      if bitOf w 15 then some (w % 2 ^ 14) else none)
    edges := (List.range ne).map (fun i => edgeOf img (112 + 4 * nd + 16 * i)) }

/-- The number of local detectors. -/
def Graph.nd (g : Graph) : Nat := g.init.length

/-- The degree of a local detector (R238). -/
def Graph.degree (g : Graph) (d : Nat) : Nat :=
  g.edges.countP (fun e => e.a == d) + g.edges.countP (fun e => e.btype ≤ 1 && e.b == d)

/-- The seam edges with a neighbour. -/
def Graph.seam (g : Graph) (k : Nat) : List Edge := g.edges.filter (fun e => e.btype == 3 && e.nb == k)

/-- The distinct local detectors of a seam, ascending: their places are the seam positions (R240). -/
def Graph.seamLocal (g : Graph) (k : Nat) : List Nat := distinct ((g.seam k).map (·.a))

/-- The distinct remote detectors of a seam, ascending: their places are the ghost indices. -/
def Graph.seamRemote (g : Graph) (k : Nat) : List Nat := distinct ((g.seam k).map (·.b))

/-- Is an edge of the graph within its limits? -/
def Graph.edgeOk (g : Graph) (e : Edge) : Bool :=
  e.a < g.nd && 1 ≤ e.wt && e.wt ≤ 15 &&
    match e.btype with
    | 0 => e.b < g.nd && e.a != e.b && e.nb == 0 && !e.own
    | 1 => e.b < g.nd && e.nb == 0 && !e.own
    | 2 => e.b == 0 && e.nb == 0 && !e.own
    | _ => e.b < 4096 && e.nb < 6 && (g.nbs.getD e.nb none).isSome

/-- Is the image a valid graph (R237, R239)? -/
def graphValid (img : List Byte) : Bool :=
  let nd := imageLe img 8 4
  let ne := imageLe img 12 4
  112 ≤ img.length && imageLe img 0 4 == 0x5ED60001 && imageLe img 4 2 == 1 && imageLe img 6 2 == 0 &&
    1 ≤ nd && nd ≤ 4096 && 1 ≤ ne && ne ≤ 24576 && imageLe img 16 4 ≤ 6 &&
    img.length == 112 + 4 * nd + 16 * ne &&
    crc32 (img.take 20 ++ [0, 0, 0, 0] ++ img.drop 24) == imageLe img 20 4 &&
    imageLe img 24 40 == 0 &&
    (List.range 6).all (fun k => !bitOf (imageLe img (64 + 8 * k) 2) 14 && imageLe img (66 + 8 * k) 6 == 0) &&
    (List.range nd).all (fun i => imageLe img (112 + 4 * i) 4 < 2) &&
    (List.range ne).all (fun i => edgeReserved img (112 + 4 * nd + 16 * i)) &&
    (let g := graphOf img
     g.edges.all g.edgeOk && (List.range nd).all (fun d => g.degree d ≤ 12) &&
       (List.range 6).all (fun k => (g.seamLocal k).length ≤ 256 && (g.seamRemote k).length ≤ 256))

/-- A seam edge as the pair (detector on the lower node, detector on the higher). -/
def seamPair (low : Bool) (e : Edge) : Nat × Nat := if low then (e.a, e.b) else (e.b, e.a)

/-- Puts a seam edge into its place by the pair of its detectors. -/
def insertSeam (low : Bool) (e : Edge) : List Edge → List Edge
  | [] => [e]
  | x :: xs =>
    let p := seamPair low e
    let q := seamPair low x
    if p.1 < q.1 || (p.1 == q.1 && p.2 < q.2) then e :: x :: xs else x :: insertSeam low e xs

/-- The edges of a seam in the order of their seam edge IDs (R240); `low`: this device has the lower node ID. -/
def Graph.seamOrder (g : Graph) (k : Nat) (low : Bool) : List Edge :=
  (g.seam k).foldl (fun acc e => insertSeam low e acc) []

/-- The seam edge ID of an edge. -/
def Graph.sid (g : Graph) (low : Bool) (e : Edge) : Nat := (g.seamOrder e.nb low).idxOf e

/-- The seam digest (R240). -/
def Graph.digest (g : Graph) (k : Nat) (low : Bool) : Nat :=
  crc32 ((g.seamOrder k low).flatMap (fun e =>
    let p := seamPair low e
    leBytes 2 p.1 ++ leBytes 2 p.2 ++ leBytes 1 e.wt ++ leBytes 1 (if e.own == low then 1 else 0) ++ leBytes 2 0))

/-! ### The decode of a window -/

/-- The boundary vertex. -/
def vBoundary : Nat := 0
/-- A local detector in a round. -/
def vLocal (d r : Nat) : Nat := 1 + 8192 * r + d
/-- A ghost of a neighbour in a round. -/
def vGhost (k i r : Nat) : Nat := 1 + 8192 * r + 4096 + 256 * k + i
/-- The round of a vertex other than the boundary. -/
def vRound (v : Nat) : Nat := (v - 1) / 8192

/-- An edge of a window: its endpoints, the graph's edge and the round of endpoint A. -/
structure WEdge where
  va : Nat
  vb : Nat
  edge : Edge
  round : Nat
  deriving DecidableEq, Repr

/-- An edge in a round; none for a time-like edge from the top round. -/
def Graph.place (g : Graph) (top r : Nat) (e : Edge) : Option WEdge :=
  match e.btype with
  | 0 => some ⟨vLocal e.a r, vLocal e.b r, e, r⟩
  | 1 => if r = top then none else some ⟨vLocal e.a r, vLocal e.b (r + 1), e, r⟩
  | 2 => some ⟨vLocal e.a r, vBoundary, e, r⟩
  | _ => some ⟨vLocal e.a r, vGhost e.nb ((g.seamRemote e.nb).idxOf e.b) r, e, r⟩

/-- The edges of a window in the order of R244. -/
def Graph.windowEdges (g : Graph) (lo top : Nat) : List WEdge :=
  (List.range (top + 1 - lo)).flatMap (fun i => g.edges.filterMap (g.place top (lo + i)))

/-- A cluster: its vertices and the parity of its defects. -/
structure Cluster where
  verts : List Nat
  odd : Bool
  deriving DecidableEq, Repr

/-- Odd and without the boundary vertex. -/
def Cluster.active (c : Cluster) : Bool := c.odd && !c.verts.contains vBoundary

/-- Joins the clusters of two vertices; a vertex outside any cluster joins as it stands. -/
def unite (cl : List Cluster) (a b : Nat) : List Cluster :=
  let of (v : Nat) : Cluster := (cl.find? (·.verts.contains v)).getD ⟨[v], false⟩
  let ca := of a
  let cb := of b
  if ca.verts.contains b then cl
  else ⟨ca.verts ++ cb.verts, xor ca.odd cb.odd⟩ :: cl.filter (fun c => c != ca && c != cb)

/-- Is an edge full at a growth count? -/
def WEdge.full (e : WEdge) (g : Nat) : Bool := 2 * e.edge.wt ≤ g

/-- One growth step over edges with their growth counts (R244). -/
def growStep (es : List (WEdge × Nat)) (cl : List Cluster) : List (WEdge × Nat) × List Cluster :=
  let act (v : Nat) : Nat := if cl.any (fun c => c.active && c.verts.contains v) then 1 else 0
  let grown := es.map (fun e => if e.1.full e.2 then e else (e.1, e.2 + act e.1.va + act e.1.vb))
  let became := (es.zip grown).filter (fun p => !p.1.1.full p.1.2 && p.2.1.full p.2.2)
  (grown, became.foldl (fun c p => unite c p.2.1.va p.2.1.vb) cl)

/-- Growth until no cluster is active, within the bound of R244. -/
def grow : Nat → List (WEdge × Nat) → List Cluster → List (WEdge × Nat) × List Cluster
  | 0, es, cl => (es, cl)
  | fuel + 1, es, cl =>
    if cl.any Cluster.active then
      let r := growStep es cl
      grow fuel r.1 r.2
    else (es, cl)

/-- The vertices found so far, each with the edge to its parent and the parent. -/
abbrev Found := List (Nat × Option (WEdge × Nat))

/-- Breadth-first search from the vertices found but not visited, taking edges in order (R245). -/
def search (es : List WEdge) : Nat → List Nat → Found → Found
  | 0, _, found => found
  | _, [], found => found
  | fuel + 1, v :: queue, found =>
    let r := es.foldl (fun (acc : List Nat × Found) e =>
      let other : Option Nat := if e.va = v then some e.vb else if e.vb = v then some e.va else none
      match other with
      | some w => if acc.2.any (·.1 == w) then acc else (acc.1 ++ [w], acc.2 ++ [(w, some (e, v))])
      | none => acc) (queue, found)
    search es fuel r.1 r.2

/-- Toggles a defect. -/
def toggle (v : Nat) (l : List Nat) : List Nat := if l.contains v then l.filter (· != v) else v :: l

/-- Removes leaves in reverse order of discovery (R245): the correction and the defects left. -/
def peel : Found → List Nat → List WEdge × List Nat
  | [], defects => ([], defects)
  | (v, link) :: rest, defects =>
    match link with
    | some (e, parent) =>
      if defects.contains v then
        let r := peel rest (toggle parent (defects.filter (· != v)))
        (e :: r.1, r.2)
      else peel rest defects
    | none => peel rest defects

/-- The lowest vertex of a cluster: the boundary where the cluster holds it. -/
def Cluster.root (c : Cluster) : Nat := c.verts.foldl min (c.verts.headD 0)

/-- The correction of a window and its unresolved clusters, from its edges and defects. -/
def decodeWindow (es : List WEdge) (defects : List Nat) (vertices : Nat) : List WEdge × List Cluster :=
  let r := grow (30 * vertices) (es.map (fun e => (e, 0))) (defects.map (fun v => ⟨[v], true⟩))
  let full := (r.1.filter (fun e => e.1.full e.2)).map (·.1)
  r.2.foldl (fun acc c =>
    let mine := full.filter (fun e => c.verts.contains e.va)
    let found := search mine (c.verts.length + 1) [c.root] [(c.root, none)]
    let p := peel found.reverse (defects.filter c.verts.contains)
    (acc.1 ++ p.1, if p.2.contains c.root && c.root != vBoundary then acc.2 ++ [c] else acc.2)) ([], [])

end Sys2Proof.Machine
end

