-- ==== Sys2Proof/Machine/Sedge.lean ====
section
/-!
DEFINITION. Sedge: sessions and rounds, readiness and backlog, commits, neighbours, the Pauli frame and its mirror (chapter
"Sedge syndrome decoder", R232 to R260).
-/
namespace Sys2Proof.Machine

def sdgIdle : Nat := 0
def sdgArmed : Nat := 1
def sdgSession : Nat := 2
def sdgFlushing : Nat := 3
def sdgHalted : Nat := 4

def nbUnused : Nat := 0
def nbWait : Nat := 1
def nbLinked : Nat := 2
def nbMismatch : Nat := 3
def nbSilent : Nat := 4

/-- 0xFFFF_FFFF: no round. -/
def noRound : Nat := 0xFFFFFFFF

def State.sdgState (s : State) : Nat := s.fld fSDG_STATUS_STATE

/-- A session runs. -/
def State.sdgRuns (s : State) : Bool := s.sdgState == sdgSession || s.sdgState == sdgFlushing

def State.setSdg (s : State) (g : SdgState) : State := { s with sdg := g }

/-- Raises a Sedge fault with its host source (R260, R349). -/
def State.sdgFault (s : State) (code : Nat) : State :=
  let s := s.raise code
  if code = 0x0701 then s.icPend 25
  else if code = 0x0702 then s.icPend 27
  else if code = 0x0706 then s.icPend 29
  else s.icPend 28

/-- The neighbours in the graph: entry and node ID. -/
def State.sdgNeighbours (s : State) : List (Nat × Nat) :=
  match s.sdg.graph with
  | some g => (List.range 6).filterMap (fun k => (g.nbs.getD k none).map (fun id => (k, id)))
  | none => []

/-- The neighbour entry of a node. -/
def State.sdgNeighbourOf (s : State) (node : Nat) : Option Nat :=
  (s.sdgNeighbours.find? (fun e => e.2 == node)).map (·.1)

/-- Is a neighbour LINKED for a round (R253)? -/
def State.nbLinkedFor (s : State) (k r : Nat) : Bool :=
  s.fld (fSDG_NBk_STATUS_STATE k) == nbLinked && s.sdg.linkedFrom.any (fun e => e.1 == k && e.2 ≤ r)

/-! ### The log and the UNTRUSTED record -/

/-- Does the log still hold a round? -/
def State.sdgLogged (s : State) (r : Nat) : Bool := s.fld (fSDG_LOG_i_ROUND (r % 64)) == r % 2 ^ 24

/-- Sets a flag of the log entry of a round that is still in the log. -/
def State.sdgLogSet (s : State) (r : Nat) (f : Nat → Fld) : State :=
  if s.sdgLogged r then s.setFlag (f (r % 64)) true else s

/-- Sets a flag for every round of a range that may still be in the log. -/
def State.sdgLogRange (s : State) (lo hi : Nat) (f : Nat → Fld) : State :=
  let lo := max lo (hi - 63)
  forRange (hi + 1 - lo) (fun i t => t.sdgLogSet (lo + i) f) s

/-- The round that entry i of the log holds: the latest closed round whose number is i modulo 64; none before there is one. -/
def State.sdgHeld (s : State) (i : Nat) : Option Nat :=
  let back := (s.sdg.round + 63 - i) % 64
  if back < s.sdg.round && s.sdgLogged (s.sdg.round - 1 - back) then some (s.sdg.round - 1 - back) else none

/-- The first round that is not committed. -/
def State.sdgUncommitted (s : State) : Nat :=
  let c := s.regN rSDG_ROUND_COMMITTED
  if c = noRound then s.sdg.first else c + 1

/-- Marks the rounds closed and not committed UNTRUSTED, and tells the LINKED neighbours (R250, R251). -/
def State.sdgMarkUntrusted (s : State) : State :=
  let lo := s.sdgUncommitted
  if s.sdg.round ≤ lo then s
  else
    let hi := s.sdg.round - 1
    let was := s.flag fSDG_UNTRUSTED_FLAG
    let s := s.sdgLogRange lo hi fSDG_LOG_i_UNTRUSTED
    let s := s.setRegN rSDG_UNTR_FIRST (if was then min lo (s.regN rSDG_UNTR_FIRST) else lo)
    let s := s.setRegN rSDG_UNTR_LAST (if was then max hi (s.regN rSDG_UNTR_LAST) else hi)
    let s := (s.setFlag fSDG_UNTRUSTED_FLAG true).icLevel 26 true
    s.sdgNeighbours.foldl (fun t e =>
      if t.fld (fSDG_NBk_STATUS_STATE e.1) = nbLinked then t.sendPacket 1 0 e.2 (roundStatusPayload lo hi) else t) s

/-- Ends a session without decoding (R251). -/
def State.sdgEnd (s : State) (next : Nat) : State :=
  let s := if s.sdgRuns then s.sdgMarkUntrusted else s
  let s := forRange 6 (fun k t => t.setFld (fSDG_NBk_STATUS_STATE k) nbUnused) s
  (s.setSdg { s.sdg with start := none, flush := none, carry := [], meas := [], writes := [], events := [] }).setFld
    fSDG_STATUS_STATE next

/-- UNTRUSTED_CLEAR: a write of 1 to FLAG. -/
def State.sdgUntrustedClear (s : State) : State :=
  (((s.setFlag fSDG_UNTRUSTED_FLAG false).setReg rSDG_UNTR_FIRST 0).setReg rSDG_UNTR_LAST 0).icLevel 26 false

/-- FRAME_CLR (R255). -/
def State.sdgFrameClr (s : State) : State :=
  let s := forRange 512 (fun q t => t.setReg (rSDG_FRAME_q q) 0) s
  ((s.setReg rSDG_OBS_L 0).setReg rSDG_OBS_H 0).sdgUntrustedClear

/-! ### The enable check -/

/-- The detectors that an enabled map entry reaches. -/
def State.mapReach (s : State) (slot : Nat) : List Nat :=
  if s.flag (fSDG_MAP_s_EN slot) then
    (List.range (s.fld (fSDG_MAP_s_K slot) + 1)).map (s.fld (fSDG_MAP_s_DET_BASE slot) + ·)
  else []

/-- The first slot whose map entry reaches a detector that an earlier one reaches. -/
def State.mapOverlap (s : State) : Option Nat :=
  ((List.range 1024).foldl (fun (acc : List Nat × Option Nat) slot =>
    let mine := s.mapReach slot
    (acc.1 ++ mine, if acc.2.isNone && mine.any acc.1.contains then some slot else acc.2)) ([], none)).2

/-- Is a node reached by the routing through a port that is present? -/
def State.routable (s : State) (node : Nat) : Bool :=
  match s.route node with
  | .port p _ _ => s.portPresent p
  | _ => false

/-- The enable check of R258. -/
def State.sdgCheck (s : State) : List Failure :=
  let w := s.fld fSDG_CFG_W
  let c := s.fld fSDG_CFG_C
  let nd := s.fld fSDG_GRAPH_ND
  let nbs := s.sdgNeighbours
  let badNb : Option (Nat × Nat) := nbs.find? (fun e =>
    e.2 == s.nodeId || !s.routable e.2 || nbs.any (fun e' => e'.1 < e.1 && e'.2 == e.2))
  failIf (!s.part.sedge) 0x01 ++
  failFirst 512 (fun m => s.flag (fSDG_MAP_s_EN m) && !s.poolPresent (m / 32)) 0x01 ++
  failIf (!(s.mode ∈ [modeConfig, modeReady, modeDiag])) 0x02 ++
  failIf (!s.locked 7 || !(s.fld fTM_STATUS_STATE ∈ [1, 3])) 0x03 ++
  failIf (w < 2 || 32 < w || c < 1 || w ≤ c || s.regN rSDG_ROUND_P < 6400 ||
    s.regN rSDG_ROUND_P ≤ s.regN rSDG_SKEW || s.fld fSDG_CFG_BACKLOG_MAX < 3 ||
    (s.regN rSDG_BND_TIMEOUT = 0 && nbs != [])) 0x07 ++
  failFirst 1024 (fun m => s.flag (fSDG_MAP_s_EN m) && s.fld (fSDG_MAP_s_S2 m) = 3) 0x07 ++
  failIf (!s.flag fSDG_GRAPH_LOADED) 0x08 ++
  failIf (!s.flag (fSEC_CSu_STATUS_LOADED 9)) 0x09 ++
  (match badNb with
    | some e => [(0x61, 0x400 + e.1)]
    | none => []) ++
  failFirst 1024 (fun m => s.flag (fSDG_MAP_s_EN m) &&
    nd ≤ s.fld (fSDG_MAP_s_DET_BASE m) + s.fld (fSDG_MAP_s_K m)) 0x62 ++
  match s.mapOverlap with
  | some m => [(0x63, m)]
  | none => []

/-! ### Sessions -/

/-- The first fabric tick of a round (R232). -/
def State.roundStart (s : State) (r : Nat) : Nat :=
  s.reg64 rSDG_ROUND_T0_L + s.regN rSDG_SKEW + r * s.regN rSDG_ROUND_P

/-- The round at which a session armed now begins (R259). -/
def State.firstRound (s : State) : Nat :=
  let p := s.regN rSDG_ROUND_P
  if s.now + 512 ≤ s.roundStart 0 || p = 0 then 0
  else (s.now + 512 - s.roundStart 0 + p - 1) / p

/-- START (R258, R259): accepted while enabled, in the modes of R257 that run sessions; ignored while a session runs. -/
def State.sdgStart (s : State) : State :=
  if s.flag fSDG_STATUS_ENABLED && !s.sdgRuns && s.sdgState != sdgHalted &&
      s.mode ∈ [modeReady, modeRun, modeDrain, modeDiag] then
    let s := s.sdgNeighbours.foldl (fun t e => t.setFld (fSDG_NBk_STATUS_STATE e.1) nbWait) s
    let s := s.setSdg { s.sdg with
      start := some s.firstRound, linkedFrom := [], silent := [0, 0, 0, 0, 0, 0], ghosts := [], timedOut := [],
      ownSeam := [], theirSeam := [], partSeam := [] }
    (s.setFld fSDG_BACKLOG_MAX 0).setFld fSDG_STATUS_STATE sdgArmed
  else s

/-- The detectors whose INIT bit is 1. -/
def Graph.initOnes (g : Graph) : List Nat := (List.range g.nd).filter (fun d => g.init.getD d false)

/-- SESSION_BEGIN (R259). -/
def State.sdgBegin (s : State) : State :=
  match s.sdg.start, s.sdg.graph with
  | some r0, some g =>
    if s.sdgState = sdgArmed then
      let s := s.setSdg { s.sdg with
        start := none, first := r0, round := r0, base := r0, window := 0, prev := g.initOnes, meas := [], writes := [],
        events := [], carry := [], flush := none }
      let s := s.setRegN rSDG_FIRST_ROUND r0
      let s := (s.setRegN rSDG_ROUND_CLOSED noRound).setRegN rSDG_ROUND_COMMITTED noRound
      (s.setFld fSDG_BACKLOG_NOW 0).setFld fSDG_STATUS_STATE sdgSession
    else s
  | _, _ => s

/-- The first round of the window that decodes next. -/
def State.windowLo (s : State) : Nat := s.sdg.base + s.sdg.window * s.fld fSDG_CFG_C

/-- Ends a flushed session: Sedge returns to ARMED (R249). -/
def State.sdgFlushed (s : State) : State :=
  (s.setSdg { s.sdg with flush := none, carry := [], events := [], meas := [], writes := [] }).setFld
    fSDG_STATUS_STATE sdgArmed

/-- FLUSH (R249). -/
def State.sdgFlush (s : State) : State :=
  if s.sdgState = sdgSession then
    let f := s.regN rSDG_FLUSH_ROUND
    if f < s.windowLo || f < s.sdgUncommitted then s.sdgFlushed
    else (s.setSdg { s.sdg with flush := some f }).setFld fSDG_STATUS_STATE sdgFlushing
  else s

/-- ENABLE set (R433). -/
def State.sdgEnable (s : State) : State :=
  let s := s.setFlag fSDG_CTRL_ENABLE true
  if s.flag fSDG_STATUS_ENABLED then s
  else s.unitOutcome uSDG fSDG_STATUS_ENABLED fSDG_STATUS_REFUSED fSDG_STATUS_REASON (some fSDG_STATUS_ITEM) s.sdgCheck

/-- ENABLE cleared: a session ends as under R251. -/
def State.sdgDisable (s : State) : State :=
  let s := if s.flag fSDG_STATUS_ENABLED && s.sdgState != sdgHalted then s.sdgEnd sdgIdle else s
  (s.setFlag fSDG_CTRL_ENABLE false).setFlag fSDG_STATUS_ENABLED false

/-- STOP (R249). -/
def State.sdgStop (s : State) : State :=
  if s.sdgRuns || s.sdgState = sdgArmed then s.sdgEnd sdgIdle else s

/-- A write of SDG_CTRL. -/
def State.sdgCtrlWrite (s : State) (v : Word) : State :=
  let s := if v.getLsbD 0 then s.sdgEnable else s.sdgDisable
  let s := if v.getLsbD 3 then s.sdgStop else s
  let s := if v.getLsbD 4 then s.sdgFrameClr else s
  let s := if v.getLsbD 2 then s.sdgFlush else s
  if v.getLsbD 1 then s.sdgStart else s

/-! ### Measurements and rounds -/

/-- A decision slot write with VALID = 1 reaches Sedge's capture port (R233, R234). -/
def State.sdgMeasure (s : State) (slot state : Nat) : State :=
  let g := s.sdg
  let late : Bool := match g.flush with
    | some f => f < g.round
    | none => false
  if !s.sdgRuns || late || !s.flag (fSDG_MAP_s_EN slot) then s
  else
    let j := SMap.get (fun _ => 0) g.writes slot
    if s.fld (fSDG_MAP_s_K slot) < j then s.incSat fSDG_COUNT_A_EXTRA
    else
      let d := s.fld (fSDG_MAP_s_DET_BASE slot) + j
      let m : Option Bool :=
        if state = 0 then some false
        else if state = 1 then some true
        else if s.fld (fSDG_MAP_s_S2 slot) = 0 then some false
        else if s.fld (fSDG_MAP_s_S2 slot) = 1 then some true
        else none
      s.setSdg { g with
        writes := SMap.set (fun _ => 0) g.writes slot (j + 1)
        meas := match m with
          | some b => g.meas ++ [(d, b)]
          | none => g.meas }

/-- Have all parts of a neighbour's SEAM_EVENTS for a round arrived? -/
def State.seamArrived (s : State) (k r : Nat) : Bool :=
  match s.sdg.graph with
  | some g =>
    s.sdg.ghosts.any (fun e => e.1 == k && e.2.1 == r &&
      (List.range (((g.seamRemote k).length + 127) / 128)).all e.2.2.1.contains)
  | none => false

/-- Has round r nothing to wait for from neighbour k (R242)? -/
def State.nbReady (s : State) (k r : Nat) : Bool :=
  !s.nbLinkedFor k r || s.seamArrived k r || s.sdg.timedOut.contains (k, r)

/-- Round r has closed and is ready (R242). -/
def State.roundReady (s : State) (r : Nat) : Bool :=
  s.sdg.first ≤ r && r < s.sdg.round && s.sdgNeighbours.all (fun e => s.nbReady e.1 r)

/-- The undecoded rounds (R250): closed after the top round of the oldest window that is due and has not committed. -/
def State.undecoded (s : State) : Nat :=
  let top := s.windowLo + s.fld fSDG_CFG_W - 1
  if top < s.sdg.round then s.sdg.round - 1 - top else 0

/-- The value of a detector in the round that closes, and whether it was measured. -/
def measured (meas : List (Nat × Bool)) (d : Nat) : Option Bool := (meas.find? (·.1 == d)).map (·.2)

/-- Sends SEAM_EVENTS of a round to a neighbour: one flit per 128 seam positions (R252). -/
def State.sendSeamEvents (s : State) (g : Graph) (k node r : Nat) (events : List Nat) : State :=
  let pos := g.seamLocal k
  forRange ((pos.length + 127) / 128) (fun part t =>
    let bits := ((pos.drop (128 * part)).take 128).foldr (fun d acc => 2 * acc + (if events.contains d then 1 else 0)) 0
    t.sendSedge0 node (seamEventsPayload r part bits)) s

/-- The backlog fault (R250). -/
def State.sdgBacklog (s : State) : State :=
  let s := ((s.sdgFault 0x0701).incSat fSDG_COUNT_B_BACKLOG).fire 0x322
  let s := s.sdgMarkUntrusted
  s.setSdg { s.sdg with base := s.sdg.round, window := 0, events := [], carry := [] }

/-- ROUND_CLOSE (R235, R236, R250, R253). -/
def State.roundClose (s : State) : State :=
  let past : Bool := match s.sdg.flush with
    | some f => f < s.sdg.round
    | none => false
  match s.sdg.graph with
  | none => s
  | some g =>
    if !s.sdgRuns || past then s
    else
      let r := s.sdg.round
      let ds := List.range g.nd
      let value (d : Nat) : Bool := (measured s.sdg.meas d).getD (s.sdg.prev.contains d)
      let events := ds.filter (fun d => xor (value d) (s.sdg.prev.contains d))
      let mapped := (List.range 1024).flatMap s.mapReach
      let missing := mapped.filter (fun d => (measured s.sdg.meas d).isNone)
      let open_ : Bool := s.sdgNeighbours.any (fun e => !s.nbLinkedFor e.1 r)
      let s := s.setSdg { s.sdg with
        round := r + 1, prev := ds.filter value, meas := [], writes := [], events := s.sdg.events ++ [(r, events)] }
      let s := s.setRegN rSDG_ROUND_CLOSED r
      let s := s.setRegN (rSDG_LOG_i (r % 64)) (r % 2 ^ 24)
      let s := if missing = [] then s
        else ((s.incSat fSDG_COUNT_A_MISSING missing.length).sdgLogSet r fSDG_LOG_i_MISSING).sdgFault 0x0702
      let s := if open_ then s.sdgLogSet r fSDG_LOG_i_SEAM_OPEN else s
      let s := s.sdgNeighbours.foldl (fun t e => t.sendSeamEvents g e.1 e.2 r events) s
      let s := s.fire 0x320
      let n := s.undecoded
      let s := s.setFld fSDG_BACKLOG_NOW (min n 255)
      let s := s.setFld fSDG_BACKLOG_MAX (max (s.fld fSDG_BACKLOG_MAX) (min n 255))
      if s.fld fSDG_CFG_BACKLOG_MAX < n then s.sdgBacklog.setFld fSDG_BACKLOG_NOW 0 else s

/-- BOUNDARY_TIMEOUT: neighbour k's part of a closed round has not arrived in time (R242, R253). -/
def State.boundaryTimeout (s : State) (k r : Nat) : State :=
  if s.sdgRuns && s.sdg.first ≤ r && r < s.sdg.round && !s.nbReady k r then
    let n := s.sdg.silent.getD k 0 + 1
    let s := s.setSdg { s.sdg with timedOut := s.sdg.timedOut ++ [(k, r)], silent := s.sdg.silent.set k n }
    let s := (s.incSat (fSDG_NBk_DISAGREE_TIMEOUT k)).sdgLogSet r fSDG_LOG_i_SEAM_OPEN
    if n < 16 then s else (s.setFld (fSDG_NBk_STATUS_STATE k) nbSilent).sdgFault 0x0704
  else s

/-! ### The commit (R245 to R247, R249, R256) -/

/-- The last round of the window that decodes next, and whether it is the last window of a flushed session. -/
def State.windowTop (s : State) : Nat × Bool :=
  let top := s.windowLo + s.fld fSDG_CFG_W - 1
  match s.sdg.flush with
  | some f => if f ≤ top then (f, true) else (top, false)
  | none => (top, false)

/-- The ghosts of a round that carry events. -/
def State.ghostDefects (s : State) (r : Nat) : List Nat :=
  s.sdg.ghosts.flatMap (fun e =>
    if e.2.1 = r && s.seamArrived e.1 r && !s.sdg.timedOut.contains (e.1, r) then e.2.2.2.map (vGhost e.1 · r) else [])

/-- The defects of a window: detection events, the carry of R247, and ghosts. -/
def State.windowDefects (s : State) (lo top : Nat) : List Nat :=
  let local_ := (s.sdg.events.filter (fun e => lo ≤ e.1 && e.1 ≤ top)).flatMap (fun e => e.2.map (vLocal · e.1))
  let carried := s.sdg.carry.foldl (fun acc d => toggle (vLocal d lo) acc) local_
  carried ++ (List.range (top + 1 - lo)).flatMap (fun i => s.ghostDefects (lo + i))

/-- Toggles the frame entry of a 9-bit index by a Pauli: 1 X, 2 Z, 3 Y. -/
def State.frameToggle (s : State) (q pauli : Nat) : State :=
  let s := if pauli = 1 || pauli = 3 then s.setFlag (fSDG_FRAME_q_X (q % 512)) (!s.flag (fSDG_FRAME_q_X (q % 512))) else s
  if pauli = 2 || pauli = 3 then s.setFlag (fSDG_FRAME_q_Z (q % 512)) (!s.flag (fSDG_FRAME_q_Z (q % 512))) else s

/-- Applies a committed edge: a seam edge only where it is owned (R246). -/
def State.applyEdge (s : State) (e : WEdge) : State :=
  if e.edge.btype < 3 || e.edge.own then
    let s := s.frameToggle e.edge.frame e.edge.pauli
    s.setReg64 rSDG_OBS_L (s.reg64 rSDG_OBS_L ^^^ e.edge.obs)
  else s

/-- The word of the frame mirror for an entry (R256). -/
def State.mirrorWord (s : State) (q : Nat) : Nat :=
  bit (s.flag (fSDG_FRAME_q_X q)) + 2 * bit (s.flag (fSDG_FRAME_q_Z q)) + 4 * bit (s.flag fSDG_UNTRUSTED_FLAG) +
    256 * (s.regN rSDG_ROUND_COMMITTED % 2 ^ 24)

/-- Writes the frame mirror of every selected Pool that is powered. -/
def State.sdgMirror (s : State) : State :=
  forRange 16 (fun n t =>
    if bitOf (t.fld fSDG_MIRROR_POOL_MASK) n && t.poolPowered n then
      forRange 4 (fun i u =>
        forRange 32 (fun k w =>
          { w with dmem := w.dmem.writeLe (65536 * (4 * n + i) + 0xFF80 + 4 * k) 4 (w.mirrorWord (32 * n + k)) }) u) t
    else t) s

/-- The entries of a SEAM_COMMIT, eight to a flit, LAST on the final one. -/
def seamFlits : Nat → List (Nat × Nat) → List (Bool × List (Nat × Nat))
  | 0, l => [(true, l.take 8)]
  | fuel + 1, l => if l.length ≤ 8 then [(true, l)] else (false, l.take 8) :: seamFlits fuel (l.drop 8)

/-- Sends SEAM_COMMIT of a region to a neighbour. -/
def State.sendSeamCommit (s : State) (node round : Nat) (entries : List (Nat × Nat)) : State :=
  (seamFlits entries.length entries).foldl (fun t f => t.sendSedge0 node (seamCommitPayload round f.1 f.2)) s

/-- Compares an owner's commit with this device's correction over the same region (R253). -/
def State.compareSeam (s : State) (k : Nat) (mine theirs : List (Nat × Nat)) : State :=
  s.incSat (fSDG_NBk_DISAGREE_DISAGREE k)
    (mine.countP (fun e => !theirs.contains e) + theirs.countP (fun e => !mine.contains e))

/-- Compares what both sides have committed for a neighbour and region. -/
def State.matchSeam (s : State) (k round : Nat) : State :=
  match s.sdg.ownSeam.find? (fun e => e.1 == k && e.2.1 == round),
    s.sdg.theirSeam.find? (fun e => e.1 == k && e.2.1 == round) with
  | some a, some b =>
    let s := s.compareSeam k a.2.2 b.2.2
    s.setSdg { s.sdg with ownSeam := s.sdg.ownSeam.erase a, theirSeam := s.sdg.theirSeam.erase b }
  | _, _ => s

/-- Commits the correction of a window: its lowest and last rounds, the last round of the commit region. -/
def State.commitRegion (s : State) (g : Graph) (lo hi : Nat) (final : Bool) (corr : List WEdge) (bad : List Cluster) :
    State :=
  let inRegion := corr.filter (fun e => lo ≤ e.round && e.round ≤ hi)
  let crosses (e : WEdge) : Bool := e.edge.btype == 1 && e.round == hi && !final
  let s := (inRegion.filter (fun e => !crosses e)).foldl State.applyEdge s
  let s := s.setRegN rSDG_ROUND_COMMITTED hi
  let s := s.sdgLogRange lo hi fSDG_LOG_i_COMMITTED
  let s := if bad = [] then s
    else
      let s := (s.incSat fSDG_COUNT_B_UNRESOLVED bad.length).sdgFault 0x0706
      bad.foldl (fun t c => c.verts.foldl (fun u v =>
        if v ≠ vBoundary && vRound v ≤ hi then u.sdgLogSet (vRound v) fSDG_LOG_i_UNRESOLVED else u) t) s
  let s := s.setReg64 rSDG_LAST_COMMIT_T_L s.now
  let entry (node : Nat) (e : WEdge) : Nat × Nat := (g.sid (s.nodeId < node) e.edge, e.round - lo)
  let s := s.sdgNeighbours.foldl (fun t nb =>
    let seam := inRegion.filter (fun e => e.edge.btype == 3 && e.edge.nb == nb.1)
    let t := t.sendSeamCommit nb.2 lo ((seam.filter (·.edge.own)).map (entry nb.2))
    let t := t.setSdg { t.sdg with
      ownSeam := t.sdg.ownSeam ++ [(nb.1, lo, (seam.filter (fun e => !e.edge.own)).map (entry nb.2))] }
    t.matchSeam nb.1 lo) s
  let s := s.setSdg { s.sdg with
    window := s.sdg.window + 1
    carry := (inRegion.filter crosses).foldl (fun acc e => toggle e.edge.b acc) []
    events := s.sdg.events.filter (fun e => hi < e.1)
    ghosts := s.sdg.ghosts.filter (fun e => hi < e.2.1)
    timedOut := s.sdg.timedOut.filter (fun e => hi < e.2) }
  let s := s.setFld fSDG_BACKLOG_NOW (min s.undecoded 255)
  let s := ((s.fire 0x321).icPend 24).sdgMirror
  if final then s.sdgFlushed else s

/-- COMMIT: the decode of the next window completes (R241 to R249). -/
def State.sdgCommit (s : State) : State :=
  match s.sdg.graph with
  | none => s
  | some g =>
    let lo := s.windowLo
    let (top, final) := s.windowTop
    if s.sdgRuns && s.roundReady top then
      let es := g.windowEdges lo top
      let vertices := (top + 1 - lo) * (g.nd + ((List.range 6).map (fun k => (g.seamRemote k).length)).sum) + 1
      let (corr, bad) := decodeWindow es (s.windowDefects lo top) vertices
      s.commitRegion g lo (if final then top else lo + s.fld fSDG_CFG_C - 1) final corr bad
    else s

/-! ### Messages from neighbours -/

/-- SEAM_EVENTS (R242, R253). -/
def State.sdgSeamEvents (s : State) (k round part : Nat) (bits : Nat) : State :=
  if !s.sdgRuns then s
  else if round < s.sdgUncommitted || (round < s.sdg.round && s.nbReady k round) then
    s.incSat (fSDG_NBk_STATUS_LATE k)
  else
    let hits := ((List.range 128).filter (bitOf bits)).map (128 * part + ·)
    let old := (s.sdg.ghosts.find? (fun e => e.1 == k && e.2.1 == round)).getD (k, round, [], [])
    s.setSdg { s.sdg with
      ghosts := s.sdg.ghosts.filter (fun e => !(e.1 == k && e.2.1 == round)) ++
        [(k, round, insertNew part old.2.2.1, hits.foldl (fun acc h => insertNew h acc) old.2.2.2)]
      silent := s.sdg.silent.set k 0 }

/-- SEAM_COMMIT (R253): compared when its last flit and this device's own commit are there. -/
def State.sdgSeamCommit (s : State) (k round : Nat) (last : Bool) (entries : List (Nat × Nat)) : State :=
  if !s.sdgRuns then s
  else
    let old := (s.sdg.partSeam.find? (fun e => e.1 == k && e.2.1 == round)).getD (k, round, [])
    let rest := s.sdg.partSeam.filter (fun e => !(e.1 == k && e.2.1 == round))
    let all := old.2.2 ++ entries
    if last then
      (s.setSdg { s.sdg with
        partSeam := rest, theirSeam := s.sdg.theirSeam ++ [(k, round, all)] }).matchSeam k round
    else s.setSdg { s.sdg with partSeam := rest ++ [(k, round, all)] }

/-- ROUND_STATUS (R254). -/
def State.sdgRoundStatus (s : State) (k first last : Nat) : State :=
  let s := forRange 64 (fun i t => match t.sdgHeld i with
    | some r => if first ≤ r && r ≤ last then t.setFlag (fSDG_LOG_i_NB_UNTRUSTED i) true else t
    | none => t) s
  (s.incSat (fSDG_NBk_STATUS_NB_UNTR k)).sdgFault 0x0703

/-- The HELLO of this device toward a neighbour (R252). -/
def State.sdgHello (s : State) (k node : Nat) : BitVec 192 :=
  let digest := match s.sdg.graph with
    | some g => g.digest k (s.nodeId < node)
    | none => 0
  helloPayload digest (s.fld fSDG_CFG_W) (s.fld fSDG_CFG_C) (s.regN rSDG_ROUND_P) (s.reg64 rSDG_ROUND_T0_L)
    (s.regN rSDG_SKEW)

/-- HELLO (R253). -/
def State.sdgReceiveHello (s : State) (k node : Nat) (p : BitVec 192) : State :=
  let st := s.fld (fSDG_NBk_STATUS_STATE k)
  if st = nbUnused then s
  else if p = s.sdgHello k node then
    if st = nbLinked then s
    else
      let s := s.setSdg { s.sdg with
        linkedFrom := s.sdg.linkedFrom.filter (·.1 != k) ++
          [(k, if s.sdgRuns then s.sdg.round else s.sdg.start.getD 0)]
        silent := s.sdg.silent.set k 0 }
      s.setFld (fSDG_NBk_STATUS_STATE k) nbLinked
  else
    let s := s.setFld (fSDG_NBk_STATUS_STATE k) nbMismatch
    if st = nbMismatch then s else s.sdgFault 0x0704

/-- HELLO_DUE: a HELLO to each neighbour that is not LINKED (R252). -/
def State.sdgHelloDue (s : State) : State :=
  if s.sdgRuns || s.sdgState = sdgArmed then
    s.sdgNeighbours.foldl (fun t e =>
      let st := t.fld (fSDG_NBk_STATUS_STATE e.1)
      if st = nbUnused || st = nbLinked then t else t.sendPacket 1 0 e.2 (t.sdgHello e.1 e.2)) s
  else s

/-- A Sedge message for this device (R301): discarded and counted where Sedge is absent or disabled. -/
def State.sdgMessage (s : State) (node : Nat) (p : BitVec 192) : State :=
  if !s.sedgePowered || !s.flag fSDG_STATUS_ENABLED then s.incSat fCW_GAP_COUNT_SEDGE_DISCARD
  else
    match s.sdgNeighbourOf node with
    | none => s.incSat fCW_GAP_COUNT_SEDGE_DISCARD
    | some k =>
      match sliceNat p 3 0 with
      | 1 => s.sdgSeamEvents k (sliceNat p 35 4) (sliceNat p 37 36) (sliceNat p 165 38)
      | 2 => s.sdgSeamCommit k (sliceNat p 35 4) (sliceNat p 36 36 == 1)
          ((List.range (min (sliceNat p 40 37) 8)).map (fun i =>
            (sliceNat p (50 + 16 * i) (41 + 16 * i), sliceNat p (55 + 16 * i) (51 + 16 * i))))
      | 3 => s.sdgRoundStatus k (sliceNat p 35 4) (sliceNat p 67 36)
      | 4 => s.sdgReceiveHello k node p
      | _ => s

/-! ### LOAD_GRAPH, reset and SAFE -/

/-- The refusal of LOAD_GRAPH (R239). -/
def State.graphRefused (s : State) (img : List Byte) : Option Nat :=
  if !s.part.sedge then some 0x01
  else if !(s.mode ∈ [modeConfig, modeReady, modeDiag]) then some 0x02
  else if s.flag fSDG_STATUS_ENABLED then some 0x0A
  else if !graphValid img then some 0x60
  else none

/-- An accepted load replaces the graph. -/
def State.graphLoad (s : State) (img : List Byte) : State :=
  let s := s.setSdg { s.sdg with graph := some (graphOf img) }
  let s := s.setFld fSDG_GRAPH_ND (imageLe img 8 4)
  let s := s.setFld fSDG_GRAPH_NNB (imageLe img 16 4)
  s.setFlag fSDG_GRAPH_LOADED true

/-- SAFE ends a session (R257). -/
def State.sdgSafe (s : State) : State := if s.sdgRuns || s.sdgState = sdgArmed then s.sdgEnd sdgIdle else s

/-- A Sedge reset (R257): registers other than frame, observables, UNTRUSTED record and map; the graph is kept. -/
def State.sdgReset (s : State) : State :=
  let s := if s.sdgRuns then s.sdgEnd sdgIdle else s
  let graph := s.reg rSDG_GRAPH
  let s := s.resetRegs rSDG_CTRL rSDG_LAST_COMMIT_T_L
  let s := s.resetRegs rSDG_LAST_COMMIT_T_L rSDG_UNTRUSTED
  let s := s.resetRegs rSDG_COUNT_A rSDG_MAP_s_0
  let s := s.resetRegs rSDG_LOG_0 (rSDG_LOG_0 + 0x100)
  let s := s.setSdg { graph := s.sdg.graph }
  (s.setReg rSDG_GRAPH graph).icLevel 30 false
where
  rSDG_MAP_s_0 : Nat := rSDG_MAP_s 0
  rSDG_LOG_0 : Nat := rSDG_LOG_i 0

/-- PD8 goes off: working store, graph and frame are lost (R257). -/
def State.sdgPowerOff (s : State) : State :=
  let s := if s.sdgRuns then s.sdgEnd sdgIdle else s
  (((s.resetRegs rSDG_CTRL (rSDG_CTRL + 0x100000)).setSdg {}).icLevel 26 false).icLevel 30 false

/-! ### The commands -/

/-- SDG_ENABLE. -/
def execSdgEnable (p : Path) (s : State) : Result := done (s.viaBus p rSDG_CTRL (·.sdgEnable))

/-- START: ENABLE is written as it stands. -/
def execStart (p : Path) (s : State) : Result := done (s.viaBus p rSDG_CTRL (·.sdgStart))

/-- SESSION_BEGIN. -/
def execSessionBegin (s : State) : Result := done s.sdgBegin

/-- FLUSH. -/
def execFlush (p : Path) (s : State) : Result := done (s.viaBus p rSDG_CTRL (·.sdgFlush))

/-- STOP. -/
def execStop (p : Path) (s : State) : Result := done (s.viaBus p rSDG_CTRL (·.sdgStop))

/-- FRAME_CLR. -/
def execFrameClr (p : Path) (s : State) : Result := done (s.viaBus p rSDG_CTRL (·.sdgFrameClr))

/-- UNTRUSTED_CLEAR. -/
def execUntrustedClear (p : Path) (s : State) : Result := done (s.viaBus p rSDG_UNTRUSTED (·.sdgUntrustedClear))

/-- ROUND_CLOSE. -/
def execRoundClose (s : State) : Result := done s.roundClose

/-- BOUNDARY_TIMEOUT. -/
def execBoundaryTimeout (k : Fin 6) (r : Word) (s : State) : Result := done (s.boundaryTimeout k.val r.toNat)

/-- COMMIT. -/
def execCommit (s : State) : Result := done s.sdgCommit

/-- HELLO_DUE. -/
def execHelloDue (s : State) : Result := done s.sdgHelloDue

end Sys2Proof.Machine
end

