-- ==== Sys2Proof/Machine/Decision.lean ====
section
/-!
DEFINITION. Decision slots and the Decision Network: slot writes and every consumer of them (R17, R22, R83, R158 to R162,
R184, R188, R276 to R280), and the class 0 budget check (R297).
-/
namespace Sys2Proof.Machine

/-- The slot as its consumers see it: STATE, VALID and SEQ; a slot of a Pool that is not live presents VALID = 0 (R9, R22). -/
def State.slot (s : State) (m : Nat) : Nat × Bool × Nat :=
  (s.fld (fDN_SLOT_s_STATE m), s.flag (fDN_SLOT_s_VALID m) && (512 ≤ m || s.poolLive (m / 32)),
    s.fld (fDN_SLOT_s_SEQ m))

/-- The slot in the format of R187. -/
def State.slotWord (s : State) (m : Nat) : Word :=
  let v := s.slot m
  BitVec.ofNat 32 (v.1 + 4 * bit v.2.1 + 16 * v.2.2)

/-! ### Cores that watch -/

/-- The interrupt source of a core becomes pending (R188). -/
def State.corePend (s : State) (n i src : Nat) : State :=
  s.setFld (fRC_i_IRQ_PEND_PEND n i) (putBit (s.fld (fRC_i_IRQ_PEND_PEND n i)) src true)

/-- Fields of a CPLAY (R209): slot, EXACT and E. -/
def TCmd.cplaySlot (c : TCmd) : Nat := fieldOf c.b 9 0
def TCmd.cplayExact (c : TCmd) : Bool := c.top == 2 && fieldOf c.b 12 12 == 0
def TCmd.cplaySeq (c : TCmd) : Nat := fieldOf c.b 19 16

/-- EXACT capture on a slot value: the first with VALID = 1 and SEQ = E is held (R184). -/
def Armed.see (e : Armed) (m state : Nat) (valid : Bool) (seq : Nat) : Armed :=
  if e.cmd.cplayExact && e.cmd.cplaySlot == m && e.captured.isNone && valid && seq == e.cmd.cplaySeq then
    { e with captured := some state }
  else e

/-- The capture stages of every live Pool see a slot write. -/
def State.captureAll (s : State) (m state : Nat) (valid : Bool) (seq : Nat) : State :=
  { s with armed := s.armed.map (fun e =>
      if s.poolLive (e.1 / 128) then (e.1, e.2.map (fun a => a.see m state valid seq)) else e) }

/-- The decision-driven jump of a drive tone on a slot write with VALID = 1 (R83). -/
def State.djSee (s : State) (n k m state seq : Nat) : State :=
  if s.fld (fDRV_Tk_DJ_CFG_SLOT n k) != m then s
  else
    let c := s.chain n k
    let fresh : Bool := c.recorded != some seq
    let s := s.setChain n k { c with recorded := some seq }
    if s.flag (fDRV_Tk_DJ_CFG_EN n k) && fresh && !bitOf (s.fld (fDRV_Tk_DJ_CFG_NJ n k)) state then
      s.jumpRequest n k
        (if state = 0 then s.fld (fDRV_Tk_DJ_TGT_T0 n k)
         else if state = 1 then s.fld (fDRV_Tk_DJ_TGT_T1 n k)
         else s.fld (fDRV_Tk_DJ_CFG_T2 n k))
    else s

/-- What a live Pool does on a slot write with VALID = 1: decision-driven jumps and the DEC interrupt source. -/
def State.poolSee (s : State) (n m state seq : Nat) : State :=
  if s.poolLive n then
    let s := forRange 32 (fun k t => t.djSee n k m state seq) s
    forRange 4 (fun i t => if t.fld (fRC_i_DECWATCH_SLOT n i) = m then t.corePend n i 2 else t) s
  else s

/-! ### Export -/

/-- Exports a decision of a local slot: one item per enabled entry, in ascending order (R277). -/
def State.exportSlot (s : State) (m state seq : Nat) : State :=
  if s.flag fDN_STATUS_ENABLED then
    forRange 1024 (fun e t =>
      if t.flag (fDN_EXP_e_EN e) && t.fld (fDN_EXP_e_SLOT e) == m then
        let t := t.incWrap fDN_COUNT_A_EXPORTED
        let dest := t.fld (fDN_EXP_e_DEST_DEST e)
        match t.route dest with
        | .port p _ _ => t.queueC0 p (.item {
            dest := dest, entry := t.fld (fDN_EXP_e_DEST_ENTRY e), state := state, seq := seq })
        | _ => t.cwFault 0x0906
      else t) s
  else s

/-! ### Slot writes -/

/-- Sets the three fields of a slot at once (R158). -/
def State.setSlot (s : State) (m state : Nat) (valid : Bool) (seq : Nat) : State :=
  s.setRegN (rDN_SLOT_s m) (state + 4 * bit valid + 16 * (seq % 16))

/-- A slot write, with its broadcast to every consumer (R162, R276). -/
def State.slotWrite (s : State) (m state : Nat) (valid : Bool) (seq : Nat) : State :=
  let s := s.setSlot m state valid seq
  let s := s.captureAll m state valid (seq % 16)
  if !valid then s
  else
    let s := forRange 16 (fun n t => t.poolSee n m state (seq % 16)) s
    let s := if s.sedgePowered then s.sdgMeasure m state else s
    if m < 512 then (s.exportSlot m state (seq % 16)).fire m else s

/-- A write with VALID = 0 that keeps STATE and SEQ (R22, R160, R278). -/
def State.slotInvalidate (s : State) (m : Nat) : State :=
  s.slotWrite m (s.fld (fDN_SLOT_s_STATE m)) false (s.fld (fDN_SLOT_s_SEQ m))

/-- A local slot's decision: SEQ advances (R159). -/
def State.slotDecide (s : State) (m state : Nat) : State :=
  s.slotWrite m state true (s.fld (fDN_SLOT_s_SEQ m) + 1)

/-- The local slots of a Pool at VALID = 0, STATE = 0, SEQ = 0 (R161). -/
def State.slotsReset (s : State) (n : Nat) : State :=
  forRange 32 (fun k t => t.setReg (rDN_SLOT_s (32 * n + k)) 0) s

/-- Every local slot of a Pool is written with VALID = 0 (R22). -/
def State.slotsInvalidate (s : State) (n : Nat) : State :=
  forRange 32 (fun k t => t.slotInvalidate (32 * n + k)) s

/-- An accepted item of import entry j (R278). -/
def State.importSlot (s : State) (j state seq : Nat) : State :=
  (s.incWrap fDN_COUNT_A_IMPORTED).slotWrite (512 + j) state true seq

/-- An imported slot is invalidated after a lost flit (R278). -/
def State.importInvalidate (s : State) (j : Nat) : State :=
  (s.incSat fDN_COUNT_B_GAP_INVAL).slotInvalidate (512 + j)

/-- IMP_CLR: every imported slot at VALID = 0, STATE = 0, SEQ = 0. -/
def State.impClr (s : State) : State := forRange 512 (fun j t => t.setReg (rDN_SLOT_s (512 + j)) 0) s

/-! ### The class 0 budget (R297) -/

/-- The Sedge neighbours whose node the routing reaches through port p. -/
def State.nbsOnPort (s : State) (p : Nat) : List (Nat × Nat) :=
  if s.part.sedge && s.flag fSDG_CTRL_ENABLE then
    s.sdgNeighbours.filter (fun e => match s.route e.2 with
      | .port q _ _ => q == p
      | _ => false)
  else []

def ceilDiv (a b : Nat) : Nat := (a + b - 1) / b

/-- Of neighbour k: flits of SEAM_EVENTS per round, and of SEAM_COMMIT per commit. -/
def State.seamFlitCounts (s : State) (k : Nat) : Nat × Nat :=
  match s.sdg.graph with
  | some g => (ceilDiv (g.seamLocal k).length 128,
      max 1 (ceilDiv ((g.seam k).countP (·.own) * s.fld fSDG_CFG_C) 8))
  | none => (0, 1)

/-- L_p as a fraction, and B_p. -/
def State.classLoad (s : State) (p : Nat) : Nat × Nat × Nat :=
  let c := max 1 (s.fld fSDG_CFG_C)
  let den := c * max 1 (s.regN rSDG_ROUND_P)
  let counts := (s.nbsOnPort p).map (fun e => s.seamFlitCounts e.1)
  let num := (1 + s.fld (fCW_Pp_C0_DECL_EXPORT p) + s.fld (fCW_Pp_C0_DECL_TRANSIT p)) * den +
    (counts.map (fun x => (x.1 * c + x.2) * 16000)).sum
  (num, den, 1 + s.fld (fCW_Pp_C0_DECL_BURST p) + (counts.map (fun x => x.1 + x.2)).sum)

/-- Does port p keep the budget? -/
def State.budgetOk (s : State) (p : Nat) : Bool :=
  let l := s.classLoad p
  l.1 ≤ 218 * l.2.1 && l.2.2 ≤ s.fld (fCW_Pp_POL_DEPTH p)

/-- The first enabled port that breaks the budget. -/
def State.budgetFail (s : State) : Option Nat :=
  (List.range 8).find? (fun p => s.portPresent p && s.flag (fCW_Pp_CTRL_ENABLE p) && !s.budgetOk p)

/-- L_p and B_p appear in CW_Pp_C0_LOAD. -/
def State.showLoads (s : State) : State :=
  forRange 8 (fun p t =>
    if t.portPresent p && t.flag (fCW_Pp_CTRL_ENABLE p) then
      let l := t.classLoad p
      (t.setFld (fCW_Pp_C0_LOAD_LOAD p) (min (openQuotient (256 * l.1) l.2.1).toNat 0xFFFF)).setFld
        (fCW_Pp_C0_LOAD_BURST p) (min l.2.2 255)
    else t) s

/-! ### The unit -/

/-- An export entry that is enabled. -/
def State.expOn (s : State) (e : Nat) : Bool := s.flag (fDN_EXP_e_EN e)

/-- The second of two enabled entries with the same DEST and ENTRY. -/
def State.expConflict (s : State) : Option Nat :=
  (List.range 1024).find? (fun e => s.expOn e &&
    (List.range e).any (fun e' => s.expOn e' && s.reg (rDN_EXP_e_DEST e') == s.reg (rDN_EXP_e_DEST e)))

/-- The enable check of R280. -/
def State.dnCheck (s : State) : List Failure :=
  failFirst 1024 (fun e => s.expOn e && !s.poolPresent (s.fld (fDN_EXP_e_SLOT e) / 32)) 0x01 ++
  failIf (!(s.mode ∈ [modeConfig, modeReady, modeDiag])) 0x02 ++
  failFirst 1024 (fun e => s.expOn e && s.fld (fDN_EXP_e_DEST_DEST e) == s.nodeId) 0x07 ++
  failFirst 1024 (fun e => s.expOn e && !s.routable (s.fld (fDN_EXP_e_DEST_DEST e))) 0x08 ++
  failIf s.budgetFail.isSome 0xA2 ++
  match s.expConflict with
  | some e => [(0x06, 0x3000 + e)]
  | none => []

/-- DN_CTRL.ENABLE set. -/
def State.dnEnable (s : State) : State :=
  let s := s.setFlag fDN_CTRL_ENABLE true
  if s.flag fDN_STATUS_ENABLED then s
  else s.showLoads.unitOutcome uDN fDN_STATUS_ENABLED fDN_STATUS_REFUSED fDN_STATUS_REASON (some fDN_STATUS_ITEM) s.dnCheck

/-- A write of DN_CTRL. -/
def State.dnCtrlWrite (s : State) (v : Word) : State :=
  let s := if v.getLsbD 1 then s.impClr else s
  if v.getLsbD 0 then s.dnEnable else (s.setFlag fDN_CTRL_ENABLE false).setFlag fDN_STATUS_ENABLED false

/-- DN_ENABLE. -/
def execDnEnable (p : Path) (s : State) : Result := done (s.viaBus p rDN_CTRL (·.dnEnable))

/-- IMP_CLR: ENABLE is written as it stands. -/
def execImpClr (p : Path) (s : State) : Result := done (s.viaBus p rDN_CTRL (·.impClr))

end Sys2Proof.Machine
end

