-- ==== Sys2Proof/Machine/Sluice.lean ====
section
/-!
DEFINITION. Sluice: bias channels, load strobes, slewing, range changes and the safe behaviour (chapter "Sluice bias outputs and
Dipwell monitors", R361 to R371, R381, R384), and the trigger of a delayed conversion by a transfer (R377).
-/
namespace Sys2Proof.Machine

/-! ### Records and conditions -/

def State.sluCh (s : State) (c : Nat) : SluCh := SMap.get (fun _ => {}) s.slu c
def State.setSluCh (s : State) (c : Nat) (v : SluCh) : State := { s with slu := SMap.set (fun _ => {}) s.slu c v }

def chOpen : Nat := 0
def chClosing : Nat := 1
def chConnected : Nat := 2
def chRanging : Nat := 3
def chZeroing : Nat := 4
def chFaulted : Nat := 5

def State.chState (s : State) (c : Nat) : Nat := s.fld (fSLU_CHc_STATUS_STATE c)
def State.setChState (s : State) (c v : Nat) : State := s.setFld (fSLU_CHc_STATUS_STATE c) v
def State.chOut (s : State) (c : Nat) : Int := s.fldS (fSLU_CHc_OUT_CODE c)
def State.chTarget (s : State) (c : Nat) : Int := s.fldS (fSLU_CHc_TARGET_CODE c)
def State.setTarget (s : State) (c : Nat) (v : Int) : State := s.setFldS (fSLU_CHc_TARGET_CODE c) v

/-- Is a channel present and its analogue group powered? -/
def State.chLive (s : State) (c : Nat) : Bool := s.poolPresent (c / 16) && s.pdOn (10 + c / 64)

/-- The output takes a code; what it was stays known for the supervision lag, at most 255 µs (R380). -/
def State.setOut (s : State) (c : Nat) (v : Int) : State :=
  let r := s.sluCh c
  let past := (s.dpw.slots, v) :: r.past
  let recent := past.takeWhile (fun e => s.dpw.slots < e.1 + 512)
  let past := past.take (recent.length + 1)
  (s.setSluCh c { r with past := past }).setFldS (fSLU_CHc_OUT_CODE c) v

/-- Are strobes ignored: in SAFE, or in BIAS_HOLD under an INTERLOCK or THERMAL cause (R370, R443)? -/
def State.biasHeld (s : State) : Bool :=
  s.mode == modeBiasHold &&
    (s.flag fPM_SAFE_CAUSE_INTERLOCK || s.flag fPM_SAFE_CAUSE_FEN_ILK || s.flag fPM_SAFE_CAUSE_THERMAL)

/-! ### Zeroing (R369 to R371) -/

/-- A channel in ZEROING has reached code 0. -/
def State.zeroReached (s : State) (c : Nat) : State :=
  let r := s.sluCh c
  let s := s.setSluCh c { r with toOpen := false, toFault := false, misses := 0 }
  s.setChState c (if r.toOpen then chOpen else if r.toFault then chFaulted else chConnected)

/-- One step of at most FAULT_STEP codes toward 0. -/
def State.zeroStep (s : State) (c : Nat) : State :=
  if s.chState c != chZeroing then s
  else
    let o := s.chOut c
    let d := min (s.fld (fSLU_CHc_CFG_FAULT_STEP c)) o.natAbs
    let o := if 0 ≤ o then o - d else o + d
    let s := s.setOut c o
    if o = 0 then s.zeroReached c else s

/-- A channel enters ZEROING, with a step at the instant of entry. -/
def State.zeroBegin (s : State) (c : Nat) : State :=
  let s := s.setTarget c 0
  if s.chState c = chZeroing then s else (s.setChState c chZeroing).zeroStep c

/-- A channel opens by way of ZEROING. -/
def State.chToOpen (s : State) (c : Nat) : State :=
  if s.chState c = chOpen then s else (s.setSluCh c { s.sluCh c with toOpen := true }).zeroBegin c

/-- Entry to SAFE, and the hold of R443: a CONNECTED channel zeroes and holds; a closing or ranging one completes first. -/
def State.sluHold (s : State) : State :=
  forRange 256 (fun c t => if t.chState c = chConnected then t.zeroBegin c else t) s

/-- A channel fault (R369): its code, its record, its sources, and the group where FAULT_SCOPE says so. -/
def State.channelFault (s : State) (c code : Nat) : State :=
  let s := s.raise code
  let s := s.incSat (fSLU_CHc_COUNT_FAULTS c)
  let s := s.setFlag (fSLU_CHc_STATUS_FAULT c) true
  let s := if code = 0x0C02 then s.setFlag (fSLU_CHc_STATUS_COMPLIANCE c) true else s
  let s := (s.setSluCh c { s.sluCh c with toFault := true }).zeroBegin c
  let s :=
    if s.flag (fSLU_Gg_CFG_FAULT_SCOPE (c / 16)) then
      forRange 16 (fun j t =>
        let d := c / 16 * 16 + j
        if d ≠ c && (t.chState d = chConnected || t.chState d = chClosing) then t.zeroBegin d else t) s
    else s
  (s.fire (0x36C + c / 64)).icPend (48 + c / 64)

/-! ### Strobes (R363, R364, R367) -/

def State.conv (s : State) (k : Nat) : DpwConv := SMap.get (fun _ => {}) s.dpw.convs k
def State.setConv (s : State) (k : Nat) (v : DpwConv) : State :=
  { s with dpw := { s.dpw with convs := SMap.set (fun _ => {}) s.dpw.convs k v } }

/-- A delayed conversion of a converter is triggered, or its trigger is dropped (R377, R379). -/
def State.dlyTrigger (s : State) (k : Nat) : State :=
  if !s.flag fDPW_STATUS_ENABLED then s
  else if (s.conv k).cal || (s.conv k).dly.isSome then s.incSat (fDPW_Cc_COUNT_DLY_DROP k)
  else s.setConv k { s.conv k with dly := some (s.fld (fDPW_Cc_DLY_CFG_COUNT k) + 1), dlyDue := false }

/-- A channel takes part in a transfer. -/
def State.chTransfer (s : State) (c : Nat) : State :=
  let v := s.fldS (fSLU_CHc_CODE_CODE c)
  let st := s.chState c
  if st = chOpen then (if (s.sluCh c).on then (s.setTarget c v).setChState c chClosing else s)
  else if st = chClosing || st = chConnected then s.setTarget c v
  else if st = chRanging then s.incSat (fSLU_CHc_COUNT_RANGE_HELD c)
  else s

/-- A strobe of load group g: one transfer, or ignored. -/
def State.strobe (s : State) (g : Nat) : State :=
  if !s.flag fSLU_STATUS_ENABLED || !s.chLive (16 * g) then s
  else if s.mode = modeSafe then s.incSat (fSLU_Gg_COUNT_IGNORED g)
  else if s.biasHeld then s
  else
    let s := s.incWrap (fSLU_Gg_COUNT_LOADS g)
    let s := forRange 16 (fun j t => t.chTransfer (16 * g + j)) s
    forRange 2 (fun k t =>
      if t.fld (fDPW_Cc_DLY_CFG_TRIG k) = 2 && t.fld (fDPW_Cc_DLY_CFG_GROUP k) = g then t.dlyTrigger k else t) s

/-- CLOSING ends: the channel is CONNECTED at code 0; in SAFE it stays at 0. -/
def State.closingEnd (s : State) (c : Nat) : State :=
  if s.chState c != chClosing then s
  else
    let s := s.setChState c chConnected
    if s.mode = modeSafe || s.biasHeld then s.setTarget c 0 else s

/-- A slew step (R365). -/
def State.slewStep (s : State) (c : Nat) : State :=
  if s.chState c != chConnected then s
  else
    let o := s.chOut c
    let d := s.chTarget c - o
    let k : Int := min (s.fld (fSLU_CHc_SLEW_STEP c)) d.natAbs
    if d = 0 then s else s.setOut c (if 0 < d then o + k else o - k)

/-! ### Range changes (R368) -/

def State.chRefuse (s : State) (c r : Nat) : State :=
  (s.setFlag (fSLU_CHc_STATUS_REFUSED c) true).setFld (fSLU_CHc_STATUS_REASON c) r
def State.chAccept (s : State) (c : Nat) : State :=
  (s.setFlag (fSLU_CHc_STATUS_REFUSED c) false).setFld (fSLU_CHc_STATUS_REASON c) 0

/-- A write of SLU_CHc_RANGE. -/
def State.rangeWrite (s : State) (c : Nat) (v : Word) : State :=
  if !v.getLsbD 4 then s
  else if s.chState c = chOpen then (s.chAccept c).setFld (fSLU_CHc_CFG_RANGE c) (fieldOf v 1 0)
  else if s.chState c = chConnected && s.chOut c = 0 && s.chTarget c = 0 then
    ((s.chAccept c).setSluCh c { s.sluCh c with stage := 0, newRange := fieldOf v 1 0 }).setChState c chRanging
  else s.chRefuse c 0xE0

/-- The next timed stage of a range change: 10, 50 and 70 µs. -/
def State.rangingStep (s : State) (c : Nat) : State :=
  if s.chState c != chRanging then s
  else
    let r := s.sluCh c
    if r.stage = 0 then (s.setFld (fSLU_CHc_CFG_RANGE c) r.newRange).setSluCh c { r with stage := 1 }
    else if r.stage = 1 then s.setSluCh c { r with stage := 2 }
    else (s.setSluCh c { r with stage := 0 }).setChState c chConnected

/-- A write of SLU_CHc_SLEW (R365). -/
def State.slewWrite (s : State) (c : Nat) (v : Word) : State :=
  if fieldOf v 15 0 = 0 || fieldOf v 31 16 = 0 then s.chRefuse c 0xE1
  else (s.chAccept c).setReg (rSLU_CHc_SLEW c) v

/-- A write of SLU_CHc_STATUS: FAULT and COMPLIANCE clear where 1 is written (R369). -/
def State.chStatusWrite (s : State) (c : Nat) (v : Word) : State :=
  let s := if v.getLsbD 9 then s.setFlag (fSLU_CHc_STATUS_COMPLIANCE c) false else s
  if v.getLsbD 8 then
    let s := s.setFlag (fSLU_CHc_STATUS_FAULT c) false
    let s := s.setSluCh c { s.sluCh c with toFault := false }
    if s.chState c = chFaulted then s.setChState c chConnected else s
  else s

/-! ### Checks (R384) -/

/-- Does Sluice claim general timer g (R366)? -/
def State.sluClaims (s : State) (g : Nat) : Bool :=
  s.flag fSLU_STATUS_ENABLED && (List.range 16).any (fun x =>
    s.flag (fSLU_Gg_CFG_SRC_TIMER x) && s.fld (fSLU_Gg_CFG_TIMER x) == g)

/-- Does converter k of Dipwell claim general timer g? -/
def State.dpwClaims (s : State) (k g : Nat) : Bool :=
  s.flag fDPW_STATUS_ENABLED && s.fld (fDPW_Cc_SCAN_CFG_TRIG k) == 2 && s.fld (fDPW_Cc_SCAN_CFG_GT k) == g

/-- Is a step, rate or zeroing step of a channel 0? -/
def State.slewZero (s : State) (c : Nat) : Bool :=
  s.fld (fSLU_CHc_SLEW_STEP c) == 0 || s.fld (fSLU_CHc_SLEW_RATE c) == 0 || s.fld (fSLU_CHc_CFG_FAULT_STEP c) == 0

/-- Timers that a Sluice group wants and Dipwell has. -/
def State.sluTimerFails (s : State) : List Failure :=
  ((List.range 16).filter (fun g => s.flag (fSLU_Gg_CFG_SRC_TIMER g) &&
    (s.dpwClaims 0 (s.fld (fSLU_Gg_CFG_TIMER g)) || s.dpwClaims 1 (s.fld (fSLU_Gg_CFG_TIMER g))))).map
      (fun g => (0x06, 0x5000 + s.fld (fSLU_Gg_CFG_TIMER g)))

/-- The unit check. -/
def State.sluCheck (s : State) : List Failure :=
  failFirst 256 (fun c => s.flag (fSLU_CHc_CFG_EN c) && !s.poolPresent (c / 16)) 0x01 ++
  failIf (!s.modeOpen) 0x02 ++ failIf (!s.locked 8) 0x03 ++ s.sluTimerFails ++
  failIf (!s.flag fDPW_STATUS_ENABLED) 0x08 ++
  failFirst 256 (fun c => s.flag (fSLU_CHc_CFG_EN c) && s.slewZero c) 0xE1

/-- The check of one channel's EN while Sluice is enabled. -/
def State.sluChCheck (s : State) (c : Nat) : List Failure :=
  failIf (!s.poolPresent (c / 16)) 0x01 c ++ failIf (!s.locked 8) 0x03 c ++
  failIf (!s.flag fDPW_STATUS_ENABLED) 0x08 c ++ failIf (s.slewZero c) 0xE1 c

/-- ENABLE set. -/
def State.sluEnable (s : State) : State :=
  let s := s.setFlag fSLU_CTRL_ENABLE true
  if s.flag fSLU_STATUS_ENABLED then s
  else
    let s := s.unitOutcome uSLU fSLU_STATUS_ENABLED fSLU_STATUS_REFUSED fSLU_STATUS_REASON (some fSLU_STATUS_ITEM)
      s.sluCheck
    if s.flag fSLU_STATUS_ENABLED then
      forRange 256 (fun c t => if t.flag (fSLU_CHc_CFG_EN c) then t.setSluCh c { t.sluCh c with on := true } else t) s
    else s

/-- ENABLE cleared: every channel opens by way of ZEROING (R371). -/
def State.sluDisable (s : State) : State :=
  let s := (s.setFlag fSLU_CTRL_ENABLE false).setFlag fSLU_STATUS_ENABLED false
  forRange 256 (fun c t => (t.setSluCh c { t.sluCh c with on := false }).chToOpen c) s

/-- CLR_COUNT. -/
def State.sluClrCount (s : State) : State :=
  forRange 256 (fun c t => t.setReg (rSLU_CHc_COUNT c) 0) (forRange 16 (fun g t => t.setReg (rSLU_Gg_COUNT g) 0) s)

/-- A write of SLU_CTRL. -/
def State.sluCtrlWrite (s : State) (v : Word) : State :=
  let s := if v.getLsbD 1 then s.sluClrCount else s
  if v.getLsbD 0 then s.sluEnable else s.sluDisable

/-- A write of SLU_CHc_CFG. -/
def State.chCfgWrite (s : State) (c : Nat) (v : Word) : State :=
  let s := if (s.sluCh c).on then s else s.setFld (fSLU_CHc_CFG_FAULT_STEP c) (fieldOf v 31 16)
  let s := s.setFlag (fSLU_CHc_CFG_EN c) (v.getLsbD 0)
  if !v.getLsbD 0 then (s.setSluCh c { s.sluCh c with on := false }).chToOpen c
  else if !s.flag fSLU_STATUS_ENABLED || (s.sluCh c).on then s
  else
    match worstFailure (s.sluChCheck c) with
    | some (r, i) =>
      let s := s.setFlag fSLU_STATUS_REFUSED true
      let s := s.setFld fSLU_STATUS_REASON r
      let s := s.setFld fSLU_STATUS_ITEM i
      s.reportRefused uSLU r i
    | none =>
      let s := s.setFlag fSLU_STATUS_REFUSED false
      let s := s.setFld fSLU_STATUS_REASON 0
      let s := s.setFld fSLU_STATUS_ITEM c
      (s.reportAccepted uSLU).setSluCh c { s.sluCh c with on := true }

/-- Is every channel OPEN? -/
def State.allOpen (s : State) : Bool := (List.range 256).all (fun c => s.chState c == chOpen)

/-- An analogue group loses power or gains it: its channels are at reset (R367). -/
def State.sluGroupReset (s : State) (a : Nat) : State :=
  let s := forRange 64 (fun j t => t.setSluCh (64 * a + j) {}) s
  let s := s.resetRegs (rSLU_CHc_CODE (64 * a)) (rSLU_CHc_CODE (64 * a + 64))
  s.setFlag (fSLU_AGRPa_STATUS_REF_OK a) (s.pdOn (10 + a))

/-! ### The commands -/

/-- SLU_ENABLE. -/
def execSluEnable (p : Path) (s : State) : Result := done (s.viaBus p rSLU_CTRL (·.sluCtrlWrite 1))

/-- SLU_DISABLE. -/
def execSluDisable (p : Path) (s : State) : Result := done (s.viaBus p rSLU_CTRL (·.sluCtrlWrite 0))

/-- SLU_CHANNEL_ENABLE. -/
def execSluChannelEnable (p : Path) (c : Fin 256) (v : Word) (s : State) : Result :=
  done (s.viaBus p (rSLU_CHc_CFG c.val) (fun s => s.chCfgWrite c.val (v ||| 1)))

/-- SLU_CHANNEL_DISABLE. -/
def execSluChannelDisable (p : Path) (c : Fin 256) (v : Word) (s : State) : Result :=
  done (s.viaBus p (rSLU_CHc_CFG c.val) (fun s => s.chCfgWrite c.val (v &&& ~~~1#32)))

/-- SLU_CLR_COUNT: ENABLE is written as it stands. -/
def execSluClrCount (p : Path) (s : State) : Result := done (s.viaBus p rSLU_CTRL (·.sluClrCount))

/-- STROBE: a register strobe, where SRC_REG allows it. -/
def execStrobe (p : Path) (g : Fin 16) (s : State) : Result :=
  done (s.viaBus p (rSLU_Gg_LOAD g.val) (fun s => s.when (s.flag (fSLU_Gg_CFG_SRC_REG g.val)) (·.strobe g.val)))

/-- SLU_LOAD: the Fen task, where SRC_FEN allows it. -/
def execSluLoad (g : Fin 16) (s : State) : Result :=
  done ((s.takeAct (0x800 + g.val)).when (s.flag (fSLU_Gg_CFG_SRC_FEN g.val)) (·.strobe g.val))

/-- CLOSING_END. -/
def execClosingEnd (c : Fin 256) (s : State) : Result := done (s.closingEnd c.val)

/-- SLEW_STEP. -/
def execSlewStep (c : Fin 256) (s : State) : Result := done (s.slewStep c.val)

/-- RANGE_REQUEST. -/
def execRangeRequest (p : Path) (c : Fin 256) (new : Fin 4) (s : State) : Result :=
  done (s.viaBus p (rSLU_CHc_RANGE c.val) (fun s => s.rangeWrite c.val (BitVec.ofNat 32 (16 + new.val))))

/-- RANGING_STEP. -/
def execRangingStep (c : Fin 256) (s : State) : Result := done (s.rangingStep c.val)

/-- ZEROING_STEP. -/
def execZeroingStep (c : Fin 256) (s : State) : Result := done (s.zeroStep c.val)

/-- CHANNEL_FAULT_CLEAR: FAULT is written as 1. -/
def execChannelFaultClear (p : Path) (c : Fin 256) (s : State) : Result :=
  done (s.viaBus p (rSLU_CHc_STATUS c.val) (fun s => s.chStatusWrite c.val 0x100))

/-- COMPLIANCE_FAULT: of a channel in a current range that drives its pin. -/
def execComplianceFault (c : Fin 256) (s : State) : Result :=
  done (s.when (s.chLive c.val && 2 ≤ s.fld (fSLU_CHc_CFG_RANGE c.val) && s.chState c.val != chOpen &&
    s.chState c.val != chRanging) (fun s => s.channelFault c.val 0x0C02))

/-- REFERENCE_FAULT: every channel of the analogue group that is not OPEN faults. -/
def execReferenceFault (a : Fin 4) (s : State) : Result :=
  done (forRange 64 (fun j t =>
    if t.chLive (64 * a.val + j) && t.chState (64 * a.val + j) != chOpen then t.channelFault (64 * a.val + j) 0x0C03 else t)
    (s.setFlag (fSLU_AGRPa_STATUS_REF_OK a.val) false))

end Sys2Proof.Machine
end

