-- ==== Sys2Proof/Machine/Time.lean ====
section
/-!
DEFINITION. The time unit: fabric time, the Crinak exchange and servo, re-routes and holdover, PPS capture and the time
pulse outputs (chapter "Fabric time and phase", R36 to R64).
-/
namespace Sys2Proof.Machine

/-! ### States and quality -/

def tmIdle : Nat := 0
def tmRoot : Nat := 1
def tmAcquire : Nat := 2
def tmTrack : Nat := 3
def tmHoldover : Nat := 4

def State.tmState (s : State) : Nat := s.fld fTM_STATUS_STATE

/-- The servo state takes a value (R42); HOLDOVER is host source 16. -/
def State.setTmState (s : State) (v : Nat) : State :=
  let s := s.setFld fTM_STATUS_STATE v
  s.icLevel 16 (v == tmHoldover)

/-- QUALITY takes a value; a change fires Fen source QUALITY and host source 18. -/
def State.setQuality (s : State) (q : Nat) : State :=
  if s.fld fTM_STATUS_QUALITY = q then s
  else
    let s := s.setFld fTM_STATUS_QUALITY q
    let s := s.fire 0x312
    s.icPend 18

def qNone : Nat := 0
def qHoldover : Nat := 1
def qUnverified : Nat := 2
def qGood : Nat := 3

def State.tmPort (s : State) (p : Nat) : TmPort := SMap.get (fun _ => {}) s.tmPorts p
def State.setTmPort (s : State) (p : Nat) (v : TmPort) : State :=
  { s with tmPorts := SMap.set (fun _ => {}) s.tmPorts p v }
def State.tpo (s : State) (n : Nat) : Tpo := SMap.get (fun _ => {}) s.tpos n
def State.setTpo (s : State) (n : Nat) (v : Tpo) : State := { s with tpos := SMap.set (fun _ => {}) s.tpos n v }

/-! ### Steps -/

/-- A port's record in the new time-scale after a step by d units of 2⁻¹⁶ tick. -/
def TmPort.shift (r : TmPort) (d : Int) : TmPort :=
  { r with
    rxStamp := r.rxStamp + BitVec.ofInt 80 d
    sent := r.sent.map (fun e => (e.1, e.2 + BitVec.ofInt 80 d))
    prev := r.prev.map (fun e => (e.1 + d, e.2 - d)) }

/-- A step (R50, R52): fabric time moves by d, in units of 2⁻¹⁶ tick. -/
def State.tmStep (s : State) (d : Int) : State :=
  let s := { s with tm := { s.tm with ft := s.tm.ft + BitVec.ofInt 80 d } }
  let s := forRange 8 (fun p t => t.setTmPort p ((t.tmPort p).shift d)) s
  let s := s.setReg64 rTM_LAST_STEP_L (unsigned 64 d)
  let s := s.incSat fTM_COUNT_STEP_COUNT
  let s := s.setFlag fTM_STATUS_STEP_DEFERRED false
  let s := s.setFld fTM_DEFERRED_AMOUNT 0
  s.icLevel 17 false

/-- The correction of a filtered offset in fs, as a move of fabric time in units of 2⁻¹⁶ tick (62.5 ps / 65,536). -/
def stepOfFs (fs : Int) : Int := -(openQuotient (fs * 16384) 15625)

/-- The raw estimate θ of R46 in fs. -/
def State.thetaFs (s : State) : Int := openQuotient s.tm.theta 32768

/-- Sets the time so that the offset estimate is zero and enters TRACK (R43). -/
def State.tmAcquired (s : State) : State :=
  let s := s.tmStep (-(openQuotient s.tm.theta 31250))
  let s := { s with tm := { s.tm with exchanges := 0, theta := 0, freqHist := [] } }
  let s := s.setTmState tmTrack
  s.setQuality qUnverified

/-- Applies a filtered offset under R51. -/
def State.tmCorrect (s : State) (filt : Int) : State :=
  let s := s.setFldS fTM_OFFSET_THETA (satS 32 filt)
  if filt.natAbs ≤ 1000 && !s.flag fTM_STATUS_STEP_DEFERRED then s
  else if filt.natAbs ≤ 1000 then s.setFldS fTM_DEFERRED_AMOUNT (satS 32 filt)
  else if s.modeOpen then s.tmStep (stepOfFs filt)
  else
    let first := !s.flag fTM_STATUS_STEP_DEFERRED
    let s := s.setFlag fTM_STATUS_STEP_DEFERRED true
    let s := s.setFldS fTM_DEFERRED_AMOUNT (satS 32 filt)
    let s := if first then s.raise 0x0B03 else s
    s.icLevel 17 true

/-- One servo update in TRACK: the frequency term moves by at most 1 ppb, and the filtered offset is applied. -/
def State.tmServo (s : State) : State :=
  let raw := s.thetaFs
  let df := Config.frequencyUpdate s.freeIdx raw
  let filt := Config.filteredOffset s.freeIdx raw
  let s := s.draw
  let df := if df > 1099 then 1099 else if df < -1099 then -1099 else df
  let f := s.fldS fTM_FREQ_F_FREQ + df
  let s := s.setFldS fTM_FREQ_F_FREQ f
  let s := { s with tm := { s.tm with freqHist := (f :: s.tm.freqHist).take 64 } }
  s.tmCorrect filt

/-! ### Re-routes -/

/-- The value of F_freq averaged over the last 64 µs, one value per exchange (R53). -/
def State.tmMeanFreq (s : State) : Int :=
  match s.tm.freqHist with
  | [] => s.fldS fTM_FREQ_F_FREQ
  | l => openQuotient l.sum l.length

/-- RE_ROUTE (R53) of a child; a root has no parent. -/
def State.tmReroute (s : State) : State :=
  if !s.tm.enabled || s.flag fTM_CTRL_ROLE then s
  else
    let fresh (t : State) : State := { t with tm := { t.tm with exchanges := 0 } }
    if s.tmState = tmAcquire then fresh s
    else if s.tmState = tmHoldover then fresh s
    else if s.tmState = tmTrack then
      let s := fresh s
      let s := s.setFldS fTM_FREQ_F_FREQ s.tmMeanFreq
      let s := s.setTmState tmHoldover
      let s := s.setQuality qHoldover
      let s := s.raise 0x0B02
      let s := s.fire 0x311
      s.incSat fTM_COUNT_HOLDOVER_COUNT
    else s

/-- The parent port is p, and the unit is an enabled child. -/
def State.tmParentIs (s : State) (p : Nat) : Bool :=
  s.tm.enabled && !s.flag fTM_CTRL_ROLE && s.fld fTM_CTRL_PARENT_PORT == p

/-- A link event on port p is a re-route when p is the parent port (R53). -/
def State.tmLinkEvent (s : State) (p : Nat) : State := if s.tmParentIs p then s.tmReroute else s

/-! ### Enable and control -/

/-- The enable check of R63. -/
def State.tmCheck (s : State) : List Failure :=
  failIf (!s.flag fTM_CTRL_ROLE && !s.portPresent (s.fld fTM_CTRL_PARENT_PORT)) 0x01 ++
  failIf (!s.modeOpen) 0x02 ++
  failIf (!s.flag fTM_STATUS_REF_LOCK) 0x03 ++
  failIf (s.fld fTM_REF_FREQ_FREQ_KHZ < 100000 || 500000 < s.fld fTM_REF_FREQ_FREQ_KHZ ||
    s.fld fTM_CFG_REMEAS_N < 8 || s.fld fTM_CFG_LOSS_N < 4) 0x07

/-- The root's time starts at TM_ROOT_INIT. -/
def State.tmStartRoot (s : State) : State :=
  let init := s.regN rTM_ROOT_INIT_L + 2 ^ 32 * s.regN rTM_ROOT_INIT_M + 2 ^ 64 * s.regN rTM_ROOT_INIT_H
  let s := { s with tm := { s.tm with ft := BitVec.ofNat 80 init, rootKnown := true } }
  let s := s.setTmState tmRoot
  let s := s.setFld fTM_STATUS_HOPS 0
  let s := s.setFld fTM_ROOT_ROOT_ID (s.fld fCW_NODE_ID)
  s.setQuality qGood

/-- A child begins to acquire. -/
def State.tmStartChild (s : State) : State :=
  let s := { s with tm := { s.tm with exchanges := 0, rootKnown := false } }
  let s := s.setTmState tmAcquire
  s.setQuality qNone

/-- The enable check runs (R63, R433). -/
def State.tmEnable (s : State) : State :=
  match worstFailure s.tmCheck with
  | some (r, _) =>
    let s := s.setFlag fTM_STATUS_REFUSED true
    let s := s.setFld fTM_STATUS_REASON r
    s.reportRefused uTM r 0
  | none =>
    let s := s.setFlag fTM_STATUS_REFUSED false
    let s := s.setFld fTM_STATUS_REASON 0
    let s := s.reportAccepted uTM
    let s := { s with tm := { s.tm with enabled := true } }
    if s.flag fTM_CTRL_ROLE then s.tmStartRoot else s.tmStartChild

/-- The time unit goes to IDLE: fabric time is invalid (R41, R42). -/
def State.tmToIdle (s : State) : State :=
  let s := s.setTmState tmIdle
  let s := s.setFlag fTM_STATUS_STEP_DEFERRED false
  let s := s.setFld fTM_DEFERRED_AMOUNT 0
  let s := s.icLevel 17 false
  let s := s.setFld fTM_STATUS_HOPS 63
  s.setQuality qNone

/-- ENABLE cleared: the unit returns to IDLE. -/
def State.tmDisable (s : State) : State :=
  if s.tm.enabled then ({ s with tm := { s.tm with enabled := false } }).tmToIdle else s

/-- A parent change that cannot be followed sets REASON (R63). -/
def State.tmParentReason (s : State) : State :=
  let q := s.fld fTM_CTRL_PARENT_PORT
  if !s.portPresent q then s.setFld fTM_STATUS_REASON 0x01
  else if !s.portActive q then s.setFld fTM_STATUS_REASON 0x08
  else s

/-- ASYM_ACK (R43, R53): in TRACK, QUALITY changes from UNVERIFIED to GOOD. -/
def State.tmConfirm (s : State) : State :=
  if s.tmState = tmTrack && s.fld fTM_STATUS_QUALITY = qUnverified then s.setQuality qGood else s

/-- A write of TM_CTRL. -/
def State.tmCtrlWrite (s : State) (v : Word) : State :=
  let wasOn := s.flag fTM_CTRL_ENABLE
  let oldPort := s.fld fTM_CTRL_PARENT_PORT
  let enable := v.getLsbD 0
  let s := if s.tm.enabled then s else s.setFld fTM_CTRL_ROLE (fieldOf v 1 1)
  let s := s.setFld fTM_CTRL_PARENT_PORT (fieldOf v 6 4)
  let s := s.setFlag fTM_CTRL_ENABLE enable
  let s := if enable && !wasOn then (s.setRegN rTM_COUNT 0).setFlag fTM_ROOT_ROOT_MISMATCH false else s
  let s :=
    if !enable then s.tmDisable
    else if !s.tm.enabled then s.tmEnable
    else if fieldOf v 6 4 ≠ oldPort && !s.flag fTM_CTRL_ROLE then s.tmReroute.tmParentReason
    else s
  if v.getLsbD 8 then s.tmConfirm else s

/-- The lane mask on which a port trained. -/
def State.laneMask (s : State) (p : Nat) : Nat := s.fld (fCW_Pp_STATUS_LANES p)

/-- A write of an ASYM entry (R43, R53, R54): it may confirm the entry in use. -/
def State.asymWrite (s : State) (q i : Nat) (v : Word) : State :=
  let s := s.setReg (rTM_ASYMp_i q i) v
  if s.tmParentIs q && s.laneMask q = i then s.tmConfirm else s

/-! ### The exchange -/

/-- Sends the TIME flit that falls due on a port, with its transmit stamp (R302). -/
def State.tmSendFlit (s : State) (p : Nat) (stamp : BitVec 80) : State :=
  let r := s.tmPort p
  let f : TimeFlit := {
    tseq := r.txSeq
    tTx := stamp
    echoSeq := r.rxSeq
    tRxEcho := r.rxStamp
    hops := BitVec.ofNat 6 (s.fld fTM_STATUS_HOPS)
    quality := BitVec.ofNat 2 (s.fld fTM_STATUS_QUALITY)
    rootId := BitVec.ofNat 14 (s.fld fTM_ROOT_ROOT_ID)
    hold := s.tmState == tmHoldover }
  let s := s.setTmPort p { r with txSeq := r.txSeq + 1, sent := ((r.txSeq, stamp) :: r.sent).take 8 }
  s.sendTimeFlit p (timeFlitBits f)

/-- Is x within 1 µs of y, in units of 2⁻¹⁶ tick? -/
def within1us (x y : Int) : Bool := (x - y).natAbs ≤ 16000 * 65536

/-- The differences t2 − t1 and t4 − t3 of an exchange, when it is valid (R46). -/
def exchangeOf (r : TmPort) (f : TimeFlit) (rx : BitVec 80) : Option (Int × Int) :=
  match r.sent.find? (fun e => e.1 == f.echoSeq) with
  | none => none
  | some (_, t3) =>
    let a := (rx - f.tTx).toInt
    let b := (f.tRxEcho - t3).toInt
    let fresh : Bool := (rx - t3).toNat ≤ 64000 * 65536
    let near : Bool := match r.prev with
      | none => true
      | some (a', b') => within1us a a' && within1us b b'
    if fresh && near then some (a, b) else none

/-- The running mean of the measured path delay in fs (R47). -/
def State.tmReportPath (s : State) (p : Nat) : State :=
  let l := (s.tmPort p).paths
  let mean := openQuotient (l.sum * 15625) (32768 * l.length)
  if 0 ≤ mean && mean < 0xFFFFFFFF then s.setRegN (rTM_PATHp p) mean.toNat
  else (s.setRegN (rTM_PATHp p) (Config.freeValue s.freeIdx).toNat).draw

/-- What a valid exchange on the parent port does, by servo state (R43, R51, R53). -/
def State.tmExchange (s : State) : State :=
  let n := s.fld fTM_CFG_REMEAS_N
  let s := { s with tm := { s.tm with exchanges := s.tm.exchanges + 1 } }
  if s.tmState = tmAcquire then
    if n ≤ s.tm.exchanges && s.modeOpen then s.tmAcquired else s
  else if s.tmState = tmHoldover then
    if n ≤ s.tm.exchanges then ((s.setTmState tmTrack).setQuality qUnverified).tmServo else s
  else if s.tmState = tmTrack then s.tmServo
  else s

/-- The flit names a different root (R44). -/
def State.tmRootDiffers (s : State) (f : TimeFlit) : Bool :=
  s.tm.rootKnown && f.rootId.toNat != s.fld fTM_ROOT_ROOT_ID

/-- A TIME flit received on port p with the device's receive stamp (R44, R46, R47). -/
def State.tmReceive (s : State) (p : Nat) (f : TimeFlit) (rx : BitVec 80) : State :=
  let r := s.tmPort p
  let s := s.setTmPort p { r with rxSeq := f.tseq, rxStamp := rx }
  if s.tmRootDiffers f then
    ((s.setFlag fTM_ROOT_ROOT_MISMATCH true).raise 0x0B04).icPend 19
  else
    let parent := s.tmParentIs p
    let s := if parent && s.tmState ≠ tmIdle then
        let s := s.setFld fTM_ROOT_ROOT_ID f.rootId.toNat
        let s := { s with tm := { s.tm with rootKnown := true } }
        s.setFld fTM_STATUS_HOPS (min 63 (f.hops.toNat + 1))
      else s
    match exchangeOf r f rx with
    | none => if parent then s.incSat fTM_COUNT_FLIT_LOST else s
    | some (a, b) =>
      let r' := s.tmPort p
      let s := s.setTmPort p { r' with prev := some (a, b), paths := ((a + b) :: r'.paths).take 64 }
      let s := s.tmReportPath p
      if parent then
        let asym := s.fldS (fTM_ASYMp_i_ASYM p (s.laneMask p))
        let s := { s with tm := { s.tm with theta := (a - b) * 15625 - asym * 16384 } }
        s.tmExchange
      else s

/-! ### Loss and return of the reference; entry into a mode -/

/-- What loss of the reference does in the time unit (R41). -/
def State.tmRefLost (s : State) : State :=
  let s := s.setFlag fTM_STATUS_REF_LOCK false
  let s := s.setFld fPM_CLK_STATUS_LOCKED (putBit (putBit (s.fld fPM_CLK_STATUS_LOCKED) 1 false) 2 false)
  let s := s.raise 0x0B01
  let s := s.icPend 22
  s.tmToIdle

/-- The reference returns (R41): a child enters ACQUIRE, a root stays IDLE. -/
def State.tmRefBack (s : State) : State :=
  let was := s.flag fTM_STATUS_REF_LOCK
  let s := s.setFlag fTM_STATUS_REF_LOCK true
  let s := s.setFld fPM_CLK_STATUS_LOCKED
    (putBit (putBit (s.fld fPM_CLK_STATUS_LOCKED) 1 true) 2 (s.pdOn 7))
  if !was && s.tm.enabled && !s.flag fTM_CTRL_ROLE then s.tmStartChild else s

/-- What the time unit does when the device has entered a mode (R41, R43, R51). -/
def State.tmModeEntered (s : State) : State :=
  let s :=
    if s.mode = modeReady && s.flag fTM_STATUS_STEP_DEFERRED then
      s.tmStep (stepOfFs (s.fldS fTM_DEFERRED_AMOUNT))
    else s
  if !s.modeOpen || !s.tm.enabled then s
  else if s.tmState = tmAcquire && s.fld fTM_CFG_REMEAS_N ≤ s.tm.exchanges then s.tmAcquired
  else if s.tmState = tmIdle && s.flag fTM_CTRL_ROLE && s.flag fTM_STATUS_REF_LOCK then s.tmStartRoot
  else s

/-- The time unit loses its state: PD7 off, or a reset of the unit (R417, R421). -/
def State.tmReset (s : State) : State :=
  let lock := s.flag fTM_STATUS_REF_LOCK
  let s := s.resetRegs 0x2500000 0x2600000
  let s := s.setFlag fTM_STATUS_REF_LOCK lock
  let s := { s with tm := {}, tmPorts := [], tpos := [], ppsStage := [] }
  ((s.icLevel 16 false).icLevel 17 false).icLevel 20 false

/-! ### PPS capture -/

/-- The capture FIFO takes a content; its occupancy is TM_PPS_CFG.COUNT and host source 20. -/
def State.setPpsFifo (s : State) (l : List (BitVec 80)) : State :=
  let s := { s with tm := { s.tm with ppsFifo := l } }
  let s := s.setFld fTM_PPS_CFG_COUNT l.length
  s.icLevel 20 (l != [])

/-- An edge at PPS_IN (R58). -/
def State.ppsEdge (s : State) (falling : Bool) (stamp : BitVec 80) : State :=
  let tooClose : Bool := match s.tm.lastPps with
    | none => false
    | some t => (stamp - t).toNat < 64 * 65536
  if !s.flag fTM_PPS_CFG_EN || s.flag fTM_PPS_CFG_EDGE != falling || s.tmState = tmIdle || tooClose then s
  else if 4 ≤ s.tm.ppsFifo.length then s.setFlag fTM_PPS_CFG_OVERRUN true
  else
    let s := { s with tm := { s.tm with lastPps := some stamp } }
    let s := s.setPpsFifo (s.tm.ppsFifo ++ [stamp &&& ~~~(0x3FF#80)])
    s.fire 0x310

/-- The companion latch of a path for an offset (R429). -/
def State.latched (s : State) (p : Path) (off : Nat) : Word := SMap.get (fun _ => 0) s.latches (Path.idx p * 2 ^ 26 + off)
def State.setLatch (s : State) (p : Path) (off : Nat) (v : Word) : State :=
  { s with latches := SMap.set (fun _ => 0) s.latches (Path.idx p * 2 ^ 26 + off) v }

/-- A companion that is a register of its own besides: the latch serves the next read of the path only; the entry at the
next offset says that it stands. -/
def State.setLatchOnce (s : State) (p : Path) (off : Nat) (v : Word) : State := (s.setLatch p off v).setLatch p (off + 1) 1

def State.ppsProgress (s : State) (p : Path) : Nat := SMap.get (fun _ => 0) s.ppsStage (Path.idx p)
def State.setPpsProgress (s : State) (p : Path) (n : Nat) : State :=
  { s with ppsStage := SMap.set (fun _ => 0) s.ppsStage (Path.idx p) n }

/-- A read of TM_PPS_L, _M or _H (R59): the value and the state after. -/
def State.ppsRead (s : State) (p : Path) (word : Nat) : State × Word :=
  if word = 0 then
    match s.tm.ppsFifo with
    | [] => (((s.setLatch p rTM_PPS_M 0).setLatch p rTM_PPS_H 0).setPpsProgress p 0, 0)
    | h :: _ =>
      let s := s.setLatch p rTM_PPS_M (h.extractLsb' 32 32)
      let s := s.setLatch p rTM_PPS_H ((h.extractLsb' 64 16).setWidth 32 ||| 0x80000000)
      (s.setPpsProgress p 1, h.extractLsb' 0 32)
  else if word = 1 then
    (s.setPpsProgress p (if s.ppsProgress p = 1 then 2 else 0), s.latched p rTM_PPS_M)
  else
    let v := s.latched p rTM_PPS_H
    if s.ppsProgress p = 2 then (({ s with ppsStage := [] }).setPpsFifo s.tm.ppsFifo.tail, v)
    else (s.setPpsProgress p 0, v)

/-! ### Time pulse outputs -/

def State.tpoStart (s : State) (n : Nat) : Nat := s.reg64 (rTM_TPOn_START_L n)
def State.tpoPeriod (s : State) (n : Nat) : Nat := s.reg64 (rTM_TPOn_PERIOD_L n)

/-- The enable check of a TPO output (R61, R63). -/
def State.tpoCheck (s : State) (n : Nat) : List Failure :=
  failIf (s.regN (rTM_TPOn_WIDTH n) < 16 ||
    (s.tpoPeriod n != 0 && (s.tpoPeriod n < 32 || s.tpoPeriod n ≤ s.regN (rTM_TPOn_WIDTH n)))) 0x07 ++
  failIf (s.tmState = tmIdle) 0x08

/-- A write of TM_TPOn_CTRL (R60, R61). -/
def State.tpoCtrlWrite (s : State) (n : Nat) (v : Word) : State :=
  let s := if (s.tpo n).enabled then s else s.setFld (fTM_TPOn_CTRL_POL n) (fieldOf v 1 1)
  let s := s.setFlag (fTM_TPOn_CTRL_EN n) (v.getLsbD 0)
  if !v.getLsbD 0 then
    (s.setTpo n { s.tpo n with enabled := false }).setFlag (fTM_TPOn_STATUS_ACTIVE n) false
  else if (s.tpo n).enabled then s
  else
    match worstFailure (s.tpoCheck n) with
    | some (r, _) =>
      let s := s.setFlag (fTM_TPOn_STATUS_REFUSED n) true
      let s := s.setFld (fTM_TPOn_STATUS_REASON n) r
      s.reportRefused uTM r 0
    | none =>
      let s := s.setFlag (fTM_TPOn_STATUS_REFUSED n) false
      let s := s.setFld (fTM_TPOn_STATUS_REASON n) 0
      let s := s.reportAccepted uTM
      let s := s.setTpo n { s.tpo n with enabled := true, tEn := s.now, fired := false }
      let s := s.setFlag (fTM_TPOn_STATUS_ACTIVE n) true
      if s.tpoPeriod n = 0 && s.tpoStart n < s.now + 512 then
        (s.setFlag (fTM_TPOn_STATUS_MISSED n) true).icPend 21
      else s

/-- Is the present tick a pulse time of output n (R60, R62)? -/
def State.tpoDue (s : State) (n : Nat) : Bool :=
  let t := s.tpo n
  t.enabled && s.flag (fTM_TPOn_STATUS_ACTIVE n) && s.tmState != tmIdle && t.tEn + 512 ≤ s.now &&
    (if s.tpoPeriod n = 0 then s.now == s.tpoStart n && !t.fired
     else s.tpoStart n ≤ s.now && (s.now - s.tpoStart n) % s.tpoPeriod n == 0)

/-- A pulse starts (R60): it lasts WIDTH ticks and fires TPO_k. -/
def State.tpoPulse (s : State) (n : Nat) : State :=
  if s.tpoDue n then
    let s := s.setTpo n { s.tpo n with fired := true, pulseEnd := s.now + s.regN (rTM_TPOn_WIDTH n) }
    let s := if s.tpoPeriod n = 0 then s.setFlag (fTM_TPOn_STATUS_ACTIVE n) false else s
    s.fire (0x318 + n)
  else s

/-- The level of ball TPO[n]: active while a pulse lasts, at the polarity of POL. -/
def State.tpoLevel (s : State) (n : Nat) : Bool :=
  xor (s.flag (fTM_TPOn_CTRL_POL n)) (s.now < (s.tpo n).pulseEnd)

/-- One tick of fabric time, while the time unit keeps it; a missed one-shot ends once its time has passed. -/
def State.tick (s : State) : State :=
  if s.tmState = tmIdle then s
  else
    let s := { s with tm := { s.tm with ft := s.tm.ft + BitVec.ofNat 80 65536 } }
    forRange 8 (fun n t =>
      if t.flag (fTM_TPOn_STATUS_ACTIVE n) && t.tpoPeriod n == 0 && t.tpoStart n < t.now then
        t.setFlag (fTM_TPOn_STATUS_ACTIVE n) false
      else t) s

/-! ### The commands -/

/-- TM_ENABLE. -/
def execTmEnable (p : Path) (v : Word) (s : State) : Result :=
  done (s.viaBus p rTM_CTRL (·.tmCtrlWrite (v ||| 1)))

/-- TM_DISABLE. -/
def execTmDisable (p : Path) (s : State) : Result :=
  done (s.viaBus p rTM_CTRL (fun t => t.tmCtrlWrite (t.reg rTM_CTRL &&& ~~~1#32)))

/-- PARENT_PORT_WRITE. -/
def execParentPortWrite (p : Path) (port : Fin 8) (s : State) : Result :=
  done (s.viaBus p rTM_CTRL (fun t => t.tmCtrlWrite (putField (t.reg rTM_CTRL) 6 4 port.val)))

/-- ASYM_ACK. -/
def execAsymAck (p : Path) (s : State) : Result :=
  done (s.viaBus p rTM_CTRL (fun t => t.tmCtrlWrite (t.reg rTM_CTRL ||| 0x100)))

/-- ASYM_WRITE. -/
def execAsymWrite (p : Path) (q : Fin 8) (i : Fin 16) (v : Word) (s : State) : Result :=
  done (s.viaBus p (rTM_ASYMp_i q.val i.val) (·.asymWrite q.val i.val v))

/-- TIME_FLIT_DUE: the transmit stamps of the eight ports; a port that is not ACTIVE sends nothing. -/
def execTimeFlitDue (stamps : Vector (BitVec 80) 8) (s : State) : Result :=
  done (forRange 8 (fun p t => if t.portActive p then t.tmSendFlit p (stamps.toList.getD p 0) else t) s)

/-- TIME. -/
def execTime (q : Fin 8) (f : TimeFlit) (rx : BitVec 80) (s : State) : Result :=
  done (if s.portActive q.val && s.pdOn 7 then s.tmReceive q.val f rx else s)

/-- LOSS_TIMEOUT. -/
def execLossTimeout (s : State) : Result := done s.tmReroute

/-- PPS_EDGE. -/
def execPpsEdge (falling : Bool) (stamp : BitVec 80) (s : State) : Result := done (s.ppsEdge falling stamp)

/-- TPO_ENABLE. -/
def execTpoEnable (p : Path) (n : Fin 8) (v : Word) (s : State) : Result :=
  done (s.viaBus p (rTM_TPOn_CTRL n.val) (·.tpoCtrlWrite n.val (v ||| 1)))

/-- TPO_DISABLE. -/
def execTpoDisable (p : Path) (n : Fin 8) (s : State) : Result :=
  done (s.viaBus p (rTM_TPOn_CTRL n.val) (fun t => t.tpoCtrlWrite n.val (t.reg (rTM_TPOn_CTRL n.val) &&& ~~~1#32)))

/-- TPO_PULSE. -/
def execTpoPulse (n : Fin 8) (s : State) : Result := done (s.tpoPulse n.val)

end Sys2Proof.Machine
end

