-- ==== Sys2Proof/Machine/Dipwell.lean ====
section
/-!
DEFINITION. Dipwell: conversions and their arbitration, scans, delayed and injected conversions, supervision, cross-checks and
accumulators (chapter "Sluice bias outputs and Dipwell monitors", R372 to R386).
-/
namespace Sys2Proof.Machine

/-- Is the control store of unit u loaded, and the unit neither halted nor reloading (R393, R399, R400)? -/
def State.csReady (s : State) (u : Nat) : Bool :=
  s.flag (fSEC_CSu_STATUS_LOADED u) && !s.flag (fSEC_CSu_STATUS_HALTED u) && !s.flag (fSEC_CSu_STATUS_RELOADING u)

/-- Does Dipwell work: enabled, powered, its sequencer loaded (R380, R383)? -/
def State.dpwRuns (s : State) : Bool := s.flag fDPW_STATUS_ENABLED && s.pdOn 9 && s.csReady 10

/-! ### Inputs and accumulators (R372 to R374) -/

/-- Is input 312 + 2k differential? -/
def State.auxDiff (s : State) (k : Nat) : Bool := bitOf (s.fld fDPW_AUX_CFG_DIFF) k

/-- Is an input unavailable, or no input at all? -/
def State.inputOff (s : State) (i : Nat) : Bool :=
  319 < i || (312 < i && i % 2 == 1 && s.auxDiff ((i - 312) / 2))

/-- Is the format of an input signed? -/
def State.inputSigned (s : State) (i : Nat) : Bool := i < 312 || (i % 2 == 0 && s.auxDiff ((i - 312) / 2))

/-- A reading of an input as a number. -/
def State.reading (s : State) (i : Nat) (d : BitVec 16) : Int := if s.inputSigned i then d.toInt else d.toNat

/-- The sum of an input's conversions. -/
def State.accSum (s : State) (i : Nat) : Nat :=
  s.regN (rDPW_ACC_i_SUM_L i) + 2 ^ 32 * s.fld (fDPW_ACC_i_SUM_H_SUM i)

/-- A conversion of an input is added to its accumulators; MIN and MAX are held as the 16-bit value. -/
def State.addConversion (s : State) (i : Nat) (d : BitVec 16) : State :=
  let v := s.reading i d
  let n := s.regN (rDPW_ACC_i_COUNT i)
  let lo := s.reading i (BitVec.ofNat 16 (s.regN (rDPW_ACC_i_MIN i)))
  let hi := s.reading i (BitVec.ofNat 16 (s.regN (rDPW_ACC_i_MAX i)))
  let s := if n = 0 || v < lo then s.setRegN (rDPW_ACC_i_MIN i) d.toNat else s
  let s := if n = 0 || hi < v then s.setRegN (rDPW_ACC_i_MAX i) d.toNat else s
  if n = 0xFFFFFFFF then s
  else
    let sum := unsigned 48 (s.accSum i + v)
    let s := s.setRegN (rDPW_ACC_i_SUM_L i) sum
    let s := s.setFld (fDPW_ACC_i_SUM_H_SUM i) (sum / 2 ^ 32)
    s.setRegN (rDPW_ACC_i_COUNT i) (n + 1)

/-- MIN or MAX as ALIGN presents it; 0 while COUNT is 0. -/
def State.extreme (s : State) (i off : Nat) : Word :=
  let d : BitVec 16 := BitVec.ofNat 16 (s.regN off)
  if s.regN (rDPW_ACC_i_COUNT i) = 0 then 0
  else if s.flag (fDPW_ACC_i_CFG_ALIGN i) then BitVec.ofInt 32 (s.reading i d)
  else BitVec.ofNat 32 (d.toNat * 2 ^ 16)

/-- The accumulators of an input clear. -/
def State.dpwAccClear (s : State) (i : Nat) : State :=
  ((((s.setReg (rDPW_ACC_i_SUM_L i) 0).setReg (rDPW_ACC_i_SUM_H i) 0).setReg (rDPW_ACC_i_COUNT i) 0).setReg
    (rDPW_ACC_i_MIN i) 0).setReg (rDPW_ACC_i_MAX i) 0

/-- A read of SUM_L: the companions are latched for the path, and the accumulators clear where CLR_ON_READ says so. -/
def State.sumRead (s : State) (p : Path) (i : Nat) : State × Word :=
  let v := s.reg (rDPW_ACC_i_SUM_L i)
  let s := s.setLatch p (rDPW_ACC_i_SUM_H i) (s.reg (rDPW_ACC_i_SUM_H i))
  let s := s.setLatchOnce p (rDPW_ACC_i_COUNT i) (s.reg (rDPW_ACC_i_COUNT i))
  let s := s.setLatchOnce p (rDPW_ACC_i_MIN i) (s.extreme i (rDPW_ACC_i_MIN i))
  let s := s.setLatchOnce p (rDPW_ACC_i_MAX i) (s.extreme i (rDPW_ACC_i_MAX i))
  (if s.flag (fDPW_ACC_i_CFG_CLR_ON_READ i) then s.dpwAccClear i else s, v)

/-! ### Supervision (R380) -/

/-- Is a channel supervised: driven, and neither closing, ranging nor zeroing? -/
def State.supervised (s : State) (c : Nat) : Bool :=
  s.chLive c && (s.chState c == chConnected || s.chState c == chFaulted)

/-- The next of the channels a test names, in ascending rotation after the last one. -/
def nextChannel (last : Option Nat) (p : Nat → Bool) : Option Nat :=
  let from_ := match last with
    | some c => c + 1
    | none => 0
  match (List.range 256).find? (fun c => from_ ≤ c && p c) with
  | some c => some c
  | none => (List.range 256).find? p

/-- The channel that converter k supervises next; it takes over every channel while the other one calibrates (R379). -/
def State.supNext (s : State) (k : Nat) : Option Nat :=
  nextChannel (s.conv k).sup (fun c => s.supervised c && (c % 2 == k || (s.conv (1 - k)).cal))

/-- The output code of a channel as it stood SUP_LAG µs ago. -/
def State.laggedCode (s : State) (c : Nat) : Int :=
  let lag := 2 * s.fld fSLU_SUP_CFG_SUP_LAG
  let past := (s.sluCh c).past
  match past.find? (fun e => e.1 + lag ≤ s.dpw.slots) with
  | some e => e.2
  | none => if past.isEmpty then s.chOut c else 0

/-- A supervision conversion of channel c. -/
def State.supervise (s : State) (c : Nat) (d : BitVec 16) : State :=
  let e := s.laggedCode c / 4
  if (d.toInt - e).natAbs ≤ s.fld fSLU_SUP_CFG_SUP_TOL then s.setSluCh c { s.sluCh c with misses := 0 }
  else
    let s := s.incSat (fSLU_CHc_COUNT_MISMATCH c)
    let m := (s.sluCh c).misses + 1
    if max 1 (s.fld fSLU_SUP_CFG_SUP_CONSEC) ≤ m then
      (s.setSluCh c { s.sluCh c with misses := 0 }).channelFault c 0x0C01
    else s.setSluCh c { s.sluCh c with misses := m }

/-! ### A slot (R375 to R382) -/

/-- The item that a converter starts in a slot. -/
inductive SlotItem
  | injected (i : Nat)
  | delayed (i : Nat)
  | supervision (c : Nat)
  | scan (e r : Nat)
  | none
  deriving DecidableEq, Repr

/-- The first item that is due, cross-checks apart. -/
def State.slotItem (s : State) (k : Nat) : SlotItem :=
  let v := s.conv k
  match v.inj with
  | some i => .injected i
  | none =>
    if v.cal then .none
    else if v.dlyDue then .delayed (s.fld (fDPW_Cc_DLY_CFG_INPUT k))
    else
      match (if 0 < v.credit then s.supNext k else Option.none), v.scan with
      | some c, _ => .supervision c
      | Option.none, some (e, r) => .scan e r
      | Option.none, Option.none => .none

/-- Is a cross-check step possible: nothing before it in the order, on either converter? -/
def State.xchkFree (s : State) : Bool :=
  (List.range 2).all (fun k => (s.conv k).inj.isNone && !(s.conv k).cal && !(s.conv k).dlyDue)

/-- A converter converts its item. -/
def State.convert (s : State) (k : Nat) (d : BitVec 16) : State :=
  let v := s.conv k
  match s.slotItem k with
  | .injected i => ((s.addConversion i d).setConv k { v with inj := none }).setFlag (fDPW_Cc_INJ_PENDING k) false
  | .delayed i =>
    let s := s.addConversion i d
    let left := v.dly.getD 1 - 1
    if left = 0 then (s.setConv k { v with dly := none, dlyDue := false }).fire (0x368 + k)
    else s.setConv k { v with dly := some left }
  | .supervision c =>
    ((s.addConversion c d).setConv k { v with credit := v.credit - 1, sup := some c }).supervise c d
  | .scan e r =>
    let s := s.addConversion (s.fld (fDPW_Cc_SCAN_e_INPUT k e)) d
    if r < s.fld (fDPW_Cc_SCAN_e_REP k e) then s.setConv k { v with scan := some (e, r + 1) }
    else if e + 1 < s.fld (fDPW_Cc_SCAN_CFG_NENT k) then s.setConv k { v with scan := some (e + 1, 0) }
    else s.setConv k { v with scan := none }
  | .none => s

/-- The verdict of a cross-check (R382). -/
def State.xchkVerdict (s : State) (ref : Int × Int) (chan : Option (Int × Int)) : State :=
  let tol := s.fld fDPW_XCHK_CFG_XCHK_TOL
  let nominal := s.fldS fDPW_XCHK_REF_CODE
  let far (a b : Int) : Bool := tol < (a - b).natAbs
  let fail := far ref.1 ref.2 || far ref.1 nominal || far ref.2 nominal || (match chan with
    | some (a, b) => far a b
    | none => false)
  let s := { s with dpw := { s.dpw with xchk := false, xref := none } }
  let s := s.setFlag fDPW_STATUS_IMPLAUSIBLE fail
  if fail then
    let s := (s.incSat (fDPW_Cc_COUNT_XCHK_FAIL 0)).incSat (fDPW_Cc_COUNT_XCHK_FAIL 1)
    (s.raise 0x0D01).icPend 52
  else s

/-- A step of the cross-check: REF, then a connected channel. -/
def State.xchkStep (s : State) (d0 d1 : BitVec 16) : State :=
  let next := nextChannel s.dpw.xlast s.supervised
  match s.dpw.xref, next with
  | none, some _ => { s with dpw := { s.dpw with xref := some (d0.toInt, d1.toInt) } }
  | none, none => s.xchkVerdict (d0.toInt, d1.toInt) none
  | some ref, some c =>
    let s := (s.addConversion c d0).addConversion c d1
    ({ s with dpw := { s.dpw with xlast := some c } }).xchkVerdict ref (some (d0.toInt, d1.toInt))
  | some ref, none => s.xchkVerdict ref none

/-- CONVERSION_SLOT: every fourth slot earns a credit, and each converter starts its first due item. -/
def State.conversionSlot (s : State) (d0 d1 : BitVec 16) : State :=
  if !s.pdOn 9 then s
  else
    let s := { s with dpw := { s.dpw with slots := s.dpw.slots + 1 } }
    if !s.dpwRuns then s
    else
      let s :=
        if s.dpw.slots % 4 = 0 then
          forRange 2 (fun k t => t.setConv k { t.conv k with credit := min 4 ((t.conv k).credit + 1) }) s
        else s
      if s.dpw.xchk && s.xchkFree then s.xchkStep d0 d1 else (s.convert 0 d0).convert 1 d1

/-- A scan trigger (R376, R379). -/
def State.scanTrigger (s : State) (k : Nat) : State :=
  let v := s.conv k
  if !s.flag fDPW_STATUS_ENABLED || s.fld (fDPW_Cc_SCAN_CFG_TRIG k) = 0 then s
  else if v.cal then s.incSat (fDPW_Cc_COUNT_OVERRUN k)
  else if v.scan.isSome then (s.incSat (fDPW_Cc_COUNT_OVERRUN k)).raise 0x0D02
  else s.setConv k { v with scan := some (0, 0) }

/-- A write of DPW_Cc_INJ (R378, R379). -/
def State.injWrite (s : State) (k : Nat) (v : Word) : State :=
  let c := s.conv k
  if !v.getLsbD 16 then s
  else if c.inj.isSome || c.cal || s.inputOff (fieldOf v 8 0) then s.incSat (fDPW_Cc_COUNT_INJ_DROP k)
  else (s.setConv k { c with inj := some (fieldOf v 8 0) }).setFlag (fDPW_Cc_INJ_PENDING k) true

/-- A write of DPW_Cc_CAL: DONE clears where 1 is written; START requests calibration (R379). -/
def State.calWrite (s : State) (k : Nat) (v : Word) : State :=
  let s := if v.getLsbD 1 then s.setFlag (fDPW_Cc_CAL_DONE k) false else s
  if !v.getLsbD 0 then s
  else if s.mode ∈ [modeConfig, modeCalibrate, modeReady, modeRun, modeDiag] && !(s.conv 0).cal && !(s.conv 1).cal then
    let s := s.setFlag (fDPW_Cc_CAL_REFUSED k) false
    let s := s.setFld (fDPW_Cc_CAL_REASON k) 0
    let s := s.setFlag (fDPW_Cc_CAL_DONE k) false
    s.setConv k { s.conv k with cal := true }
  else (s.setFlag (fDPW_Cc_CAL_REFUSED k) true).setFld (fDPW_Cc_CAL_REASON k) 0x02

/-! ### The unit (R385) -/

/-- Is an input the read-back of an absent channel? -/
def State.inputAbsent (s : State) (i : Nat) : Bool := i < 256 && !s.poolPresent (i / 16)

/-- The scan entries in use that a test names, as items. -/
def State.scanFails (s : State) (reason : Nat) (bad : Nat → Bool) : List Failure :=
  (List.range 2).flatMap (fun k =>
    match (List.range (min 320 (s.fld (fDPW_Cc_SCAN_CFG_NENT k)))).find? (fun e => bad (s.fld (fDPW_Cc_SCAN_e_INPUT k e))) with
    | some e => [(reason, 0x100 + 0x200 * k + e)]
    | none => [])

/-- Timers that a scan wants and Sluice, or the other converter, has. -/
def State.dpwTimerFails (s : State) : List Failure :=
  let wants (k : Nat) : Option Nat :=
    if s.fld (fDPW_Cc_SCAN_CFG_TRIG k) = 2 then some (s.fld (fDPW_Cc_SCAN_CFG_GT k)) else none
  (List.range 2).flatMap (fun k =>
    match wants k with
    | some g => failIf (s.sluClaims g || (k = 1 && wants 0 == some g)) 0x06 (0x5000 + g)
    | none => [])

/-- The enable check. -/
def State.dpwCheck (s : State) : List Failure :=
  let dly (k : Nat) : Bool := s.fld (fDPW_Cc_DLY_CFG_TRIG k) != 0
  s.scanFails 0x01 s.inputAbsent ++
  failFirst 2 (fun k => dly k && s.inputAbsent (s.fld (fDPW_Cc_DLY_CFG_INPUT k))) 0x01 ++
  failIf (!s.modeOpen) 0x02 ++ failIf (!s.locked 8) 0x03 ++ failIf (!s.csReady 10) 0x09 ++
  s.scanFails 0x07 s.inputOff ++
  failFirst 2 (fun k => (dly k && s.inputOff (s.fld (fDPW_Cc_DLY_CFG_INPUT k))) ||
    s.fld (fDPW_Cc_DLY_CFG_TRIG k) == 3 || s.fld (fDPW_Cc_SCAN_CFG_TRIG k) == 3 ||
    320 < s.fld (fDPW_Cc_SCAN_CFG_NENT k) || s.fld (fDPW_Cc_SCAN_PER_PER k) == 0 ||
    1000000 < s.fld (fDPW_Cc_SCAN_PER_PER k)) 0x07 ++
  failIf (s.fld fDPW_XCHK_CFG_XCHK_INT = 0 || s.fld fDPW_XCHK_CFG_XCHK_TOL = 0) 0x07 ++
  failFirst 2 (fun k => s.fld (fDPW_Cc_SCAN_CFG_TRIG k) != 0 && s.fld (fDPW_Cc_SCAN_CFG_NENT k) == 0) 0xE2 ++
  s.dpwTimerFails

/-- ENABLE set. -/
def State.dpwEnable (s : State) : State :=
  let s := s.setFlag fDPW_CTRL_ENABLE true
  if s.flag fDPW_STATUS_ENABLED then s
  else s.unitOutcome uDPW fDPW_STATUS_ENABLED fDPW_STATUS_REFUSED fDPW_STATUS_REASON (some fDPW_STATUS_ITEM) s.dpwCheck

/-- Everything a converter has in hand ends; the accumulators and registers stay. -/
def State.dpwHalt (s : State) : State :=
  let s := { s with dpw := { s.dpw with convs := [], xchk := false, xref := none } }
  forRange 2 (fun k t => t.setFlag (fDPW_Cc_INJ_PENDING k) false) s

/-- ENABLE cleared: ignored while Sluice is enabled. -/
def State.dpwDisable (s : State) : State :=
  if s.flag fSLU_STATUS_ENABLED then s
  else ((s.setFlag fDPW_CTRL_ENABLE false).setFlag fDPW_STATUS_ENABLED false).dpwHalt

/-- CLR_COUNT. -/
def State.dpwClrCount (s : State) : State := forRange 2 (fun k t => t.setReg (rDPW_Cc_COUNT k) 0) s

/-- A write of DPW_CTRL. -/
def State.dpwCtrlWrite (s : State) (v : Word) : State :=
  let s := if v.getLsbD 1 then s.dpwClrCount else s
  if v.getLsbD 0 then s.dpwEnable else s.dpwDisable

/-- PD9 powers up: registers and accumulators are at reset (R383). -/
def State.dpwReset (s : State) : State := ({ s with dpw := {} }).resetRegs 0x2700000 0x2800000

/-! ### The commands -/

/-- DPW_ENABLE. -/
def execDpwEnable (p : Path) (s : State) : Result := done (s.viaBus p rDPW_CTRL (·.dpwCtrlWrite 1))

/-- DPW_CLR_COUNT: ENABLE is written as it stands. -/
def execDpwClrCount (p : Path) (s : State) : Result := done (s.viaBus p rDPW_CTRL (·.dpwClrCount))

/-- CONVERSION_SLOT. -/
def execConversionSlot (d0 d1 : BitVec 16) (s : State) : Result := done (s.conversionSlot d0 d1)

/-- SCAN_TRIGGER. -/
def execScanTrigger (c : Fin 2) (s : State) : Result := done (s.scanTrigger c.val)

/-- DPW_CONV: the Fen task, where TRIG selects it. -/
def execDpwConv (c : Fin 2) (s : State) : Result :=
  done ((s.takeAct (0x810 + c.val)).when (s.fld (fDPW_Cc_DLY_CFG_TRIG c.val) == 1) (·.dlyTrigger c.val))

/-- DELAYED_CONVERSION_START. -/
def execDelayedConversionStart (c : Fin 2) (s : State) : Result :=
  done (if (s.conv c.val).dly.isSome then s.setConv c.val { s.conv c.val with dlyDue := true } else s)

/-- INJECTED_CONVERSION. -/
def execInjectedConversion (p : Path) (c : Fin 2) (input : BitVec 9) (s : State) : Result :=
  done (s.viaBus p (rDPW_Cc_INJ c.val) (fun s => s.injWrite c.val (BitVec.ofNat 32 (2 ^ 16 + input.toNat))))

/-- DPW_CAL_START. -/
def execDpwCalStart (p : Path) (c : Fin 2) (s : State) : Result :=
  done (s.viaBus p (rDPW_Cc_CAL c.val) (fun s => s.calWrite c.val 1))

/-- DPW_CAL_DONE: once no injected conversion is pending. -/
def execDpwCalDone (c : Fin 2) (s : State) : Result :=
  let v := s.conv c.val
  done (if v.cal && v.inj.isNone then
    (s.setConv c.val { v with cal := false }).setFlag (fDPW_Cc_CAL_DONE c.val) true else s)

/-- XCHK_DUE. -/
def execXchkDue (s : State) : Result :=
  done (if s.dpwRuns then { s with dpw := { s.dpw with xchk := true } } else s)

/-- DPW_ACC_CLR. -/
def execDpwAccClr (p : Path) (i : Fin 320) (s : State) : Result :=
  done (s.viaBus p (rDPW_ACC_i_CLR i.val) (·.dpwAccClear i.val))

end Sys2Proof.Machine
end

