-- ==== Sys2Proof/Machine/Causeway.lean ====
section
/-!
DEFINITION. Causeway ports and what they receive (chapter "Causeway links and multi-device systems", R281 to R317), but for
the remote accesses, which need the register map. What a port sends is in Link.
-/
namespace Sys2Proof.Machine

/-! ### Training states (R286) -/

def cwDisabled : Nat := 0
def cwDetect : Nat := 1
def cwEq : Nat := 2
def cwDeskew : Nat := 3
def cwConfig : Nat := 4
def cwActive : Nat := 5
def cwRetrain : Nat := 6
def cwFailed : Nat := 7

def State.cwState (s : State) (p : Nat) : Nat := s.fld (fCW_Pp_STATUS_STATE p)

/-- The condition of host source 32 + p: the port is down or FAILED. -/
def State.cwPortLevel (s : State) (p : Nat) : State :=
  s.icLevel (32 + p) (s.flag (fCW_Pp_STATUS_DOWN p) || s.cwState p == cwFailed)

/-- A port takes a training state. -/
def State.setCwState (s : State) (p st : Nat) : State := (s.setFld (fCW_Pp_STATUS_STATE p) st).cwPortLevel p

/-- A port begins to train from a state: nothing is known of its lanes. -/
def State.cwTrain (s : State) (p st : Nat) : State :=
  (s.setCwPort p { s.cwPort p with lanesSeen := 0, partnerLanes := 0, good := 0 }).setCwState p st

/-- A port in ACTIVE enters RETRAIN (R290). -/
def State.cwToRetrain (s : State) (p : Nat) : State :=
  if s.cwState p = cwActive then
    let s := s.cwTrain p cwRetrain
    let s := s.cwFault 0x0902
    (s.incSat (fCW_Pp_COUNT_B_RETRAIN p)).tmLinkEvent p
  else s

/-- The port leaves ACTIVE without a retrain: a re-route when it is the time parent (R53). -/
def State.cwLost (s : State) (p : Nat) : State := if s.cwState p = cwActive then s.tmLinkEvent p else s

/-- A duplicate node ID has been seen on a port (R289). -/
def State.cwDuplicate (s : State) (p : Nat) : State :=
  let s := s.cwLost p
  let s := (s.setFlag fCW_STATUS_DUP_SEEN true).setCwState p cwFailed
  (s.cwFault 0x0905).icLevel 44 true

/-- The mask chosen of usable lanes (R285). -/
def laneChoice (usable : Nat) : Nat :=
  if usable = 15 then 15
  else
    let l := (List.range 4).filter (bitOf usable)
    ((l.take 2).map (2 ^ ·)).sum

/-- The usable lanes of a port: seen here, allowed here and usable at the partner. -/
def State.cwUsable (s : State) (p : Nat) : Nat :=
  (s.cwPort p).lanesSeen &&& (s.cwPort p).partnerLanes &&& s.fld (fCW_Pp_CFG_LANE_EN p)

/-- The port becomes ACTIVE on a mask: the bucket is full (R296). -/
def State.cwBecomeActive (s : State) (p mask : Nat) : State :=
  let s := s.setFld (fCW_Pp_STATUS_LANES p) mask
  let s := s.setFlag (fCW_Pp_STATUS_DEGRADED p) (mask != 15)
  let s := s.setFlag (fCW_Pp_STATUS_DOWN p) false
  let s := s.setFld (fCW_Pp_POL_TOKENS p) (s.fld (fCW_Pp_POL_DEPTH p))
  let s := s.setCwPort p { s.cwPort p with rst := false, good := 0, alignDue := false }
  (((s.setCwState p cwActive).pumpC0 p).pump p)

/-- A valid TS word in CONFIG: the partner's identity, its RST, and agreement on the mask (R286, R287, R289). -/
def State.cwConfigWord (s : State) (p : Nat) (w : BitVec 64) (ready : Bool) : State :=
  let s := s.setFld (fCW_Pp_PARTNER_NODE_ID p) (sliceNat w 38 25)
  let s := s.setFld (fCW_Pp_PARTNER_PORT p) (sliceNat w 41 39)
  let s := s.setFld (fCW_Pp_PARTNER_STRAP p) (sliceNat w 45 42)
  let s := s.setFlag (fCW_Pp_PARTNER_VALID p) true
  if s.flag fCW_CTRL_ENABLE && w.getLsbD 46 && sliceNat w 38 25 == s.nodeId then s.cwDuplicate p
  else
    let s := if w.getLsbD 47 then s.retryReset p else s
    let mask := laneChoice (s.cwUsable p)
    let good := if mask != 0 && sliceNat w 24 21 == mask then (s.cwPort p).good + 1 else 0
    let s := s.setCwPort p { s.cwPort p with good := good }
    if 16 ≤ good && ready then s.cwBecomeActive p mask else s

/-- TS_WORD: a received TS word; `ready` says that the port's own work in its training state is done. -/
def State.tsWord (s : State) (p : Nat) (w : BitVec 64) (ready : Bool) : State :=
  if !s.portPowered p || !tsValid w then s
  else
    let their := sliceNat w 18 16
    let st := s.cwState p
    let r := s.cwPort p
    let s := if st ∈ [cwDetect, cwEq, cwDeskew, cwConfig, cwRetrain] then
        s.setCwPort p { r with
          lanesSeen := if st = cwDeskew then r.lanesSeen ||| 2 ^ sliceNat w 20 19 else r.lanesSeen
          partnerLanes := if their < cwConfig then sliceNat w 24 21 else r.partnerLanes }
      else s
    if st = cwDetect || st = cwRetrain then (if ready then s.setCwState p cwEq else s)
    else if st = cwEq then (if ready then s.setCwState p cwDeskew else s)
    else if st = cwDeskew then (if ready then s.setCwState p cwConfig else s)
    else if st = cwConfig then (if their = cwConfig then s.cwConfigWord p w ready else s)
    else if st = cwActive && their != cwConfig then s.cwToRetrain p
    else s

/-- The TS word that a port sends on a logical lane, before inversion; `eq` is its requested preset (R287). -/
def State.tsSent (s : State) (p lane eq : Nat) : BitVec 64 :=
  let st := s.cwState p
  let mask := if st = cwConfig then laneChoice (s.cwUsable p) else (s.cwPort p).lanesSeen
  let body := BitVec.ofNat 64 (packBits [(16, 0xC35A), (3, st), (2, lane), (4, mask), (14, s.nodeId), (3, p),
    (4, s.fld fCW_NODE_STRAP), (1, bit (s.flag fCW_CTRL_ENABLE)), (1, bit (s.cwPort p).rst), (4, eq), (4, 0)])
  BitVec.ofNat 64 (body.toNat + 2 ^ 56 * tsCheck body)

/-- TRAIN_TIMEOUT: training did not reach ACTIVE within TRAIN_TO. -/
def State.trainTimeout (s : State) (p : Nat) : State :=
  if s.cwState p ∈ [cwDetect, cwEq, cwDeskew, cwConfig, cwRetrain] then s.setCwState p cwFailed else s

/-- TRAIN_RETRY: with AUTO, a FAILED port tries again from DETECT. -/
def State.trainRetry (s : State) (p : Nat) : State :=
  if s.cwState p = cwFailed && s.flag (fCW_Pp_CFG_AUTO p) then s.cwTrain p cwDetect else s

/-- LANE_LOSS: a lane in use loses its clock recovery or its marker. -/
def State.laneLoss (s : State) (p lane : Nat) : State :=
  if bitOf (s.fld (fCW_Pp_STATUS_LANES p)) lane then s.cwToRetrain p else s

/-- PORT_DOWN: an enabled port has not been ACTIVE for DOWN_TIME. -/
def State.portDown (s : State) (p : Nat) : State :=
  if s.cwState p = cwDisabled || s.cwState p = cwActive then s
  else
    let s := s.setFlag (fCW_Pp_STATUS_DOWN p) true
    let s := s.cwFault 0x0901
    let s := s.retryReset p
    (s.tmLinkEvent p).cwPortLevel p

/-! ### Port control (R315, R316) -/

/-- Is the lane map a permutation (R288)? -/
def State.laneMapOk (s : State) (p : Nat) : Bool :=
  let m := s.fld (fCW_Pp_LANEMAP_TX_MAP p)
  (List.range 4).all (fun k => (List.range 4).any (fun l => bitsOf m (2 * l + 1) (2 * l) == k))

/-- The check of a port. -/
def State.portCheck (s : State) (p : Nat) : List Failure :=
  failIf (!s.portPresent p) 0x01 p ++ failIf (!s.modeOpen) 0x02 p ++ failIf (!s.locked 5 || !s.locked 6) 0x03 p ++
  failIf (!s.csReady (1 + p)) 0x09 p ++
  failIf (s.fld (fCW_Pp_CFG_LANE_EN p) = 0 || s.fld (fCW_Pp_CFG_TRAIN_TO p) = 0 || s.fld (fCW_Pp_CFG_DOWN_TIME p) = 0)
    0x07 p ++
  failIf (!s.laneMapOk p) 0xA0 p ++ failIf (s.flag fCW_STATUS_DUP_SEEN) 0xA1 p

/-- CW_Pp_CTRL.ENABLE set: the check, and training starts. -/
def State.portEnable (s : State) (p : Nat) : State :=
  let s := s.setFlag (fCW_Pp_CTRL_ENABLE p) true
  if s.cwState p != cwDisabled then s
  else
    match worstFailure (s.portCheck p) with
    | some (r, item) =>
      let s := s.setFlag (fCW_Pp_STATUS_REFUSED p) true
      let s := s.setFld (fCW_Pp_STATUS_REASON p) r
      let s := s.setFld fCW_STATUS_ITEM item
      s.reportRefused uCW r item
    | none =>
      let s := s.setFlag (fCW_Pp_STATUS_REFUSED p) false
      let s := s.setFld (fCW_Pp_STATUS_REASON p) 0
      (s.reportAccepted uCW).cwTrain p cwDetect

/-- The port's queues are discarded. -/
def State.cwDropQueues (s : State) (p : Nat) : State :=
  s.setCwPort p { s.cwPort p with
    c0 := [], c0Waited := false, timeWait := none, alignDue := false, queue := [], packet := none, beacon := none }

/-- The port stops: electrical idle, with its retry state discarded (R305). -/
def State.portStop (s : State) (p : Nat) : State :=
  if s.cwState p = cwDisabled then s
  else
    let s := s.cwLost p
    let s := (s.retryReset p).cwDropQueues p
    let s := s.setFld (fCW_Pp_STATUS_LANES p) 0
    let s := s.setFlag (fCW_Pp_STATUS_DEGRADED p) false
    let s := s.setFlag (fCW_Pp_STATUS_DOWN p) false
    s.cwTrain p cwDisabled

/-- CW_Pp_CTRL.ENABLE cleared. -/
def State.portDisable (s : State) (p : Nat) : State := (s.setFlag (fCW_Pp_CTRL_ENABLE p) false).portStop p

/-- RESET of a port: queues, retry state and counters go, and training starts again from DETECT. -/
def State.portReset (s : State) (p : Nat) : State :=
  let on := s.cwState p != cwDisabled
  let s := s.portStop p
  let s := ((s.setReg (rCW_Pp_COUNT_A p) 0).setReg (rCW_Pp_COUNT_B p) 0).setReg (rCW_Pp_COUNT_C p) 0
  s.when on (·.cwTrain p cwDetect)

/-- The Causeway unit reset acts as RESET on every port. -/
def State.cwReset (s : State) : State := forRange s.part.ports (fun p t => t.portReset p) s

/-- A write of CW_Pp_CTRL. -/
def State.cwPortCtrlWrite (s : State) (p : Nat) (v : Word) : State :=
  let s := if s.flag fCW_STATUS_ENABLED then s else s.setFlag (fCW_Pp_CTRL_LOOPBACK p) (v.getLsbD 3)
  let s := if v.getLsbD 1 then s.portReset p else s
  let s := if v.getLsbD 0 then s.portEnable p else s.portDisable p
  if v.getLsbD 2 then s.cwToRetrain p else s

/-- Every port is disabled, with its ENABLE cleared (R414, R417). -/
def State.cwDisableAll (s : State) : State := forRange s.part.ports (fun p t => t.portDisable p) s

/-! ### The unit's check (R316) -/

/-- The dimensions in use. -/
def State.dimsUsed (s : State) : List Nat := (List.range 3).filter (fun d => s.flag (fCW_DIM_d_BITS d))

/-- The ports of the dimensions in use. -/
def State.dimPorts (s : State) : List Nat :=
  s.dimsUsed.flatMap (fun d => [s.fld (fCW_DIM_d_PLUS_PORT d), s.fld (fCW_DIM_d_MINUS_PORT d)])

/-- A list holds a value twice. -/
def twice : List Nat → Bool
  | [] => false
  | a :: l => l.contains a || twice l

/-- Are the routing dimensions invalid (REASON 0xA3)? -/
def State.routingBad (s : State) : Bool :=
  14 < s.dimShift 3 || twice s.dimPorts ||
    (List.range 3).any (fun d =>
      s.fld (fCW_DIM_d_SIZE d) == 0 || 2 ^ s.fld (fCW_DIM_d_BITS d) < s.fld (fCW_DIM_d_SIZE d) ||
        s.fld (fCW_DIM_d_SIZE d) ≤ s.coord s.nodeId d ||
        (s.flag (fCW_DIM_d_WRAP d) && s.fld (fCW_DIM_d_SIZE d) ≤ 2))

/-- Is import entry j enabled with a source node? -/
def State.impFrom (s : State) (j src : Nat) : Bool :=
  s.flag (fCW_IMP_j_EN j) && s.fld (fCW_IMP_j_SRC j) == src

/-- The tracked sources of R300. -/
def State.trackedSources (s : State) : List Nat :=
  distinct (((List.range 512).filter (fun j => s.flag (fCW_IMP_j_EN j))).map (fun j => s.fld (fCW_IMP_j_SRC j)) ++
    (if s.part.sedge && s.flag fSDG_CTRL_ENABLE then s.sdgNeighbours.map (·.2) else []))

/-- The import entry that names the 65th tracked source, where there are too many. -/
def State.sourceItem (s : State) : Nat :=
  match (List.range 512).find? (fun j => s.impFrom j (s.trackedSources.getD 64 0)) with
  | some j => 0x100 + j
  | none => 0

/-- The check of CW_CTRL.ENABLE. -/
def State.cwCheck (s : State) : List Failure :=
  (match s.dimPorts.find? (fun p => !s.portPresent p) with
    | some p => [(0x01, p)]
    | none => []) ++
  (match (List.range 8).find? (fun x => s.flag (fCW_EXC_x_ACT_EN x) && !s.portPresent (s.fld (fCW_EXC_x_ACT_PORT x))) with
    | some x => [(0x01, 0x10 + x)]
    | none => []) ++
  failIf (!s.modeOpen) 0x02 ++ failIf (!s.locked 5 || !s.locked 6) 0x03 ++
  failIf (s.flag fCW_STATUS_DUP_SEEN) 0xA1 ++
  (match s.budgetFail with
    | some p => [(0xA2, p)]
    | none => []) ++
  failIf s.routingBad 0xA3 ++ failIf (64 < s.trackedSources.length) 0xA4 s.sourceItem

/-- CW_CTRL.ENABLE set. -/
def State.cwEnable (s : State) : State :=
  let s := s.setFlag fCW_CTRL_ENABLE true
  if s.flag fCW_STATUS_ENABLED then s
  else
    let s := s.showLoads.unitOutcome uCW fCW_STATUS_ENABLED fCW_STATUS_REFUSED fCW_STATUS_REASON (some fCW_STATUS_ITEM)
      s.cwCheck
    s.when (s.flag fCW_STATUS_ENABLED) (fun t => { t with esqRx := [] })

/-- A write of CW_CTRL. -/
def State.cwCtrlWrite (s : State) (v : Word) : State :=
  if v.getLsbD 0 then s.cwEnable else (s.setFlag fCW_CTRL_ENABLE false).setFlag fCW_STATUS_ENABLED false

/-- PD4 goes off: Causeway loses its state but for DUP_SEEN and the straps in PD0 (R314). -/
def State.cwPowerOff (s : State) : State :=
  let dup := s.flag fCW_STATUS_DUP_SEEN
  let strap := s.fld fCW_NODE_STRAP
  let s := forRange 8 (fun p t => t.cwLost p) s
  let s := (s.resetRegs 0x2200000 0x2300000).setFlag fCW_STATUS_DUP_SEEN dup
  let s := s.setFld fCW_NODE_STRAP strap
  let s := { s with cw := [], esqTx := [], esqRx := [] }
  forRange 8 (fun p t => t.icLevel (32 + p) false) s

/-! ### Readiness (R311, R313) -/

/-- Are all the control stores of the units present loaded? -/
def State.allLoaded (s : State) : Bool :=
  (List.range 11).all (fun u => s.csReady u || (1 ≤ u && u ≤ 8 && !s.portPresent (u - 1)) || (u == 9 && !s.part.sedge))

/-- SELF_RDY: the device releases RDY. -/
def State.selfRdy (s : State) : Bool :=
  (s.mode == modeReady || s.mode == modeRun) && s.allLoaded && !s.flag fCW_BOARD_RDY_HOLD

/-- The child ports without a beacon. -/
def State.silentPorts (s : State) : Nat :=
  (List.range 8).foldl (fun a p =>
    if bitOf (s.fld fCW_BOARD_CHILD_MASK) p && (s.cwPort p).beacon.isNone then a + 2 ^ p else a) 0

/-- SUB_RDY. -/
def State.subRdy (s : State) : Bool :=
  s.flag fCW_RDY_STATUS_BOARD && s.selfRdy &&
    (List.range 8).all (fun p => !bitOf (s.fld fCW_BOARD_CHILD_MASK) p ||
      (match (s.cwPort p).beacon with
        | some (sub, _, child) => child && sub
        | none => false))

/-- MACHINE_RDY. -/
def State.machineRdy (s : State) : Bool :=
  if s.flag fTM_CTRL_ROLE then s.subRdy
  else
    match (s.cwPort (s.fld fTM_CTRL_PARENT_PORT)).beacon with
    | some (_, machine, _) => machine
    | none => false

/-- CW_RDY_STATUS follows; a change of MACHINE is host source 45. -/
def State.rdyUpdate (s : State) : State :=
  if s.pdOn 4 then
    let was := s.flag fCW_RDY_STATUS_MACHINE
    let now := s.machineRdy
    let s := s.setFlag fCW_RDY_STATUS_SELF s.selfRdy
    let s := s.setFlag fCW_RDY_STATUS_SUB s.subRdy
    let s := s.setFld fCW_RDY_STATUS_SILENT s.silentPorts
    let s := s.setFlag fCW_RDY_STATUS_MACHINE now
    if now = was then s else s.icPend 45
  else s

/-- The BEACON payload of a port. -/
def State.beaconPayload (s : State) (p : Nat) : BitVec 192 :=
  BitVec.ofNat 192 (packBits [(1, bit s.selfRdy), (1, bit s.subRdy), (1, bit s.machineRdy),
    (1, bit (!s.flag fTM_CTRL_ROLE && s.fld fTM_CTRL_PARENT_PORT == p))])

/-- BEACON_DUE: every ACTIVE port sends a BEACON. -/
def State.beaconDue (s : State) : State :=
  forRange 8 (fun p t =>
    if t.portActive p then
      t.queueFlit p {
        cl := 2, kind := 3, dest := 0, src := t.nodeId, seq := 0, loc := true, eop := true, vc := 0,
        payload := t.beaconPayload p }
    else t) s.rdyUpdate

/-! ### Receiving (R292, R294, R299, R300, R305) -/

/-- The flit of a header and payload. -/
def flitOf (cl kind : Nat) (h : Hdr) (payload : BitVec 192) : Flit := {
  cl := cl, kind := kind, dest := h.dest.toNat, src := h.src.toNat, seq := h.seq.toNat, loc := h.loc, eop := h.eop,
  vc := bit h.vc, payload := payload }

/-- Is a flit for this device? -/
def State.flitHere (s : State) (f : Flit) : Bool := f.loc || f.dest == s.nodeId

/-- A flit carries this device's own node ID as its source (R289). -/
def State.flitOwn (s : State) (f : Flit) : Bool := !f.loc && f.src == s.nodeId

/-- The end-to-end sequence of a class 0 flit for this device (R300). -/
def State.esqCheck (s : State) (src seq : Nat) : State :=
  if s.flag fCW_STATUS_ENABLED && s.trackedSources.contains src then
    let e := SMap.get (fun _ => 0) s.esqRx src
    let s := { s with esqRx := SMap.set (fun _ => 0) s.esqRx src ((seq + 1) % 1024 + 1) }
    if e = 0 || e = seq + 1 then s
    else
      let s := (s.cwFault 0x0904).incSat fCW_GAP_COUNT_GAPS
      forRange 512 (fun j t => if t.impFrom j src then t.importInvalidate j else t) s
  else s

/-- One item of a DECISION flit (R299). -/
def State.importItem (s : State) (src : Nat) (i : Nat × Nat × Nat) : State :=
  if s.flag fCW_STATUS_ENABLED && s.impFrom i.1 src then s.importSlot i.1 i.2.1 i.2.2
  else s.incSat fCW_GAP_COUNT_IMP_REJECT

/-- A class 0 flit arrives at port p: forwarded, or its sequence checked and the flit handed on (R300, R308). -/
def State.receiveC0 (s : State) (p : Nat) (f : Flit) (deliver : State → State) : State :=
  if !s.portActive p then s
  else if s.flitOwn f then s.cwDuplicate p
  else if s.flitHere f then deliver (s.esqCheck f.src f.seq)
  else
    match s.route f.dest with
    | .port q _ _ => s.queueC0 q (.transit f)
    | _ => s.cwFault 0x0906

/-- DECISION. -/
def State.receiveDecision (s : State) (p : Nat) (f : Flit) : State :=
  s.receiveC0 p f (fun t => (decisionItems f.payload).foldl (fun u i => u.importItem f.src i) t)

/-- The dimension that a port serves. -/
def State.portDim (s : State) (p : Nat) : Option Nat :=
  s.dimsUsed.find? (fun d => s.fld (fCW_DIM_d_PLUS_PORT d) == p || s.fld (fCW_DIM_d_MINUS_PORT d) == p)

/-- A flit of classes 1–3 arrives: accepted in sequence, or discarded (R305). -/
def State.acceptFlit (s : State) (p : Nat) (f : Flit) : Option State :=
  let r := s.cwPort p
  if f.seq = r.rxExp then
    some (s.setCwPort p { r with
      rxExp := (r.rxExp + 1) % 1024, rxAny := true, nakSent := false, nakDue := false,
      freed := bump r.freed (credIx f.cl f.vc) })
  else none

/-- A flit ahead of the expected one asks for a NAK, once; one behind is a duplicate. -/
def State.flitOutOfTurn (s : State) (p : Nat) (f : Flit) : State :=
  let r := s.cwPort p
  if (f.seq + 1024 - r.rxExp) % 1024 < 512 && !r.nakSent then
    s.setCwPort p { r with nakSent := true, nakDue := true }
  else s

/-- A flit of classes 1–3 arrives at port p: forwarded, or handed on (R305, R308, R309). -/
def State.receiveFlit (s : State) (p : Nat) (f : Flit) (deliver : State → State) : State :=
  if !s.portActive p then s
  else
    match s.acceptFlit p f with
    | none => s.flitOutOfTurn p f
    | some s =>
      if s.flitOwn f then s.cwDuplicate p
      else if s.flitHere f then deliver s
      else
        match s.route f.dest with
        | .drop => s.flitLost p
        | _ => s.sendRouted f (s.portDim p)

/-- FLIT_CRC_FAIL. -/
def State.crcFail (s : State) (p : Nat) : State :=
  if s.portActive p then (s.incSat (fCW_Pp_COUNT_A_CRC_DROP p)).cwFault 0x0903 else s

/-- Is a class or kind reserved (R292)? -/
def reservedKind (cl kind : Nat) : Bool :=
  match cl with
  | 0 => 2 < kind
  | 1 => 0 < kind
  | 2 => 3 < kind
  | 3 => 1 < kind
  | 7 => 0 < kind
  | _ => true

def State.badKind (s : State) (p cl kind : Nat) : State :=
  if s.portActive p && reservedKind cl kind then s.incSat (fCW_Pp_COUNT_C_BAD_KIND p) else s

/-- Every unacknowledged flit is sent again; the eighth replay without progress retrains the port (R290, R305). -/
def State.replay (s : State) (p : Nat) : State :=
  let r := s.cwPort p
  if r.unacked = [] then s
  else
    let s := s.setCwPort p { r with replays := r.replays + 1 }
    let s := s.incSat (fCW_Pp_COUNT_B_REPLAY p)
    let s := r.unacked.foldl (fun t f => t.emit (.flit p f.bits)) s
    if 8 ≤ r.replays + 1 then (s.setCwPort p { s.cwPort p with replays := 0 }).cwToRetrain p else s

/-- Applies an ACK: the flits up to it are released; none when it lies outside the window. -/
def CwPort.ack (r : CwPort) (ack : Nat) : Option CwPort :=
  match r.unacked.findIdx? (fun f => f.seq == ack) with
  | some i => some { r with unacked := r.unacked.drop (i + 1), replays := 0 }
  | none =>
    if (ack + 1) % 1024 = (match r.unacked.head? with
      | some f => f.seq
      | none => r.txSeq) then some r
    else none

/-- LINK (R303 to R305). -/
def State.receiveLink (s : State) (p : Nat) (l : LinkFlit) : State :=
  if !s.portActive p then s
  else
    let r := { s.cwPort p with credRx := (List.range 6).map (fun i => sliceNat l.cred (8 * i + 7) (8 * i)) }
    match if l.ackValid then r.ack l.ack.toNat else some r with
    | none => ((s.setCwPort p r).incSat (fCW_Pp_COUNT_C_BAD_KIND p)).pump p
    | some r =>
      let s := s.setCwPort p r
      (if l.nak then s.replay p else s).pump p

/-- LINK_DUE: a LINK flit is sent. -/
def State.linkDue (s : State) (p : Nat) : State :=
  if s.portActive p then
    let r := s.cwPort p
    let s := s.emit (.flit p (linkFlitBits ((r.rxExp + 1023) % 1024) r.rxAny r.nakDue r.freed))
    let s := if r.nakDue then s.incSat (fCW_Pp_COUNT_B_NAK p) else s
    s.setCwPort p { r with nakDue := false }
  else s

/-- REPLAY_TIMEOUT: no progress for 4 µs. -/
def State.replayTimeout (s : State) (p : Nat) : State := if s.portActive p then s.replay p else s

/-- ALIGN_DUE: sent, or deferred while a routed class 0 flit with a token waits (R284). -/
def State.alignSlot (s : State) (p : Nat) : State :=
  if !s.portActive p then s
  else if (s.cwPort p).c0 != [] && s.fld (fCW_Pp_POL_TOKENS p) != 0 then
    s.setCwPort p { s.cwPort p with alignDue := true }
  else s.emit (.align p)

/-- POLICER_TOKEN. -/
def State.policerToken (s : State) (p : Nat) : State :=
  if s.portActive p then
    (s.setFld (fCW_Pp_POL_TOKENS p) (min (s.fld (fCW_Pp_POL_TOKENS p) + 1) (s.fld (fCW_Pp_POL_DEPTH p)))).pumpC0 p
  else s

/-! ### The commands -/

/-- CW_ENABLE. -/
def execCwEnable (p : Path) (s : State) : Result := done (s.viaBus p rCW_CTRL (·.cwEnable))

/-- PORT_ENABLE: RESET and RETRAIN are 0, and LOOPBACK is `v`'s. -/
def execPortEnable (p : Path) (q : Fin 8) (v : Word) (s : State) : Result :=
  done (s.viaBus p (rCW_Pp_CTRL q.val) (fun s => s.cwPortCtrlWrite q.val (v &&& 0xFFFFFFF8#32 ||| 1)))

/-- PORT_DISABLE. -/
def execPortDisable (p : Path) (q : Fin 8) (v : Word) (s : State) : Result :=
  done (s.viaBus p (rCW_Pp_CTRL q.val) (fun s => s.cwPortCtrlWrite q.val (v &&& 0xFFFFFFF8#32)))

/-- PORT_RESET: ENABLE is written as it stands. -/
def execPortReset (p : Path) (q : Fin 8) (s : State) : Result :=
  done (s.viaBus p (rCW_Pp_CTRL q.val) (fun s => s.portReset q.val))

/-- RETRAIN: ENABLE is written as it stands. -/
def execRetrain (p : Path) (q : Fin 8) (s : State) : Result :=
  done (s.viaBus p (rCW_Pp_CTRL q.val) (fun s => s.cwToRetrain q.val))

/-- TS_WORD. -/
def execTsWord (q : Fin 8) (w : BitVec 64) (ready : Bool) (s : State) : Result := done (s.tsWord q.val w ready)

/-- TRAIN_TIMEOUT. -/
def execTrainTimeout (q : Fin 8) (s : State) : Result := done (s.trainTimeout q.val)

/-- TRAIN_RETRY. -/
def execTrainRetry (q : Fin 8) (s : State) : Result := done (s.trainRetry q.val)

/-- LANE_LOSS. -/
def execLaneLoss (q : Fin 8) (lane : Fin 4) (s : State) : Result := done (s.laneLoss q.val lane.val)

/-- PORT_DOWN. -/
def execPortDown (q : Fin 8) (s : State) : Result := done (s.portDown q.val)

/-- ALIGN_DUE. -/
def execAlignDue (q : Fin 8) (s : State) : Result := done (s.alignSlot q.val)

/-- POLICER_TOKEN. -/
def execPolicerToken (q : Fin 8) (s : State) : Result := done (s.policerToken q.val)

/-- DECISION_FLIT_SEND; what stood behind the decisions follows. -/
def execDecisionFlitSend (q : Fin 8) (s : State) : Result := done (if s.portActive q.val then (s.sendDecision q.val).pumpC0 q.val else s)

/-- DECISION. -/
def execDecision (q : Fin 8) (h : Hdr) (payload : BitVec 192) (s : State) : Result :=
  done (s.receiveDecision q.val (flitOf 0 1 h payload))

/-- A Sedge payload: the type, and the bits above it. -/
def sedgePayload (type : BitVec 4) (rest : BitVec 188) : BitVec 192 := rest ++ type

/-- SEAM_EVENTS. -/
def execSeamEvents (q : Fin 8) (h : Hdr) (rest : BitVec 188) (s : State) : Result :=
  let f := flitOf 0 2 h (sedgePayload 1 rest)
  done (s.receiveC0 q.val f (fun t => t.sdgMessage f.src f.payload))

/-- SEAM_COMMIT. -/
def execSeamCommit (q : Fin 8) (h : Hdr) (rest : BitVec 188) (s : State) : Result :=
  let f := flitOf 0 2 h (sedgePayload 2 rest)
  done (s.receiveC0 q.val f (fun t => t.sdgMessage f.src f.payload))

/-- ROUND_STATUS. -/
def execRoundStatus (q : Fin 8) (h : Hdr) (rest : BitVec 188) (s : State) : Result :=
  let f := flitOf 1 0 h (sedgePayload 3 rest)
  done (s.receiveFlit q.val f (fun t => t.sdgMessage f.src f.payload))

/-- HELLO. -/
def execHello (q : Fin 8) (h : Hdr) (rest : BitVec 188) (s : State) : Result :=
  let f := flitOf 1 0 h (sedgePayload 4 rest)
  done (s.receiveFlit q.val f (fun t => t.sdgMessage f.src f.payload))

/-- FLIT_CRC_FAIL. -/
def execFlitCrcFail (q : Fin 8) (s : State) : Result := done (s.crcFail q.val)

/-- BAD_KIND. -/
def execBadKind (q : Fin 8) (cl : BitVec 3) (kind : BitVec 4) (s : State) : Result :=
  done (s.badKind q.val cl.toNat kind.toNat)

/-- LINK. -/
def execLink (q : Fin 8) (l : LinkFlit) (s : State) : Result := done (s.receiveLink q.val l)

/-- LINK_DUE. -/
def execLinkDue (q : Fin 8) (s : State) : Result := done (s.linkDue q.val)

/-- REPLAY_TIMEOUT. -/
def execReplayTimeout (q : Fin 8) (s : State) : Result := done (s.replayTimeout q.val)

/-- BEACON. -/
def execBeacon (q : Fin 8) (h : Hdr) (payload : BitVec 192) (s : State) : Result :=
  done (s.receiveFlit q.val (flitOf 2 3 h payload) (fun t =>
    (t.setCwPort q.val { t.cwPort q.val with
      beacon := some (payload.getLsbD 1, payload.getLsbD 2, payload.getLsbD 3) }).rdyUpdate))

/-- BEACON_DUE. -/
def execBeaconDue (s : State) : Result := done s.beaconDue

/-- BEACON_TIMEOUT. -/
def execBeaconTimeout (q : Fin 8) (s : State) : Result :=
  done (s.setCwPort q.val { s.cwPort q.val with beacon := none }).rdyUpdate

/-- RDY_CHANGE: the level at the RDY ball. -/
def execRdyChange (level : Bool) (s : State) : Result :=
  done ((s.setFlag fCW_RDY_STATUS_BOARD level).rdyUpdate)

end Sys2Proof.Machine
end

