-- ==== Sys2Proof/Machine/Drive.lean ====
section
/-!
DEFINITION. The drive unit of a Pool, its segment table, stream buffers and markers (chapter "Drive synthesis", R76 to R97).
-/
namespace Sys2Proof.Machine

/-! ### The unit -/

/-- The enable check of the drive unit (R71, R88, R92, R93, R96). -/
def State.drvCheck (s : State) (n : Nat) : List Failure :=
  s.poolUnitCheck n ++
  failIf ((List.range 32).any (fun k => 16 < s.fld (fDRV_Tk_ALLOC_ALLOC n k)) ||
    (List.range 4).any (fun m => s.fld (fMK_m_CFG_FEN_WIDTH n m) < 16)) 0x07 ++
  failIf (384 < s.allocSum n) 0x20 ++
  failIf (s.bandFails n (List.range 32) [0, 1, 2, 3]) 0x21 ++
  failIf ((List.range 4).any (fun m => 8191 < s.fld (fMK_m_DELAY_DELAY n m))) 0x23 ++
  failIf (s.flag (fMK_m_CFG_TRIG_IN n 3) && (s.flag (fMK_m_CFG_SRC_SEG n 3) || s.flag (fMK_m_CFG_SRC_CMD n 3) ||
    s.flag (fMK_m_CFG_SRC_FEN n 3))) 0x06 (0x1000 + 4 * n + 3)

/-- The marker pin m of Pool n: what commands and Fen pulses have put on it. -/
def State.marker (s : State) (n m : Nat) : Marker := SMap.get (fun _ => {}) s.markers (4 * n + m)
def State.setMarker (s : State) (n m : Nat) (v : Marker) : State :=
  { s with markers := SMap.set (fun _ => {}) s.markers (4 * n + m) v }

/-- Takes every command and pulse off the marker pins of a Pool. -/
def State.clearMarkers (s : State) (n : Nat) : State := forRange 4 (fun m t => t.setMarker n m {}) s

/-- Is a target of R207 served by the drive unit: drive tones, drive DACs, marker pins? -/
def tgtDrive (tgt : Nat) : Bool := tgt < 0x20 || (0x48 ≤ tgt && tgt < 0x4C) || (0x50 ≤ tgt && tgt < 0x54)

/-- ENABLE cleared, where it is not ignored (R94). -/
def State.drvDisable (s : State) (n : Nat) : State :=
  ((((s.endChains n 0 32).disarm n tgtDrive).clearMarkers n).setFlag (fDRV_CTRL_ENABLE n) false).setFlag
    (fDRV_STATUS_ENABLED n) false

/-- ENABLE set: the check runs while the unit is disabled (R433). -/
def State.drvEnable (s : State) (n : Nat) : State :=
  let s := s.setFlag (fDRV_CTRL_ENABLE n) true
  if s.flag (fDRV_STATUS_ENABLED n) then s
  else s.unitOutcome (uDRV n) (fDRV_STATUS_ENABLED n) (fDRV_STATUS_REFUSED n) (fDRV_STATUS_REASON n)
    (some (fDRV_STATUS_CONFLICT_ID n)) (s.drvCheck n)

/-- CLR_COUNT: every tone COUNT and DAC SAT register. -/
def State.drvClrCount (s : State) (n : Nat) : State :=
  forRange 4 (fun d t => t.setReg (rDRV_DACd_SAT n d) 0) (forRange 32 (fun k t => t.setReg (rDRV_Tk_COUNT n k) 0) s)

/-- A write of POOLn_DRV_CTRL. -/
def State.drvCtrlWrite (s : State) (n : Nat) (v : Word) : State :=
  let s := if v.getLsbD 1 then s.drvClrCount n else s
  if v.getLsbD 0 then s.drvEnable n
  else if s.poolHeld n then s
  else s.drvDisable n

/-- A write of POOLn_DRV_Tk_DJ_CFG clears the recorded SEQ (R83). -/
def State.djCfgWrite (s : State) (n k : Nat) (v : Word) : State :=
  let s := s.setReg (rDRV_Tk_DJ_CFG n k) (v &&& 0xFFF3FF1D)
  s.setChain n k { s.chain n k with recorded := none }

/-! ### Markers (R91) -/

/-- MARK (R210): ACT and WIDTH at an instant. -/
def State.markCmd (s : State) (n m at_ act width : Nat) : State :=
  if s.flag (fMK_m_CFG_SRC_CMD n m) then
    let r := s.marker n m
    s.setMarker n m { r with cmds := r.cmds ++ [(at_, if act = 3 then 0 else act, max width 16)] }
  else s

/-- The level that MARK commands give at a tick: the held level and the end of the pulse in force. -/
def markHold (t : Nat) : List (Nat × Nat × Nat) → Bool × Nat → Bool × Nat
  | [], h => h
  | (at_, act, width) :: rest, h =>
    if t < at_ then markHold t rest h
    else if act = 1 then markHold t rest (true, h.2)
    else if act = 2 then markHold t rest (h.1, max h.2 (at_ + width))
    else markHold t rest (false, at_)

/-- Does the pass of a drive tone hold a marker pin high at a tick? -/
def Chain.marks (c : Chain) (m t : Nat) : Bool :=
  let p (j : Nat) : Nat := (c.start + j * c.seg.rate * 8) / 65536
  c.active && bitOf c.seg.mkPat m && p c.seg.mkStart ≤ t && t < p c.seg.mkStop

/-- The level of ball MK[4n + m] at a tick (R91, R94). -/
def State.markLevel (s : State) (n m t : Nat) : Bool :=
  let r := s.marker n m
  let h := markHold t r.cmds (false, 0)
  s.mode ∈ [modeRun, modeDrain, modeDiag] && s.flag (fDRV_STATUS_ENABLED n) &&
    ((s.flag (fMK_m_CFG_SRC_SEG n m) &&
        (List.range 32).any (fun k => bitOf (s.fld (fMK_m_TONES_MASK n m)) k && (s.chain n k).marks m t)) ||
      (s.flag (fMK_m_CFG_SRC_CMD n m) && (h.1 || t < h.2)) ||
      (s.flag (fMK_m_CFG_SRC_FEN n m) && r.fenStart ≤ t && t < r.fenEnd))

/-- MARK_PULSE: a pulse of FEN_WIDTH ticks from now, while the unit is enabled. -/
def State.markPulse (s : State) (n m : Nat) : State :=
  if s.poolLive n && s.flag (fDRV_STATUS_ENABLED n) then
    s.setMarker n m { s.marker n m with fenStart := s.now, fenEnd := s.now + s.fld (fMK_m_CFG_FEN_WIDTH n m) }
  else s

/-! ### The commands -/

/-- DRV_ENABLE. -/
def execDrvEnable (p : Path) (n : Fin 16) (s : State) : Result :=
  done (s.viaBus p (rDRV_CTRL n.val) (·.drvCtrlWrite n.val 1))

/-- DRV_DISABLE. -/
def execDrvDisable (p : Path) (n : Fin 16) (s : State) : Result :=
  done (s.viaBus p (rDRV_CTRL n.val) (·.drvCtrlWrite n.val 0))

/-- DRV_CLR_COUNT: CLR_COUNT with ENABLE written as it stands. -/
def execDrvClrCount (p : Path) (n : Fin 16) (s : State) : Result :=
  done (s.viaBus p (rDRV_CTRL n.val) (·.drvClrCount n.val))

/-- SEGMENT_COMMIT. -/
def execSegmentCommit (p : Path) (n : Fin 16) (e : Fin 4096) (s : State) : Result :=
  done (s.viaBus p (rSEG_e n.val e.val + 28) (·.segWrite n.val e.val 7 0))

/-- STREAM_BUFFER_ENABLE. -/
def execStreamBufferEnable (p : Path) (n b : Fin 16) (v : Word) (s : State) : Result :=
  done (s.viaBus p (rPEAT_SBb_CTRL n.val b.val) (·.sbCtrlWrite n.val b.val (v ||| 1)))

/-- STREAM_BUFFER_DISABLE. -/
def execStreamBufferDisable (p : Path) (n b : Fin 16) (v : Word) (s : State) : Result :=
  done (s.viaBus p (rPEAT_SBb_CTRL n.val b.val) (·.sbCtrlWrite n.val b.val (v &&& ~~~1#32)))

/-- PASS_END. -/
def execPassEnd (n : Fin 16) (e : Fin 72) (s : State) : Result := done (s.passEnd n.val e.val)

/-- JUMP_COMMIT_POINT. -/
def execJumpCommitPoint (n : Fin 16) (k : Fin 32) (s : State) : Result := done (s.jumpCommitPoint n.val k.val)

/-- STREAM_SAMPLE_READ. -/
def execStreamSampleRead (n : Fin 16) (e : Fin 72) (s : State) : Result := done (s.takeSample n.val e.val)

/-- JUMP_REQ: accepted while FEN_EN is set (R82). -/
def State.jumpReqTask (s : State) (n k : Nat) : State :=
  if s.poolLive n && s.flag (fDRV_Tk_JUMP_CFG_FEN_EN n k) then
    s.jumpRequest n k (s.fld (fDRV_Tk_JUMP_CFG_FEN_TGT n k))
  else s

/-- JUMP_REQ. -/
def execJumpReq (n : Fin 16) (k : Fin 32) (s : State) : Result :=
  done ((s.takeAct (0x80 * n.val + k.val)).jumpReqTask n.val k.val)

/-- MARK_PULSE. -/
def execMarkPulse (n : Fin 16) (m : Fin 4) (s : State) : Result :=
  done ((s.takeAct (0x80 * n.val + 0x40 + m.val)).markPulse n.val m.val)

/-- TRIG_IN_EDGE: a rising edge at MK[4n + 3] fires TRIG_IN_n when the pin is TRIG_IN (R93). -/
def execTrigInEdge (n : Fin 16) (s : State) : Result :=
  done (if s.flag (fMK_m_CFG_TRIG_IN n.val 3) then s.fire (0x300 + n.val) else s)

end Sys2Proof.Machine
end

