-- ==== Sys2Proof/Machine/Ic.lean ====
section
/-!
DEFINITION. The host interrupt controller's registers and events (chapter "Host interrupt controller", R349 to R360); its
sources and messages are in Ops.
-/
namespace Sys2Proof.Machine

/-- Is a source of kind LEVEL (R349)? -/
def icLevelSource (x : Nat) : Bool :=
  x ∈ [0, 2, 16, 17, 20, 26, 30, 44] || (32 ≤ x && x < 40) || (64 ≤ x && x < 128 && (x - 64) % 16 == 8) ||
    (256 ≤ x && (x - 256) % 16 == 8)

/-- Is a source one that only PF0 may take: groups 0–3 and 8? -/
def icManagerSource (x : Nat) : Bool := x < 64 || (128 ≤ x && x < 144)

/-- The VF that may take a source besides PF0 (R351). -/
def State.icOwner (s : State) (x : Nat) : Nat :=
  if x < 128 then (x - 64) / 16 + 1 else s.poolOwner ((x - 256) / 16) + 1

/-- Is the routing of a source out of range (REASON 0x07)? -/
def State.icRange (s : State) (x : Nat) : Bool :=
  let f := s.fld (fIC_SRC_s_FUNC x)
  4 < f || (0 < f && (15 < s.fld (fIC_SRC_s_VEC x) || icLevelSource x || icManagerSource x))

/-- Is a source routed to a VF other than its owner's (REASON 0x04)? -/
def State.icNotOwner (s : State) (x : Nat) : Bool :=
  let f := s.fld (fIC_SRC_s_FUNC x)
  0 < f && f ≤ 4 && !icManagerSource x && f != s.icOwner x

/-- The vector of a source as R435 names it. -/
def State.icConflictId (s : State) (x : Nat) : Nat :=
  0x4000 + 0x100 * s.fld (fIC_SRC_s_FUNC x) + s.fld (fIC_SRC_s_VEC x)

/-- Vectors that take sources of two groups. -/
def State.icShared (s : State) : List Failure :=
  ((List.range 512).filter (fun x => s.icSource x && (List.range x).any (fun y =>
    s.icSource y && y / 16 != x / 16 && s.icConflictId y == s.icConflictId x))).map (fun x => (0x06, s.icConflictId x))

/-- The enable check of R359. -/
def State.icCheck (s : State) : List Failure :=
  failIf (!s.modeOpen) 0x02 ++
  failFirst 512 (fun x => s.icSource x && s.icNotOwner x) 0x04 ++
  failFirst 512 (fun x => s.icSource x && s.icRange x) 0x07 ++
  s.icShared

/-- The LEVEL sources of a set are sampled (R350). -/
def State.icSample (s : State) (of : Nat → Bool) : State :=
  forRange 512 (fun x t =>
    if of x && t.icSource x && bitOf (t.regN (rIC_RAW_w (x / 32))) (x % 32) then
      t.setRegBit (rIC_PEND_w (x / 32)) (x % 32) true
    else t) s

/-- ENABLE set. -/
def State.icEnable (s : State) : State :=
  let s := s.setFlag fIC_CFG_ENABLE true
  if s.flag fIC_STATUS_ENABLED then s
  else
    let s := s.unitOutcome uIC fIC_STATUS_ENABLED fIC_STATUS_REFUSED fIC_STATUS_REASON (some fIC_STATUS_ITEM) s.icCheck
    if s.flag fIC_STATUS_ENABLED then
      ((forRange 10 (fun x t => t.setReg (rIC_DISARMED_x x) 0) s).icSample (fun _ => true)).icServiceAll
    else s

/-- A write of IC_CFG. -/
def State.icCfgWrite (s : State) (v : Word) : State :=
  let s :=
    if s.flag fIC_STATUS_ENABLED then s
    else
      let s := s.setFld fIC_CFG_MODE (fieldOf v 1 1)
      if v.getLsbD 1 then s else s.setFlag fIC_GATE_GATE false
  if v.getLsbD 0 then s.icEnable else (s.setFlag fIC_CFG_ENABLE false).setFlag fIC_STATUS_ENABLED false

/-- A write of IC_EOI (R354, R355). -/
def State.icEoi (s : State) (v : Word) : State :=
  if fieldOf v 10 8 = 0 then
    let ix := fieldOf v 7 0
    ((s.icSample (fun x => s.icVector x == ix)).setRegBit (rIC_DISARMED_x (ix / 32)) (ix % 32) false).icServiceAll
  else s

/-- The bits of a word that belong to sources (R349). -/
def State.icWord (s : State) (w : Nat) (v : Word) : Nat :=
  (List.range 32).foldl (fun a j => if v.getLsbD j && s.icSource (32 * w + j) then a + 2 ^ j else a) 0

/-- A write of IC_PEND_w (R357, R358). -/
def State.icPendWrite (s : State) (w : Nat) (v : Word) : State :=
  if s.flag fIC_CFG_MODE then s.setReg (rIC_PEND_w w) (s.reg (rIC_PEND_w w) &&& ~~~v)
  else (s.setRegN (rIC_PEND_w w) (s.icWord w v)).icServiceAll

/-- A write of IC_MASK_w. -/
def State.icMaskWrite (s : State) (w : Nat) (v : Word) : State := (s.setReg (rIC_MASK_w w) v).icServiceAll

/-- A write of IC_MASK_SET_w or IC_MASK_CLR_w: ignored in PLAIN. -/
def State.icMaskAlias (s : State) (w : Nat) (v : Word) (set : Bool) : State :=
  if s.flag fIC_CFG_MODE then
    s.icMaskWrite w (if set then s.reg (rIC_MASK_w w) ||| v else s.reg (rIC_MASK_w w) &&& ~~~v)
  else s

/-- A write of IC_GATE: ignored in PLAIN. -/
def State.icGateWrite (s : State) (v : Word) : State :=
  if s.flag fIC_CFG_MODE then (s.setFlag fIC_GATE_GATE (v.getLsbD 0)).icServiceAll else s

/-- The hold-off of a group expires (R353). -/
def State.holdoffExpiry (s : State) (g : Nat) : State :=
  ({ s with ic := { s.ic with holdOff := s.ic.holdOff &&& ~~~BitVec.twoPow 32 g } }).icService g

/-- Sends the messages held in the pending-bit array that masks and enables no longer hold (R356). -/
def State.msixRelease (s : State) : State :=
  forRange 320 (fun ix t =>
    if t.ic.pba.getLsbD ix && !t.msixHeld ix then
      ({ t with ic := { t.ic with pba := t.ic.pba &&& ~~~BitVec.twoPow 320 ix } }).emit (.msix ix)
    else t) s

/-- A bit of a bit vector takes a value. -/
def bvPut {w : Nat} (v : BitVec w) (i : Nat) (b : Bool) : BitVec w :=
  if b then v ||| BitVec.twoPow w i else v &&& ~~~BitVec.twoPow w i

/-- A write of the MSI-X masks and enables. -/
def State.msixWrite (s : State) : MsixWrite → State
  | .entry ix m => ({ s with ic := { s.ic with entryMask := bvPut s.ic.entryMask ix.val m } }).msixRelease
  | .function f m => ({ s with ic := { s.ic with funcMask := bvPut s.ic.funcMask f.val m } }).msixRelease
  | .enable f b => ({ s with ic := { s.ic with msixEnable := bvPut s.ic.msixEnable f.val b } }).msixRelease

/-- The registers and timers of the IC return to reset (R322, R360). -/
def State.icReset (s : State) : State :=
  ({ s with ic := { s.ic with holdOff := 0 } }).resetRegs 0x2400000 0x2500000

/-! ### The commands -/

/-- IC_ENABLE: a write with ENABLE = 1. -/
def execIcEnable (p : Path) (v : Word) (s : State) : Result :=
  done (s.viaBus p rIC_CFG (fun s => s.icCfgWrite (v ||| 1)))

/-- IC_DISABLE: a write with ENABLE = 0. -/
def execIcDisable (p : Path) (v : Word) (s : State) : Result :=
  done (s.viaBus p rIC_CFG (fun s => s.icCfgWrite (v &&& ~~~1#32)))

/-- IC_EOI. -/
def execIcEoi (p : Path) (v : Word) (s : State) : Result := done (s.viaBus p rIC_EOI (·.icEoi v))

/-- IC_PEND_WRITE. -/
def execIcPendWrite (p : Path) (w : Fin 16) (v : Word) (s : State) : Result :=
  done (s.viaBus p (rIC_PEND_w w.val) (fun s => s.icPendWrite w.val v))

/-- IC_MASK_SET. -/
def execIcMaskSet (p : Path) (w : Fin 16) (v : Word) (s : State) : Result :=
  done (s.viaBus p (rIC_MASK_SET_w w.val) (fun s => s.icMaskAlias w.val v true))

/-- IC_MASK_CLR. -/
def execIcMaskClr (p : Path) (w : Fin 16) (v : Word) (s : State) : Result :=
  done (s.viaBus p (rIC_MASK_CLR_w w.val) (fun s => s.icMaskAlias w.val v false))

/-- IC_GATE. -/
def execIcGate (p : Path) (v : Word) (s : State) : Result := done (s.viaBus p rIC_GATE (·.icGateWrite v))

/-- HOLDOFF_EXPIRY. -/
def execHoldoffExpiry (g : Fin 32) (s : State) : Result := done (s.holdoffExpiry g.val)

/-- MSIX_UNMASK. -/
def execMsixUnmask (m : MsixWrite) (s : State) : Result := done (s.msixWrite m)

/-- IC_FEN: the Fen task IC_FEN_k. -/
def execIcFen (k : Fin 16) (s : State) : Result := done ((s.takeAct (0x840 + k.val)).icPend (128 + k.val))

end Sys2Proof.Machine
end

