-- ==== Sys2Proof/Machine/Readout.lean ====
section
/-!
DEFINITION. The read-out unit of a Pool: windows, the discriminator, result records, accumulators, and ADC calibration
(chapters "Read-out receivers" and "Discrimination and early decision", R116 to R165).
-/
namespace Sys2Proof.Machine

def State.tone (s : State) (n k : Nat) : RoTone := SMap.get (fun _ => {}) s.tones (32 * n + k)
def State.setTone (s : State) (n k : Nat) (v : RoTone) : State :=
  { s with tones := SMap.set (fun _ => {}) s.tones (32 * n + k) v }
def State.roLine (s : State) (n l : Nat) : RoLine := SMap.get (fun _ => {}) s.lines (2 * n + l)
def State.setRoLine (s : State) (n l : Nat) (v : RoLine) : State :=
  { s with lines := SMap.set (fun _ => {}) s.lines (2 * n + l) v }
def State.fifo (s : State) (n : Nat) : List WinRecs := SMap.get (fun _ => []) s.fifos n
def State.weight (s : State) (n k i : Nat) : Word := SMap.get (fun _ => 0) s.weights (2048 * (32 * n + k) + i)
def State.setWeight (s : State) (n k i : Nat) (v : Word) : State :=
  { s with weights := SMap.set (fun _ => 0) s.weights (2048 * (32 * n + k) + i) v }

/-! ### The enable check (R143, R164) -/

/-- A tone's configuration is out of range (0x07). -/
def State.roRange (s : State) (n k : Nat) : Bool :=
  let len := s.fld (fRO_Tk_WIN_LEN_LEN n k)
  let nw := s.fld (fRO_Tk_WIN_LEN_NWEIGHT n k)
  let w := s.fld (fRO_Tk_TRACE_CFG_W n k)
  let nb := s.fld (fRO_Tk_TRACE_CFG_NBINS n k)
  16 < s.fld (fRO_Tk_ALLOC_ALLOC n k) || len = 0 || 16384 < len || nw = 0 || 2048 < nw || w = 0 || 16 < w ||
    nb = 0 || 1024 < nb || s.fld (fRO_Tk_RES_CFG_EXT n k) = 3 || s.fld (fRO_Tk_DISC_CFG_MIN_N n k) = 0 ||
    16384 < s.fld (fRO_Tk_DISC_CFG_MIN_N n k) || s.fld (fRO_Tk_TRK_CFG_K n k) = 0 ||
    16 < s.fld (fRO_Tk_TRK_HIST_CFG_HIST_SHIFT n k) || s.fld (fRO_Tk_TRK_CFG_MODE n k) = 3 ||
    s.fld (fRO_Tk_DISC_CFG_SEQ n k) = 3

/-- Is the tone in a sequential mode (R148)? -/
def State.sequential (s : State) (n k : Nat) : Bool := s.fld (fRO_Tk_DISC_CFG_SEQ n k) ∈ [1, 2]

/-- The tracker is on. -/
def State.tracking (s : State) (n k : Nat) : Bool := s.fld (fRO_Tk_TRK_CFG_MODE n k) ∈ [1, 2]

/-- The enable check of the read-out unit and its discriminators. -/
def State.roCheck (s : State) (n : Nat) : List Failure :=
  s.poolUnitCheck n ++
  failFirst 32 (s.roRange n) 0x07 ++
  ((List.range 2).filter (fun l => 4 < s.fld (fRO_Ll_CFG_SHIFT n l))).map (fun l => (0x07, 32 + l)) ++
  failIf (384 < s.allocSum n) 0x20 ++
  failFirst 32 (fun k => !s.toneInBand n (32 + k) (s.reg48 (rRO_Tk_FTW_L n k))) 0x21 ++
  ((List.range 2).filter (fun l => !carrierInBand (s.reg48 (rRO_Ll_CFTW_L n l)))).map (fun l => (0x21, 32 + l)) ++
  failFirst 32 (fun k => s.fld (fRO_Tk_WIN_LEN_LEN n k) < s.fld (fRO_Tk_WIN_LEN_NWEIGHT n k)) 0x28 ++
  failFirst 32 (fun k => 0 < s.fld (fRO_Tk_WIN_REP_REP n k) &&
    s.fld (fRO_Tk_WIN_REP_PERIOD n k) < s.fld (fRO_Tk_WIN_LEN_LEN n k)) 0x29 ++
  failFirst 32 (fun k => s.fld (fRO_Tk_WIN_LEN_LEN n k) <
    s.fld (fRO_Tk_TRACE_CFG_START n k) + s.fld (fRO_Tk_TRACE_CFG_NBINS n k) * s.fld (fRO_Tk_TRACE_CFG_W n k)) 0x2A ++
  failFirst 32 (fun k => s.flag (fRO_Tk_INJ_FEN_EN n k) && 0 < s.fld (fRO_Tk_WIN_REP_REP n k)) 0x2B ++
  failFirst 32 (fun k => s.sequential n k && s.fld (fRO_Tk_DISC_CFG_NLINES n k) != 1) 0x2C ++
  failFirst 32 (fun k => s.sequential n k && (s.regN (rRO_Tk_SEQ_THR n k) = 0 ||
    s.fld (fRO_Tk_WIN_LEN_LEN n k) < s.fld (fRO_Tk_DISC_CFG_MIN_N n k))) 0x2D ++
  failFirst 32 (fun k => (s.fld (fRO_Tk_TRK_CFG_MODE n k) = 2 && s.sequential n k) ||
    (s.tracking n k && s.fld (fRO_Tk_DISC_CFG_NLINES n k) = 0)) 0x2E

/-! ### Busy tones and lines -/

/-- A window's full length in ticks. -/
def State.winTicks (s : State) (n k : Nat) : Nat := 32 * s.fld (fRO_Tk_WIN_LEN_LEN n k)

/-- A window or a repetition sequence is in progress (R123). -/
def RoTone.busy (r : RoTone) : Bool := r.win.isSome || r.more != []

/-- The end of what is in progress, at full length; 0 when nothing is. -/
def State.busyEnd (s : State) (n k : Nat) : Nat :=
  let r := s.tone n k
  match r.more.getLast? with
  | some t => t + s.winTicks n k
  | none =>
    match r.win with
    | some w => w.opened + s.winTicks n k
    | none => 0

/-- Is any tone of a line busy? -/
def State.lineBusy (s : State) (n l : Nat) : Bool := (List.range 16).any (fun j => (s.tone n (16 * l + j)).busy)

/-- Is line l under foreground calibration (R139)? -/
def State.fgBusy (s : State) (n l : Nat) : Bool := s.flag (fRO_Ll_CAL_STATUS_FG_BUSY n l)

/-- Windows exist: RUN, DRAIN and DIAG, with the unit enabled (R140). -/
def State.winMode (s : State) (n : Nat) : Bool :=
  s.mode ∈ [modeRun, modeDrain, modeDiag] && s.flag (fRO_STATUS_ENABLED n)

/-! ### Swap steps (R136, R137) -/

/-- The spare takes the place of the next slice in turn. -/
def State.swapSpare (s : State) (n l : Nat) : State :=
  let s := s.setFld (fRO_Ll_CAL_STATUS_SPARE n l) ((s.fld (fRO_Ll_CAL_STATUS_SPARE n l) + 1) % 17)
  (s.incWrap (fRO_Ll_CAL_COUNT_SWAPS n l)).setFlag (fRO_Ll_CAL_STATUS_DEFERRING n l) false

/-- What a window's end does to a deferred swap step of its line. -/
def State.lineWindowEnd (s : State) (n l : Nat) : State :=
  let r := s.roLine n l
  if r.force then
    let open_ := (List.range 16).countP (fun j => (s.tone n (16 * l + j)).win.isSome)
    let s := (s.setRoLine n l { r with force := false }).swapSpare n l
    let s := (s.incSat (fRO_Ll_CAL_COUNT_FORCED n l)).incSat (fRO_Ll_CAL_COUNT_STRADDLED n l) open_
    s.poolFault n 0x0302 1 (32 + l) none
  else if s.flag (fRO_Ll_CAL_STATUS_DEFERRING n l) && !s.lineBusy n l then s.swapSpare n l
  else s

/-! ### Sums and the discriminator -/

/-- A sum in 48 bits, with whether it saturated. -/
def sat48 (a : Int × Bool) (v : Int) : Int × Bool :=
  let t := a.1 + v
  (satS 48 t, a.2 || satS 48 t != t)

/-- The accumulators of a window (R125). -/
structure Sums where
  wI : Int × Bool := (0, false)
  wQ : Int × Bool := (0, false)
  uI : Int × Bool := (0, false)
  uQ : Int × Bool := (0, false)
  minI : Int := 0
  maxI : Int := 0
  minQ : Int := 0
  maxQ : Int := 0
  deriving DecidableEq, Repr

/-- The weighted demod sample w(min(j, NWEIGHT − 1)) × s(j) (R124). -/
def State.weighted (s : State) (n k j : Nat) (x : Int × Int) : Int × Int :=
  let w := s.weight n k (min j (s.fld (fRO_Tk_WIN_LEN_NWEIGHT n k) - 1))
  let a := signed 16 (fieldOf w 15 0)
  let b := signed 16 (fieldOf w 31 16)
  (a * x.1 - b * x.2, a * x.2 + b * x.1)

/-- Adds demod sample j. -/
def State.addSample (s : State) (n k j : Nat) (a : Sums) (x : Int × Int) : Sums :=
  let w := s.weighted n k j x
  { wI := sat48 a.wI w.1
    wQ := sat48 a.wQ w.2
    uI := sat48 a.uI x.1
    uQ := sat48 a.uQ x.2
    minI := if j = 0 then x.1 else min a.minI x.1
    maxI := if j = 0 then x.1 else max a.maxI x.1
    minQ := if j = 0 then x.2 else min a.minQ x.2
    maxQ := if j = 0 then x.2 else max a.maxQ x.2 }

/-- The accumulators over demod samples, oldest first. -/
def State.sums (s : State) (n k : Nat) : Nat → Sums → List (Int × Int) → Sums
  | _, a, [] => a
  | j, a, x :: xs => State.sums s n k (j + 1) (s.addSample n k j a x) xs

/-- The distance d_i in 2⁻²⁴ (R145). -/
def State.distance (s : State) (n k i : Nat) (wI wQ : Int) : Int :=
  let a := s.fldS (fRO_Tk_LINEi_AB_A n i k)
  let b := s.fldS (fRO_Tk_LINEi_AB_B n i k)
  satS 32 (openRound (a * wI + b * wQ - s.fldS (fRO_Tk_LINEi_C_C n i k) * 2 ^ 21) 21)

/-- θ_app as the tracker mode gives it now (R155). -/
def State.thetaApp (s : State) (n k : Nat) : Int :=
  match s.fld (fRO_Tk_TRK_CFG_MODE n k) with
  | 1 => s.fldS (fRO_Tk_TRK_PIN_PIN n k)
  | 2 => s.fldS (fRO_Tk_TRK_EST_THETA_T n k)
  | _ => 0

/-- The state that the distances assign (R146). -/
def State.assign (s : State) (n k : Nat) (d0 d1 d2 theta : Int) : Nat :=
  let lines := s.fld (fRO_Tk_DISC_CFG_NLINES n k)
  if lines = 0 then 3
  else if (lines = 2 && 0 ≤ d1) || (lines = 3 && 0 ≤ d1 && 0 ≤ d2) then 2
  else if theta ≤ d0 then 1
  else 0

/-- A soft value in 2⁻¹⁶ and whether it saturated (R147). -/
def softSat (v : Int) : Int × Bool := (satS 24 v, satS 24 v != v)

/-- μ0 or μ1 is replaced: θ_T is their midpoint (R154). -/
def State.trkEstimate (s : State) (n k : Nat) : State :=
  s.setFldS (fRO_Tk_TRK_EST_THETA_T n k)
    ((s.fldS (fRO_Tk_TRK_MU0_MU n k) + s.fldS (fRO_Tk_TRK_MU1_MU n k)) / 2)

/-- The bin of a soft value (R157). -/
def State.histBin (s : State) (n k : Nat) (soft : Int) : Nat :=
  let b := (soft - s.fldS (fRO_Tk_TRK_HIST_CFG_HIST_LO n k)) / (2 : Int) ^ s.fld (fRO_Tk_TRK_HIST_CFG_HIST_SHIFT n k)
  if b < 0 then 0 else min b.toNat 255

/-- The divergence of θ_T from the pinned threshold (R156). -/
def State.trkDiverge (s : State) (n k : Nat) : State :=
  let lim := s.regN (rRO_Tk_TRK_DIV n k)
  let diff := (s.fldS (fRO_Tk_TRK_EST_THETA_T n k) - s.fldS (fRO_Tk_TRK_PIN_PIN n k)).natAbs
  let was := s.flag (fRO_Tk_DISC_STATUS_DIVERGED n k)
  if s.fld (fRO_Tk_TRK_CFG_MODE n k) != 1 || lim = 0 then s
  else if lim < diff && !was then
    let s := (s.setFlag (fRO_Tk_DISC_STATUS_DIVERGED n k) true).incSat (fRO_Tk_TRK_COUNT_DIVERGE n k)
    s.poolFault n 0x0307 1 k none
  else if 2 * diff ≤ lim then s.setFlag (fRO_Tk_DISC_STATUS_DIVERGED n k) false
  else s

/-- The tracker's update with x and the window's soft value (R154, R157). -/
def State.trkUpdate (s : State) (n k : Nat) (x soft : Int) : State :=
  if s.tracking n k then
    let sh := (2 : Int) ^ s.fld (fRO_Tk_TRK_CFG_K n k)
    let f := if s.fldS (fRO_Tk_TRK_EST_THETA_T n k) ≤ x then fRO_Tk_TRK_MU1_MU n k else fRO_Tk_TRK_MU0_MU n k
    let s := s.setFldS f (s.fldS f + (x - s.fldS f) / sh)
    let s := (s.trkEstimate n k).incWrap (fRO_Tk_TRK_COUNT_UPDATES n k)
    let s := if s.flag (fRO_Tk_TRK_CFG_HIST_FREEZE n k) then s
      else s.incSat (fRO_Tk_TRK_HIST_b_COUNT n k (s.histBin n k soft))
    s.trkDiverge n k
  else s

/-! ### Records and accumulators -/

/-- A 48-bit integral as a result word, and whether the word saturated (R128). -/
def State.resultWord (s : State) (n k : Nat) (v : Int) : Word × Bool :=
  if s.flag (fRO_Tk_RES_CFG_ALIGN n k) then (BitVec.ofInt 32 (satS 32 v), satS 32 v != v)
  else (BitVec.ofInt 32 (v / 2 ^ 16), false)

/-- A minimum or maximum as a result word (R128). -/
def State.extremeWord (s : State) (n k : Nat) (v : Int) : Word :=
  if s.flag (fRO_Tk_RES_CFG_ALIGN n k) then BitVec.ofInt 32 v else BitVec.ofInt 32 (v * 2 ^ 14)

/-- Posts the records of a window to the result FIFO (R131). -/
def State.postRecords (s : State) (n : Nat) (r : WinRecs) : State :=
  if !s.poolInRun n then s
  else
    let level := s.fld (fRO_FIFO_LEVEL n)
    if 256 < level + r.words.length / 4 then
      ((s.incSat (fRO_FIFO_LOST n)).poolFault n 0x0306 1 (r.tone % 32) (some r.tEnd)).runLost n
    else
      { s with fifos := SMap.set (fun _ => []) s.fifos n (s.fifo n ++ [r]) }.setFld (fRO_FIFO_LEVEL n)
        (level + r.words.length / 4)

/-- Adds a result word to an across-shot sum in 64 bits. -/
def sat64 (a v : Int) : Int × Bool := (satS 64 (a + v), satS 64 (a + v) != a + v)
def satU64 (a v : Nat) : Nat × Bool := (satU 64 (a + v), satU 64 (a + v) != a + v)

/-- Adds the demod samples of trace bin b. -/
def binSum (samples : List (Int × Int)) (start w b : Nat) (old : Int × Int) : (Int × Int) × Bool :=
  ((samples.drop (start + b * w)).take w).foldl (fun acc x =>
    let i := sat64 acc.1.1 x.1
    let q := sat64 acc.1.2 x.2
    ((i.1, q.1), acc.2 || i.2 || q.2)) (old, false)

/-- An accumulated window adds to the across-shot accumulators and trace bins (R132, R133). -/
def State.accumulate (s : State) (n k : Nat) (wI wQ : Int) (samples : List (Int × Int)) : State :=
  let acc := s.flag (fRO_Tk_RES_CFG_ACC_EN n k)
  let trace := s.flag (fRO_Tk_RES_CFG_TRACE_EN n k)
  let r := s.tone n k
  if s.regN (rRO_Tk_SHOTS n k) = 0xFFFFFFFF then
    if acc || trace then s.setTone n k { r with accSat := true } else s
  else
    let s :=
      if acc then
        let a := sat64 r.sumI wI
        let b := sat64 r.sumQ wQ
        let c := satU64 r.sqI (wI * wI).toNat
        let d := satU64 r.sqQ (wQ * wQ).toNat
        (s.setTone n k { r with
          sumI := a.1, sumQ := b.1, sqI := c.1, sqQ := d.1, accSat := r.accSat || a.2 || b.2 || c.2 || d.2 }).incSat
          (fRO_Tk_SHOTS_SHOTS n k)
      else s
    if trace then
      let r := s.tone n k
      let nb := s.fld (fRO_Tk_TRACE_CFG_NBINS n k)
      let bins := (List.range nb).map (fun b =>
        binSum samples (s.fld (fRO_Tk_TRACE_CFG_START n k)) (s.fld (fRO_Tk_TRACE_CFG_W n k)) b (r.bins.getD b (0, 0)))
      s.setTone n k { r with
        bins := bins.map (·.1) ++ r.bins.drop nb, traceSat := r.traceSat || bins.any (·.2) }
    else s

/-- Clears the across-shot accumulators and trace bins of a tone (R134). -/
def State.accClear (s : State) (n k : Nat) : State :=
  (s.setTone n k { s.tone n k with
    sumI := 0, sumQ := 0, sqI := 0, sqQ := 0, accSat := false, traceSat := false, bins := [] }).setReg
    (rRO_Tk_SHOTS n k) 0

/-- The snapshot of READ_ACC (R134): bins from the tone's NBINS on are zeros. -/
def State.accSnapshot (s : State) (n k nbins : Nat) : List Byte :=
  let r := s.tone n k
  leBytes 4 (s.regN (rRO_Tk_SHOTS n k)) ++ leBytes 4 (bit r.accSat + 2 * bit r.traceSat) ++
    leBytes 8 (unsigned 64 r.sumI) ++ leBytes 8 (unsigned 64 r.sumQ) ++ leBytes 8 r.sqI ++ leBytes 8 r.sqQ ++
    leBytes 8 0 ++
    (List.range nbins).flatMap (fun b =>
      let v := if b < s.fld (fRO_Tk_TRACE_CFG_NBINS n k) then r.bins.getD b (0, 0) else (0, 0)
      leBytes 8 (unsigned 64 v.1) ++ leBytes 8 (unsigned 64 v.2))

/-- HIST_CLR. -/
def State.histClear (s : State) (n k : Nat) : State :=
  forRange 256 (fun b t => t.setReg (rRO_Tk_TRK_HIST_b n k b) 0) s

/-! ### The end of a window -/

/-- A tone's decision reaches its slot (R159). -/
def State.decide (s : State) (n k state : Nat) : State :=
  if s.flag (fRO_Tk_DISC_CFG_DEC_EN n k) && state < 3 then
    (s.incWrap (fRO_Tk_DISC_COUNT_DECISIONS n k)).slotDecide (32 * n + k) state
  else s

/-- The records of a window (R129, R130), and the window's SATURATED flag. -/
def State.winRecords (s : State) (n k : Nat) (w : Win) (a : Sums) (state : Nat) (early truncated sat : Bool) :
    WinRecs :=
  let tEnd := w.opened + 32 * w.samples.length
  let i := s.resultWord n k a.wI.1
  let q := s.resultWord n k a.wQ.1
  let ui := s.resultWord n k a.uI.1
  let uq := s.resultWord n k a.uQ.1
  let ext := s.fld (fRO_Tk_RES_CFG_EXT n k)
  let sat := sat || i.2 || q.2 || (1 ≤ ext && (ui.2 || uq.2))
  let word2 := state + 4 * bit early + 8 * bit w.inj + 16 * bit truncated + 32 * bit sat +
    256 * (32 * n + k) + 2 ^ 17 * (w.shot % 2 ^ 15)
  { tone := 32 * n + k
    tEnd := tEnd
    words := [i.1, q.1, BitVec.ofNat 32 word2, BitVec.ofNat 32 tEnd] ++
      (if 1 ≤ ext then [ui.1, uq.1, BitVec.ofNat 32 w.samples.length, BitVec.ofNat 32 tEnd] else []) ++
      (if ext = 2 then [s.extremeWord n k a.minI, s.extremeWord n k a.maxI, s.extremeWord n k a.minQ,
        s.extremeWord n k a.maxQ] else []) }

/-- A waiting injected request opens at the busy end, which an early close may bring forward (R126, R151). -/
def State.injAdvance (s : State) (n k tEnd : Nat) : State :=
  let r := s.tone n k
  match r.inj with
  | some (nat, at_) => if !r.busy && tEnd < at_ then s.setTone n k { r with inj := some (nat, max nat tEnd) } else s
  | none => s

/-- The window of a tone closes: the tone's busy time, its line's calibration and a waiting request follow. -/
def State.closeWindow (s : State) (n k tEnd : Nat) : State :=
  (((s.setTone n k { s.tone n k with win := none }).runWindow n k tEnd).injAdvance n k tEnd).lineWindowEnd n (k / 16)

/-- The first ramp tick of an early close (R152). -/
def rampTick (tEnd : Nat) : Nat := gridUp 8 (tEnd + 896)

/-- An early close ramps down the transmit chain that started at or before T_end (R152). -/
def State.armRamp (s : State) (n k tEnd : Nat) : State :=
  let c := s.chain n (32 + k)
  if c.active && c.began ≤ tEnd then s.setChain n (32 + k) { c with rampDown := some (rampTick tEnd) } else s

/-- A window ends without truncation, with the samples it has (R129, R146 to R151). -/
def State.finishWindow (s : State) (n k : Nat) (w : Win) (early : Bool) : State :=
  let samples := w.samples.reverse
  let a := s.sums n k 0 {} samples
  let tEnd := w.opened + 32 * samples.length
  let seq := s.sequential n k
  let theta := if seq then w.theta else s.thetaApp n k
  let d0 := s.distance n k 0 a.wI.1 a.wQ.1
  let fromSeq : Nat × Int := w.decided.getD
    ((if 0 ≤ w.lam - theta * 2 ^ 21 then 1 else 0), w.lam - theta * 2 ^ 21)
  let state := if seq then fromSeq.1
    else s.assign n k d0 (s.distance n k 1 a.wI.1 a.wQ.1) (s.distance n k 2 a.wI.1 a.wQ.1) theta
  let soft := softSat (if seq then openRound fromSeq.2 29 else openRound (d0 - theta) 8)
  let s := if seq && w.decided.isNone then s.incSat (fRO_Tk_DISC_COUNT_UNDECIDED n k) else s
  let s := if w.decided.isSome then s else s.decide n k state
  let s := s.setFldS (fRO_Tk_DISC_STATUS_SOFT n k) soft.1
  let s := s.setFld (fRO_Tk_DISC_STATUS_STATE n k) state
  let s := if !early && state < 2 then
      s.trkUpdate n k (if seq then satS 32 (openRound w.lam 21) else d0) soft.1
    else s
  let sat := w.overRange || a.wI.2 || a.wQ.2 || a.uI.2 || a.uQ.2 || soft.2
  let recs := s.winRecords n k w a state early false sat
  let s := if s.flag (fRO_Tk_RES_CFG_POST n k) then s.postRecords n recs else s
  let s := if early then s.armRamp n k tEnd
    else s.accumulate n k (s.resultWord n k a.wI.1).1.toInt (s.resultWord n k a.wQ.1).1.toInt samples
  s.closeWindow n k tEnd

/-- A window is truncated (R141). -/
def State.truncate (s : State) (n k : Nat) (w : Win) : State :=
  let a := s.sums n k 0 {} w.samples.reverse
  let sat := w.overRange || a.wI.2 || a.wQ.2 || a.uI.2 || a.uQ.2
  let recs := s.winRecords n k w a 3 false true sat
  let s := s.setFld (fRO_Tk_DISC_STATUS_SOFT n k) 0
  let s := s.setFld (fRO_Tk_DISC_STATUS_STATE n k) 3
  let s := if s.flag (fRO_Tk_RES_CFG_POST n k) then s.postRecords n recs else s
  (s.poolFault n 0x0305 1 k (some recs.tEnd)).closeWindow n k recs.tEnd

/-- Truncates the open window of a tone and cancels what has not opened (R141). -/
def State.truncateTone (s : State) (n k : Nat) : State :=
  let r := s.tone n k
  let s := s.setTone n k { r with seqs := [], more := [], inj := none }
  match r.win with
  | some w => s.truncate n k w
  | none => s

/-- Truncates every tone of a Pool. -/
def State.truncatePool (s : State) (n : Nat) : State := forRange 32 (fun k t => t.truncateTone n k) s

/-! ### Samples -/

/-- The sequential test on Λ after a demod sample (R149): the state decided. -/
def State.seqTest (s : State) (n k count : Nat) (lam theta : Int) : Option Nat :=
  let a : Int := s.regN (rRO_Tk_SEQ_THR n k) * 2 ^ 21
  let v := lam - theta * 2 ^ 21
  if count < s.fld (fRO_Tk_DISC_CFG_MIN_N n k) then none
  else if a ≤ v then some 1
  else if v ≤ -a then some 0
  else none

/-- A demod sample enters the open window of a tone. -/
def State.takeDemod (s : State) (n k : Nat) (x : Int × Int) : State :=
  let r := s.tone n k
  match r.win with
  | none => s
  | some w =>
    let len := s.fld (fRO_Tk_WIN_LEN_LEN n k)
    let j := w.samples.length
    if len ≤ j then s
    else
      let p := s.weighted n k j x
      let lam := w.lam + s.fldS (fRO_Tk_LINEi_AB_A n 0 k) * p.1 + s.fldS (fRO_Tk_LINEi_AB_B n 0 k) * p.2 -
        s.fldS (fRO_Tk_SEQ_BIAS_BETA n k) * 2 ^ 14
      let w := { w with samples := x :: w.samples, lam := lam }
      let hit := if s.sequential n k && w.decided.isNone then s.seqTest n k (j + 1) lam w.theta else none
      match hit with
      | none => s.setTone n k { r with win := some w }
      | some st =>
        let w := { w with decided := some (st, lam - w.theta * 2 ^ 21) }
        let s := (s.setTone n k { r with win := some w }).decide n k st
        if s.fld (fRO_Tk_DISC_CFG_SEQ n k) = 2 && j + 1 < len then s.finishWindow n k w true else s

/-- Has the open window of a tone decided? -/
def State.winDecided (s : State) (n k : Nat) : Bool :=
  match (s.tone n k).win with
  | some w => w.decided.isSome
  | none => true

/-- Demod samples enter the window, oldest first; with `stop`, none after the sequential decision. -/
def State.takeDemods (s : State) (n k : Nat) (stop : Bool) : List (BitVec 18 × BitVec 18) → State
  | [] => s
  | x :: xs =>
    let s := s.takeDemod n k (x.1.toInt, x.2.toInt)
    if stop && s.winDecided n k then s else State.takeDemods s n k stop xs

/-- WINDOW_END: the remaining samples enter, and a window that holds LEN of them ends. -/
def State.windowEnd (s : State) (n k : Nat) (xs : List (BitVec 18 × BitVec 18)) : State :=
  let opened := (s.tone n k).win.map (·.opened)
  let s := s.takeDemods n k false xs
  match (s.tone n k).win with
  | some w =>
    if some w.opened = opened && s.fld (fRO_Tk_WIN_LEN_LEN n k) ≤ w.samples.length then s.finishWindow n k w false else s
  | none => s

/-! ### Opening windows -/

/-- A timed WIN is not executed on a tone (R123). -/
def State.winFault (s : State) (n k t : Nat) : State :=
  (s.incSat (fRO_Tk_COUNT_WIN_FAULT n k)).poolFault n 0x0304 1 k (some t)

/-- WIN on a tone, at its commit (R122, R123): the window opens at T + 32 × WIN_DELAY. -/
def State.winCommit (s : State) (n k t : Nat) : State :=
  if t % 8 ≠ 0 then s.winFault n k t
  else
    let r := s.tone n k
    s.setTone n k { r with
      seqs := r.seqs ++ [{ time := t, first := t + 32 * s.fld (fRO_Tk_WIN_DELAY_WIN_DELAY n k) }] }

/-- Does T fall on foreground calibration, from acceptance until DONE (R123)? -/
def State.fgCovers (s : State) (n l t : Nat) : Bool :=
  match (s.roLine n l).fgFrom with
  | some a => a ≤ t && (s.fgBusy n l || (match (s.roLine n l).fgTo with
      | some b => t < b
      | none => false))
  | none => false

/-- A window opens on a tone at a tick. -/
def State.openAt (s : State) (n k at_ : Nat) (inj : Bool) : State :=
  let r := s.tone n k
  let s := s.setTone n k { r with
    win := some { opened := at_, inj := inj, theta := s.thetaApp n k, shot := r.count }, count := r.count + 1 }
  if s.flag (fRO_Tk_DISC_CFG_INV_ON_OPEN n k) && s.flag (fRO_Tk_DISC_CFG_DEC_EN n k) then
    s.slotInvalidate (32 * n + k)
  else s

/-- The open times of the repetitions of a WIN (R122). -/
def State.repetitions (s : State) (n k first : Nat) : List Nat :=
  (List.range (s.fld (fRO_Tk_WIN_REP_REP n k))).map (fun i => first + 32 * s.fld (fRO_Tk_WIN_REP_PERIOD n k) * (i + 1))

/-- The first window of a timed WIN: refused on a busy tone or under calibration; it displaces a waiting request (R123,
R127). -/
def State.openTimed (s : State) (n k : Nat) (q : WinSeq) : State :=
  let r := s.tone n k
  let rest := { r with seqs := r.seqs.tail }
  if s.fgCovers n (k / 16) q.time || q.first < s.busyEnd n k then (s.setTone n k rest).winFault n k q.time
  else if r.busy then s
  else
    let s := if r.inj.isSome then s.incSat (fRO_Tk_COUNT_INJ_DROP n k) else s
    (s.setTone n k { rest with inj := none, more := s.repetitions n k q.first }).openAt n k q.first false

/-- WINDOW_OPEN: the window of a tone that is due next opens. -/
def State.windowOpen (s : State) (n k : Nat) : State :=
  if !s.winMode n then s
  else
    let r := s.tone n k
    let seqFirst : Bool := match r.seqs.head? with
      | some q => (match r.more.head? with
          | some t => q.first ≤ t
          | none => true) && (match r.inj with
          | some (_, t) => q.first ≤ t
          | none => true)
      | none => false
    if seqFirst then
      match r.seqs.head? with
      | some q => s.openTimed n k q
      | none => s
    else if r.win.isSome then s
    else
      match r.more, r.inj with
      | t :: rest, _ => (s.setTone n k { r with more := rest }).openAt n k t false
      | [], some (_, t) => (s.setTone n k { r with inj := none }).openAt n k t true
      | [], none => s

/-! ### Injected windows (R126, R127) -/

/-- The busy end that covers a tick, over committed WINs in order. -/
def busyCover (len : Nat) (reps : Nat → List Nat) (t : Nat) : Nat → List WinSeq → Option Nat
  | cur, [] => if t < cur then some cur else none
  | cur, q :: qs =>
    if t < cur then some cur
    else if q.first < cur then busyCover len reps t cur qs
    else if t < q.first then none
    else busyCover len reps t (((reps q.first).getLastD q.first) + len) qs

/-- WINDOW_START on a tone (R126, R127, R139, R140). -/
def State.windowStart (s : State) (n k : Nat) : State :=
  if !s.flag (fRO_Tk_INJ_FEN_EN n k) then s
  else
    let r := s.tone n k
    if !s.winMode n || s.fgBusy n (k / 16) || r.inj.isSome then s.incSat (fRO_Tk_COUNT_INJ_DROP n k)
    else
      let nat := gridUp 8 (s.now + 32) + 32 * s.fld (fRO_Tk_WIN_DELAY_WIN_DELAY n k)
      match busyCover (s.winTicks n k) (s.repetitions n k) nat (s.busyEnd n k) r.seqs with
      | none => s.setTone n k { r with inj := some (nat, nat) }
      | some e =>
        if e - nat ≤ 32 * s.fld (fRO_Tk_INJ_INJ_WAIT n k) then
          (s.setTone n k { r with inj := some (nat, e) }).incSat (fRO_Tk_COUNT_INJ_WAITED n k)
        else s.incSat (fRO_Tk_COUNT_INJ_DROP n k)

/-! ### Calibration (R136 to R139) -/

/-- CALIBRATE has completed for Pool n. -/
def State.poolCalibrated (s : State) (n : Nat) : Bool := bitOf (s.fld fPM_CAL_STATUS_POOL_CAL) n

/-- SWAP_STEP: a swap step falls due on a line. -/
def State.swapStep (s : State) (n l : Nat) : State :=
  if s.poolLive n && s.mode ∈ [modeReady, modeRun, modeDrain, modeDiag] && s.poolCalibrated n &&
      !s.flag (fRO_Ll_CAL_STATUS_FROZEN n l) && !(s.roLine n l).begun then
    if s.lineBusy n l then s.setFlag (fRO_Ll_CAL_STATUS_DEFERRING n l) true else s.swapSpare n l
  else s

/-- SWAP_DEFERRAL_TIMEOUT: the deferred step is forced at the next window end. -/
def State.swapTimeout (s : State) (n l : Nat) : State :=
  if s.flag (fRO_Ll_CAL_STATUS_DEFERRING n l) then s.setRoLine n l { s.roLine n l with force := true } else s

/-- A write of POOLn_RO_Ll_CAL_CFG (R138). -/
def State.calCfgWrite (s : State) (n l : Nat) (v : Word) : State :=
  let s := s.setReg (rRO_Ll_CAL_CFG n l) (v &&& 0xFFFF03FF)
  let frozen := s.flag (fRO_Ll_CAL_STATUS_FROZEN n l)
  if v.getLsbD 8 == frozen then s
  else
    let s := s.setFlag (fRO_Ll_CAL_STATUS_FROZEN n l) (v.getLsbD 8)
    let s := s.setRoLine n l { s.roLine n l with expired := false }
    if v.getLsbD 8 then
      (s.setFlag (fRO_Ll_CAL_STATUS_DEFERRING n l) false).setRoLine n l { s.roLine n l with force := false }
    else s

/-- FREEZE_EXPIRY. -/
def State.freezeExpiry (s : State) (n l : Nat) : State :=
  if !s.flag (fRO_Ll_CAL_STATUS_FROZEN n l) then s
  else if s.flag (fRO_Ll_CAL_CFG_FREEZE_HARD n l) then
    if (s.roLine n l).expired then s
    else ((s.setRoLine n l { s.roLine n l with expired := true }).setFlag (fRO_Ll_CAL_STATUS_DRIFT n l) true).poolFault n
      0x0303 1 (32 + l) none
  else
    ((s.setFlag (fRO_Ll_CAL_CFG_FREEZE n l) false).setFlag (fRO_Ll_CAL_STATUS_FROZEN n l) false).setFlag
      (fRO_Ll_CAL_STATUS_FREEZE_EXPIRED n l) true

/-- FGCAL_START (R139). -/
def State.fgStart (s : State) (n l : Nat) : State :=
  if s.fgBusy n l || !(s.mode ∈ [modeReady, modeRun, modeCalibrate, modeDiag]) then
    (s.setFlag (fRO_Ll_FGCAL_REFUSED n l) true).setFld (fRO_Ll_FGCAL_REASON n l) 0x02
  else
    let s := (s.setFlag (fRO_Ll_FGCAL_REFUSED n l) false).setFld (fRO_Ll_FGCAL_REASON n l) 0
    let s := (s.setFlag (fRO_Ll_FGCAL_DONE n l) false).setFlag (fRO_Ll_CAL_STATUS_FG_BUSY n l) true
    s.setRoLine n l { s.roLine n l with fgFrom := some s.now, fgTo := none, begun := false }

/-- Has the line anything left that was requested before the calibration was accepted? -/
def State.lineOwes (s : State) (n l : Nat) : Bool :=
  s.lineBusy n l ||
    (List.range 16).any (fun j =>
      let r := s.tone n (16 * l + j)
      r.inj.isSome || r.seqs.any (fun q => !s.fgCovers n l q.time))

/-- FGCAL_BEGIN. -/
def State.fgBegin (s : State) (n l : Nat) : State :=
  if s.fgBusy n l && !s.lineOwes n l then s.setRoLine n l { s.roLine n l with begun := true } else s

/-- FGCAL_DONE. -/
def State.fgDone (s : State) (n l : Nat) : State :=
  if s.fgBusy n l && (s.roLine n l).begun then
    let s := (s.setFlag (fRO_Ll_FGCAL_DONE n l) true).setFlag (fRO_Ll_CAL_STATUS_FG_BUSY n l) false
    s.setRoLine n l { s.roLine n l with fgTo := some s.now, begun := false }
  else s

/-- ADC_OVER_RANGE: counted, and flagged on every open window of the line (R118). -/
def State.overRange (s : State) (n l : Nat) : State :=
  if s.poolLive n then
    let s := (s.incSat (fRO_Ll_ADC_SAT_SAT n l)).poolFault n 0x0301 1 (32 + l) none
    forRange 16 (fun j t =>
      let r := t.tone n (16 * l + j)
      match r.win with
      | some w => t.setTone n (16 * l + j) { r with win := some { w with overRange := true } }
      | none => t) s
  else s

/-! ### The unit -/

/-- Is a target of R207 served by the read-out unit: transmit tones, window engines, line carriers? -/
def tgtReadout (tgt : Nat) : Bool := (0x20 ≤ tgt && tgt < 0x40) || (0x4C ≤ tgt && tgt < 0x4E) || 0x60 ≤ tgt

def State.roDisable (s : State) (n : Nat) : State :=
  ((((s.endChains n 32 64).truncatePool n).disarm n tgtReadout).setFlag (fRO_CTRL_ENABLE n) false).setFlag
    (fRO_STATUS_ENABLED n) false

def State.roEnable (s : State) (n : Nat) : State :=
  let s := s.setFlag (fRO_CTRL_ENABLE n) true
  if s.flag (fRO_STATUS_ENABLED n) then s
  else
    let s := s.unitOutcome (uRO n) (fRO_STATUS_ENABLED n) (fRO_STATUS_REFUSED n) (fRO_STATUS_REASON n)
      (some (fRO_STATUS_ITEM n)) (s.roCheck n)
    if s.flag (fRO_STATUS_ENABLED n) then { s with roEver := putBit s.roEver n true } else s

/-- CLR_COUNT: every tone COUNT and line SAT and CAL_COUNT register. -/
def State.roClrCount (s : State) (n : Nat) : State :=
  forRange 2 (fun l t => ((t.setReg (rRO_Ll_TX_SAT n l) 0).setReg (rRO_Ll_ADC_SAT n l) 0).setReg (rRO_Ll_CAL_COUNT n l) 0)
    (forRange 32 (fun k t => t.setReg (rRO_Tk_COUNT n k) 0) s)

/-- A write of POOLn_RO_CTRL. -/
def State.roCtrlWrite (s : State) (n : Nat) (v : Word) : State :=
  let s := if v.getLsbD 1 then s.roClrCount n else s
  if v.getLsbD 0 then s.roEnable n
  else if s.poolHeld n then s
  else s.roDisable n

/-- A write of POOLn_RO_Ll_FGCAL. -/
def State.fgcalWrite (s : State) (n l : Nat) (v : Word) : State :=
  let s := if v.getLsbD 1 then s.setFlag (fRO_Ll_FGCAL_DONE n l) false else s
  if v.getLsbD 0 then s.fgStart n l else s

/-- A write of POOLn_RO_Tk_TRK_CFG: the RWL fields where the unit is not enabled, and the histogram's bits. -/
def State.trkCfgWrite (s : State) (n k : Nat) (v : Word) : State :=
  let s := if s.flag (fRO_STATUS_ENABLED n) then s
    else (s.setFld (fRO_Tk_TRK_CFG_MODE n k) (fieldOf v 1 0)).setFld (fRO_Tk_TRK_CFG_K n k) (fieldOf v 11 8)
  let s := if s.fld (fRO_Tk_TRK_CFG_MODE n k) = 1 then s else s.setFlag (fRO_Tk_DISC_STATUS_DIVERGED n k) false
  let s := s.setFld (fRO_Tk_TRK_CFG_HIST_FREEZE n k) (fieldOf v 12 12)
  if v.getLsbD 13 then s.histClear n k else s

/-- EARLY_CLOSE_RAMP: the transmit chain ramps down over 128 ticks and ends (R152). -/
def State.earlyCloseRamp (s : State) (n k : Nat) : State :=
  let c := s.chain n (32 + k)
  match c.rampDown with
  | some t => if c.active then (s.takeUpTo n (32 + k) (c.placedBefore (t + 128))).chainEnd n (32 + k) else s
  | none => s

/-! ### The commands -/

/-- RO_ENABLE. -/
def execRoEnable (p : Path) (n : Fin 16) (s : State) : Result :=
  done (s.viaBus p (rRO_CTRL n.val) (·.roCtrlWrite n.val 1))

/-- RO_DISABLE. -/
def execRoDisable (p : Path) (n : Fin 16) (s : State) : Result :=
  done (s.viaBus p (rRO_CTRL n.val) (·.roCtrlWrite n.val 0))

/-- RO_CLR_COUNT: ENABLE is written as it stands. -/
def execRoClrCount (p : Path) (n : Fin 16) (s : State) : Result :=
  done (s.viaBus p (rRO_CTRL n.val) (·.roClrCount n.val))

/-- WINDOW_OPEN. -/
def execWindowOpen (n : Fin 16) (k : Fin 32) (s : State) : Result := done (s.windowOpen n.val k.val)

/-- WINDOW_END. -/
def execWindowEnd (n : Fin 16) (k : Fin 32) (xs : List (BitVec 18 × BitVec 18)) (s : State) : Result :=
  done (s.windowEnd n.val k.val xs)

/-- SEQUENTIAL_DECISION: demod samples enter the window up to the one that decides. -/
def execSequentialDecision (n : Fin 16) (k : Fin 32) (xs : List (BitVec 18 × BitVec 18)) (s : State) : Result :=
  done (s.takeDemods n.val k.val true xs)

/-- EARLY_CLOSE_RAMP. -/
def execEarlyCloseRamp (n : Fin 16) (k : Fin 32) (s : State) : Result := done (s.earlyCloseRamp n.val k.val)

/-- WINDOW_START. -/
def execWindowStart (n : Fin 16) (k : Fin 32) (s : State) : Result :=
  done ((s.takeAct (0x80 * n.val + 0x20 + k.val)).when (s.poolLive n.val) (·.windowStart n.val k.val))

/-- SWAP_STEP. -/
def execSwapStep (n : Fin 16) (l : Fin 2) (s : State) : Result := done (s.swapStep n.val l.val)

/-- SWAP_DEFERRAL_TIMEOUT. -/
def execSwapDeferralTimeout (n : Fin 16) (l : Fin 2) (s : State) : Result := done (s.swapTimeout n.val l.val)

/-- CAL_FREEZE. -/
def execCalFreeze (p : Path) (n : Fin 16) (l : Fin 2) (v : Word) (s : State) : Result :=
  done (s.viaBus p (rRO_Ll_CAL_CFG n.val l.val) (·.calCfgWrite n.val l.val v))

/-- FREEZE_EXPIRY. -/
def execFreezeExpiry (n : Fin 16) (l : Fin 2) (s : State) : Result := done (s.freezeExpiry n.val l.val)

/-- FGCAL_START. -/
def execFgcalStart (p : Path) (n : Fin 16) (l : Fin 2) (s : State) : Result :=
  done (s.viaBus p (rRO_Ll_FGCAL n.val l.val) (·.fgcalWrite n.val l.val 1))

/-- FGCAL_BEGIN. -/
def execFgcalBegin (n : Fin 16) (l : Fin 2) (s : State) : Result := done (s.fgBegin n.val l.val)

/-- FGCAL_DONE. -/
def execFgcalDone (n : Fin 16) (l : Fin 2) (s : State) : Result := done (s.fgDone n.val l.val)

/-- ACC_CLR. -/
def execAccClr (p : Path) (n : Fin 16) (k : Fin 32) (s : State) : Result :=
  done (s.viaBus p (rRO_Tk_ACC_CTRL n.val k.val) (·.accClear n.val k.val))

/-- HIST_CLR: the other fields of TRK_CFG are written as they stand. -/
def execHistClr (p : Path) (n : Fin 16) (k : Fin 32) (s : State) : Result :=
  done (s.viaBus p (rRO_Tk_TRK_CFG n.val k.val) (·.histClear n.val k.val))

/-- ADC_OVER_RANGE. -/
def execAdcOverRange (n : Fin 16) (l : Fin 2) (s : State) : Result := done (s.overRange n.val l.val)

end Sys2Proof.Machine
end

