-- ==== Sys2Proof/Machine/Reed.lean ====
section
/-!
DEFINITION. A Reed core: its registers and shadow banks, the exposed pipeline, delay slots, zero-overhead loops, faults,
interrupts, program images, and its states (chapter "Reed cores: execution and timing", R166 to R203, and R229 to R231).

A bundle comes as commands: a D-slot operation opens a bundle, and a T-slot operation joins it and ends it; a long T-slot
operation, a D-slot operation with an immediate and a control-flow operation are a bundle each. A bundle whose T-slot
operation is not given has TNOP there. The commands of a bundle stand for the cycle in which it is in DE.
Cores have their global number c = 4n + i.
-/
namespace Sys2Proof.Machine

/-! ### Records -/

def State.core (s : State) (c : Nat) : Core := SMap.get (fun _ => {}) s.cores c
def State.setCore (s : State) (c : Nat) (k : Core) : State := { s with cores := SMap.set (fun _ => {}) s.cores c k }

def rcReset : Nat := 0
def rcLoaded : Nat := 1
def rcRunning : Nat := 2
def rcHalting : Nat := 3
def rcHalted : Nat := 4
def rcFaulted : Nat := 5
def rcStopped : Nat := 6

/-- RC_STATUS.STATE (R198). -/
def State.rcState (s : State) (c : Nat) : Nat := s.fld (fRC_i_STATUS_STATE (c / 4) (c % 4))
def State.setRcState (s : State) (c v : Nat) : State := s.setFld (fRC_i_STATUS_STATE (c / 4) (c % 4)) v

/-- CL. -/
def State.level (s : State) (c : Nat) : Nat := s.fld (fRC_i_STATUS_CL (c / 4) (c % 4))
def State.setLevel (s : State) (c v : Nat) : State := s.setFld (fRC_i_STATUS_CL (c / 4) (c % 4)) v

/-- The index of the bundle in DE. -/
def State.pc (s : State) (c : Nat) : Nat := s.fld (fRC_i_PC_PC (c / 4) (c % 4))
def State.setPc (s : State) (c v : Nat) : State := s.setFld (fRC_i_PC_PC (c / 4) (c % 4)) v

/-- The schedule time of a core. -/
def State.schedule (s : State) (c : Nat) : Nat := (s.core c).st.toNat

/-! ### Registers (R173, R218) -/

def idN : Nat := 0x90
def idZ : Nat := 0x91
def idV : Nat := 0x92
def idC : Nat := 0x93
def idSat : Nat := 0x94
def idBe : Nat := 0x60
/-- Start, end and count of loop level L. -/
def idLS (l : Nat) : Nat := 0x68 + 3 * l
def idLE (l : Nat) : Nat := 0x69 + 3 * l
def idLC (l : Nat) : Nat := 0x6A + 3 * l
/-- The real and imaginary half of an accumulator. -/
def idRe (a : Nat) : Nat := 0x80 + 2 * a
def idIm (a : Nat) : Nat := 0x81 + 2 * a

/-- Does a register exist once in each bank? -/
def banked (id : Nat) : Bool :=
  (0x10 ≤ id && id < 0x20) || (0x44 ≤ id && id < 0x48) || (0x4C ≤ id && id < 0x50) || 0x88 ≤ id

/-- The key of a register in a bank. -/
def bankKey (bank id : Nat) : Nat := if banked id then id + 256 * bank else id

/-- The width of a register. -/
def regWidth (id : Nat) : Nat :=
  if id < 0x40 then 32
  else if id < 0x58 then 16
  else if id < 0x60 then 17
  else if id = idBe then 5
  else if id < 0x80 then (if (id - 0x68) % 3 = 2 then 16 else 14)
  else if id < 0x90 then 40
  else 1

/-- A register as the loop mechanism and control-flow bundles see it: every result of two bundles before is there. -/
def Core.file (k : Core) (key : Nat) : Nat := SMap.get (fun _ => 0) k.regs key

/-- A register as the D-slot and T-slot of the bundle in progress see it (R169). -/
def Core.seen (k : Core) (key : Nat) : Nat :=
  k.flight.foldl (fun v f => if f.key = key && f.due ≤ k.no then f.val else v) (k.file key)

/-- The value that every earlier-issued bundle leaves in a register (R216). -/
def Core.newest (k : Core) (key : Nat) : Nat :=
  k.flight.foldl (fun v f => if f.key = key then f.val else v) (k.file key)

/-- Writes results into the registers, in the order of issue (R170). -/
def retire (regs : SMap Nat) (fs : List InFlight) : SMap Nat :=
  fs.foldl (fun m f => SMap.set (fun _ => 0) m f.key f.val) regs

/-- Every result in flight is written. -/
def Core.drain (k : Core) : Core := { k with regs := retire k.regs k.flight, flight := [] }

/-- Reads a register in OF, in the bank in force. -/
def State.rd (s : State) (c id : Nat) : Nat := (s.core c).seen (bankKey (s.level c) id)

/-- Reads a register in DE, in the bank in force. -/
def State.rdDE (s : State) (c id : Nat) : Nat := (s.core c).file (bankKey (s.level c) id)

/-- The general register g as a word. -/
def State.g (s : State) (c g : Nat) : Word := BitVec.ofNat 32 (s.rd c g)

def latAlu : Nat := 2
def latLoad : Nat := 3

/-- A result of the bundle in progress, visible `lat` bundles later; g0 ignores writes. -/
def State.put (s : State) (c lat id v : Nat) : State :=
  if id = 0 then s
  else
    let k := s.core c
    s.setCore c { k with flight := k.flight ++
      [{ bundle := k.no, due := k.no + lat, key := bankKey (s.level c) id, val := v % 2 ^ regWidth id }] }

/-- A word result. -/
def State.putW (s : State) (c lat g : Nat) (v : Word) : State := s.put c lat g v.toNat

/-- A flag; flags have ALU latency (R214). -/
def State.putFlag (s : State) (c id : Nat) (b : Bool) : State := s.put c latAlu id (bit b)

/-- Sets SAT where an operation saturates; SAT is sticky. -/
def State.putSat (s : State) (c : Nat) (b : Bool) : State := if b then s.putFlag c idSat true else s

/-! ### Loops (R229, R230) -/

/-- The loop mechanism on a bundle that leaves DE: levels `l` − 1 down to 0; the registers and the next bundle. -/
def loopNext (regs : SMap Nat) (pc : Nat) : Nat → SMap Nat × Nat
  | 0 => (regs, pc + 1)
  | l + 1 =>
    let lc := SMap.get (fun _ => 0) regs (idLC l)
    if lc ≠ 0 && SMap.get (fun _ => 0) regs (idLE l) = pc then
      if 1 < lc then (SMap.set (fun _ => 0) regs (idLC l) (lc - 1), SMap.get (fun _ => 0) regs (idLS l))
      else loopNext (SMap.set (fun _ => 0) regs (idLC l) 0) pc l
    else loopNext regs pc l

/-- A loop register in OF: the bundle has left DE, so the loop mechanism has acted on it (R171). -/
def State.rdLoop (s : State) (c id : Nat) : Nat :=
  ({ s.core c with regs := (loopNext (s.core c).regs (s.pc c) 3).1 } : Core).seen id

/-! ### Registers by their ID -/

/-- A register by its ID of R218 as a word: `m` sign-extended, FL composed. ST_L is read after the T-slot. -/
def State.readId (s : State) (c id : Nat) : Word :=
  if 0x48 ≤ id && id < 0x50 then BitVec.ofInt 32 (signed 16 (s.rd c id))
  else if id = 0x61 then
    BitVec.ofNat 32 (s.rd c idSat + 2 * s.rd c idC + 4 * s.rd c idV + 8 * s.rd c idZ + 16 * s.rd c idN)
  else if id = 0x63 then (s.core c).stHi
  else if id = 0x64 then BitVec.ofNat 32 (s.level c)
  else if 0x68 ≤ id && id < 0x71 then BitVec.ofNat 32 (s.rdLoop c id)
  else BitVec.ofNat 32 (s.rd c id)

/-- A result to a register by its ID: FL takes all five flags, a narrower register the low bits. -/
def State.writeId (s : State) (c id v : Nat) : State :=
  if id = 0x61 then
    ((((s.putFlag c idSat (bitOf v 0)).putFlag c idC (bitOf v 1)).putFlag c idV (bitOf v 2)).putFlag c idZ
      (bitOf v 3)).putFlag c idN (bitOf v 4)
  else s.put c latAlu id v

/-! ### Faults (R199 to R203) -/

/-- A fault of a core: the record of R200, the host source of the core, the Pool fault record. -/
def State.coreFault (s : State) (c code pc time cmd : Nat) (partialAt : Option Nat) : State :=
  let n := c / 4
  let i := c % 4
  let s :=
    if s.fld (fRC_i_FAULT_CODE_CODE n i) = 0 then
      let s := s.setFld (fRC_i_FAULT_CODE_CODE n i) code
      let s := s.setFld (fRC_i_FAULT_CODE_CMD n i) cmd
      let s := s.setFld (fRC_i_FAULT_PC_PC n i) pc
      let s := s.setReg64 (rRC_i_FAULT_ST_L n i) time
      s.icPend (256 + 16 * n + i)
    else s
  s.poolFault n code 3 i partialAt

/-- The bundle in progress has no effect, earlier bundles complete, and the core is FAULTED (R199). -/
def State.bundleFault (s : State) (c code : Nat) : State :=
  let k := s.core c
  let s := s.setCore c {
    ({ k with flight := k.flight.filter (·.bundle ≠ k.no) }).drain with
    half := false, post := {}, delay := none, held := none, fence := false }
  let s := (s.setRcState c rcFaulted).runFault c code
  s.coreFault c code (s.pc c) (s.schedule c) 0 (some s.now)

/-- FAULT 0x0502. -/
def State.illegalBundle (s : State) (c : Nat) : State := s.bundleFault c 0x0502

/-! ### Interrupts (R188 to R194) -/

/-- The level of an interrupt source. -/
def State.irqLevel (s : State) (c src : Nat) : Nat := 1 + bit (bitOf (s.fld (fRC_i_IRQ_LVL_LVL (c / 4) (c % 4))) src)

/-- Is a source eligible above a level? -/
def State.irqEligible (s : State) (c above src : Nat) : Bool :=
  bitOf (s.fld (fRC_i_IRQ_PEND_PEND (c / 4) (c % 4))) src && bitOf (s.fld (fRC_i_IRQ_EN_EN (c / 4) (c % 4))) src &&
    s.flag (if s.irqLevel c src = 2 then fRC_i_IRQ_CTRL_IE2 (c / 4) (c % 4) else fRC_i_IRQ_CTRL_IE1 (c / 4) (c % 4)) &&
    above < s.irqLevel c src

/-- The source taken: the highest level, then the lowest number (R189). -/
def State.irqSelect (s : State) (c above : Nat) : Option Nat :=
  match (List.range 11).find? (fun x => s.irqEligible c above x && s.irqLevel c x == 2) with
  | some x => some x
  | none => (List.range 11).find? (s.irqEligible c above)

/-- A source's interrupt handler begins, with a return address; `under` is the level it interrupts. -/
def State.irqTake (s : State) (c src ret under : Nat) : State :=
  let n := c / 4
  let i := c % 4
  let l := s.irqLevel c src
  let s := s.setFld (fRC_i_IRQ_PEND_PEND n i) (putBit (s.fld (fRC_i_IRQ_PEND_PEND n i)) src false)
  let s := s.setFld (if l = 2 then fRC_i_ELR_ELR2 n i else fRC_i_ELR_ELR1 n i) ret
  let s := s.setLevel c l
  let k := (s.core c).drain
  let s := s.setCore c { k with below := if l = 2 then under else k.below }
  s.setPc c (s.fld (fRC_i_IMG_VBASE n i) + 4 * src)

/-! ### The end of a loop (R231) -/

/-- Does an active loop end at the bundle or at either of the two after it (R231)? -/
def State.nearLoopEnd (s : State) (c : Nat) : Bool :=
  (List.range 3).any (fun l => (s.core c).file (idLC l) != 0 &&
    (s.pc c ≤ (s.core c).file (idLE l) && (s.core c).file (idLE l) ≤ s.pc c + 2))

/-! ### A bundle -/

/-- Is a core in a Pool and a mode in which it issues (R199)? -/
def State.coreOn (s : State) (c : Nat) : Bool :=
  s.poolLive (c / 4) && s.mode ∈ [modeRun, modeDrain, modeDiag]

/-- Does a core stand ready to issue: RUNNING and not stalled (R172)? -/
def State.coreReady (s : State) (c : Nat) : Bool :=
  s.coreOn c && s.rcState c == rcRunning && (s.core c).held.isNone && !(s.core c).fence

/-- RC_CTRL.DBG_HALT stops issue in DIAG. -/
def State.dbgHalted (s : State) (c : Nat) : Bool :=
  s.mode == modeDiag && s.flag (fRC_i_CTRL_DBG_HALT (c / 4) (c % 4))

/-- The tick at which the present cycle begins. -/
def State.cycle (s : State) : Nat := s.now / 16 * 16

/-- Writes data memory of a core. -/
def State.dmemWrite (s : State) (c a size v : Nat) : State := { s with dmem := s.dmem.writeLe (65536 * c + a) size v }
def State.dmemRead (s : State) (c a size : Nat) : Nat := s.dmem.readLe (65536 * c + a) size

/-- What the D-slot does in EX1, which begins at a tick: the store, RDFT, and the read of ST_L after the T-slot. -/
def State.postActions (s : State) (c ex1 : Nat) : State :=
  let k := s.core c
  let s := match k.post.store with
    | some (a, size, v) => s.dmemWrite c a size v
    | none => s
  let s := match k.post.rdft with
    | some id => (s.setCore c { s.core c with ftHi := BitVec.ofNat 32 (ex1 / 2 ^ 32) }).put c latLoad id ex1
    | none => s
  match k.post.stRead with
  | some id => (s.setCore c { s.core c with stHi := (s.core c).st.extractLsb' 32 32 }).writeId c id (s.schedule c)
  | none => s

/-- The delay slots are over: a call's link, a return's level or a tail-chained handler, a halt, and the next bundle. -/
def State.delayDone (s : State) (c : Nat) (d : Delay) (next : Nat) : State :=
  let s := s.setCore c { s.core c with delay := none }
  let s := match d.link with
    | some (key, v) => s.setCore c { s.core c with regs := SMap.set (fun _ => 0) (s.core c).regs key v }
    | none => s
  let s := if d.halt then s.setRcState c (if (s.core c).queue.isEmpty then rcHalted else rcHalting) else s
  let dest := d.target.getD next
  match d.cl with
  | some l =>
    (match s.irqSelect c l with
      | some src => s.irqTake c src dest l
      | none => (s.setLevel c l).setPc c dest)
  | none => s.setPc c dest

/-- The bundle in progress leaves the pipeline's front; its EX1 begins at a tick. The loop mechanism acts on the loop registers
as control flow sees them, so that a write reaches it three bundles later (R218). -/
def State.bundleEnd (s : State) (c ex1 : Nat) : State :=
  let s := s.postActions c ex1
  let k := s.core c
  let (regs, next) := loopNext k.regs (s.pc c) 3
  let regs := retire regs (k.flight.filter (·.due ≤ k.no))
  let s := s.setCore c { k with
    regs := regs, flight := k.flight.filter (k.no < ·.due), no := k.no + 1, half := false, post := {} }
  match k.delay with
  | none => s.setPc c next
  | some d =>
    if 1 < d.left then (s.setCore c { s.core c with delay := some { d with left := d.left - 1 } }).setPc c next
    else s.delayDone c d next

/-- The end of a bundle that does not stall, or FAULT 0x0503 in place of it. -/
def State.bundleClose (s : State) (c : Nat) : State :=
  if (s.core c).post.fault then s.bundleFault c 0x0503 else s.bundleEnd c (s.cycle + 32)

/-- Ends a bundle whose D-slot has been taken and whose T-slot operation is TNOP. -/
def State.closeHalf (s : State) (c : Nat) : State := if (s.core c).half then s.bundleClose c else s

/-- Starts a bundle where the core is ready; a fetch outside the loaded bundles is illegal (R203). -/
def State.bundleStart (s : State) (c : Nat) (f : State → State) : State :=
  if !s.coreReady c then s
  else
    let s := s.closeHalf c
    if !s.coreReady c then s
    else if s.fld (fRC_i_IMG_NBUNDLE (c / 4) (c % 4)) ≤ s.pc c then s.illegalBundle c
    else f s

/-- A D-slot operation: `whole` when the bundle has no T-slot (format DI); an illegal one faults. -/
def State.dSlot (s : State) (c : Nat) (whole legal : Bool) (op : State → State) : State :=
  s.bundleStart c (fun s =>
    if !legal then s.illegalBundle c
    else
      let s := op s
      if whole then s.bundleClose c else s.setCore c { s.core c with half := true })

/-- A T-slot operation: it joins an open bundle unless it is long. -/
def State.tSlot (s : State) (c : Nat) (long legal : Bool) (op : State → State) : State :=
  let run (s : State) : State :=
    if !legal then s.illegalBundle c
    else if (s.core c).post.fault then s.bundleFault c 0x0503
    else op s
  if s.coreReady c && (s.core c).half && !long then run s else s.bundleStart c run

/-- A control-flow operation: what follows its two delay slots. In a delay slot, or near the end of an active loop, it is
illegal (R171, R231). -/
def State.control (s : State) (c : Nat) (legal : Bool) (op : State → State × Delay) : State :=
  s.bundleStart c (fun s =>
    if !legal || (s.core c).delay.isSome || s.nearLoopEnd c then s.illegalBundle c
    else
      let (s, d) := op s
      let s := s.bundleEnd c (s.cycle + 32)
      s.setCore c { s.core c with delay := some d })

/-- Issues a command of a bundle unless DBG_HALT stops issue. -/
def State.issue (s : State) (c : Nat) (f : State → State) : State := if s.dbgHalted c then s else f s

/-! ### Interrupt entry -/

/-- INTERRUPT_ENTRY (R190, R191): not while the core stalls or a control-flow bundle is in OF or EX1. -/
def State.interruptEntry (s : State) (c : Nat) : State :=
  if !s.coreReady c || s.dbgHalted c then s
  else
    let s := s.closeHalf c
    if !s.coreReady c || (s.core c).delay.isSome then s
    else
      match s.irqSelect c (s.level c) with
      | some src => s.irqTake c src (s.pc c) (s.level c)
      | none => s

/-! ### Loading (R195, R196) -/

/-- Is an ID one that a preset may name (R195)? -/
def presetId (id : Nat) : Bool := (1 ≤ id && id < 0x20) || (0x40 ≤ id && id < 0x60)

/-- The presets of an image: register ID and value. -/
def imagePresets (img : List Byte) : List (Nat × Nat) :=
  let at_ := 64 + 8 * imageLe img 8 4 + imageLe img 12 4
  (List.range (imageLe img 24 4)).map (fun j => (imageLe img (at_ + 8 * j) 1, imageLe img (at_ + 8 * j + 4) 4))

/-- Is the image badly formed (REASON 0x42)? -/
def imageBad (img : List Byte) : Bool :=
  let nb := imageLe img 8 4
  let dm := imageLe img 12 4
  let np := imageLe img 24 4
  let at_ := 64 + 8 * nb + dm
  img.length < 64 || imageLe img 0 4 != 0x7EED0512 || imageLe img 4 2 != 1 || 1 < imageLe img 6 2 ||
    nb < 1 || 16384 < nb || 64 < np || img.length != at_ + 8 * np ||
    (if imageLe img 6 2 = 1 then dm < 8 || 65536 < dm || dm % 8 != 0 else dm != 0) ||
    (imageLe img 20 4 != 0xFFFFFFFF && imageLe img 20 4 % 64 != 0) ||
    imageLe img 28 4 != crc32 (img.take 28 ++ [0, 0, 0, 0] ++ img.drop 32) ||
    ((img.drop 32).take 32).any (· != 0) ||
    (List.range np).any (fun j => !presetId (imageLe img (at_ + 8 * j) 1) || imageLe img (at_ + 8 * j + 1) 3 != 0)

/-- The value that the presets leave in a register. -/
def presetOf (ps : List (Nat × Nat)) (id : Nat) : Nat :=
  ps.foldl (fun v p => if p.1 = id then p.2 % 2 ^ regWidth id else v) 0

/-- Is a core RUNNING, HALTING, or HALTED in a RUN still active (R196, CORE_BUSY)? -/
def State.coreBusy (s : State) (c : Nat) : Bool :=
  s.rcState c == rcRunning || s.rcState c == rcHalting ||
    (s.rcState c == rcHalted && s.runs.any (fun r => r.active && bitOf r.coreMask c))

/-- The reason for which a load is refused, beside the general checks (R196). -/
def State.progRefusal (s : State) (c : Nat) (img : List Byte) : Option Nat :=
  let ps := imagePresets img
  if !s.locked (9 + c / 4) then some 0x03
  else if s.coreBusy c then some 0x43
  else if imageBad img then some 0x42
  else if imageLe img 8 4 ≤ imageLe img 16 4 ||
      (imageLe img 20 4 != 0xFFFFFFFF && imageLe img 8 4 ≤ imageLe img 20 4 + 63) then some 0x44
  else if (List.range 8).any (fun x => presetOf ps (0x58 + x) != 0 &&
      65536 < presetOf ps (0x50 + x) + presetOf ps (0x58 + x)) then some 0x41
  else none

/-- The record of a refused load. -/
def State.progRefused (s : State) (c r : Nat) : State :=
  (s.setFlag (fRC_i_STATUS_REFUSED (c / 4) (c % 4)) true).setFld (fRC_i_STATUS_REASON (c / 4) (c % 4)) r

/-- Loads an image that is not refused. -/
def State.progLoad (s : State) (c : Nat) (img : List Byte) : State :=
  let n := c / 4
  let i := c % 4
  let nb := imageLe img 8 4
  let none_ : Bool := imageLe img 20 4 == 0xFFFFFFFF
  let s := { s with
    imem := imemWrite (SMap.drop (fun a => a / 131072 == c) s.imem) (131072 * c) ((img.drop 64).take (8 * nb))
    dmem := s.dmem.writeBytes (65536 * c) ((img.drop (64 + 8 * nb)).take (imageLe img 12 4)) }
  let s := s.setCore c { s.core c with entry := imageLe img 16 4, presets := imagePresets img }
  let s := s.setFld (fRC_i_IMG_NBUNDLE n i) nb
  let s := s.setFld (fRC_i_IMG_VBASE n i) (if none_ then 0 else imageLe img 20 4)
  let s := s.setFlag (fRC_i_IMG_NO_VEC n i) none_
  let s := s.setFlag (fRC_i_STATUS_REFUSED n i) false
  let s := s.setFld (fRC_i_STATUS_REASON n i) 0
  s.setRcState c rcLoaded

/-! ### Starting, stopping and resetting -/

/-- A RUN starts the core at a tick (R197). -/
def State.coreStart (s : State) (c ts : Nat) : State :=
  let n := c / 4
  let i := c % 4
  let k := s.core c
  let regs : SMap Nat := k.presets.foldl (fun m p => SMap.set (fun _ => 0) m p.1 (p.2 % 2 ^ regWidth p.1)) []
  let s := s.setLevel c 0
  let s := s.setFld (fRC_i_IRQ_PEND_PEND n i) 0
  let s := s.setCore c { entry := k.entry, presets := k.presets, regs := regs, st := BitVec.ofNat 64 ts }
  let s := s.setFld (fRC_i_CMDSEQ_NEXT n i) 0
  let s := (s.setReg (rRC_i_FAULT_CODE n i) 0).setReg (rRC_i_FAULT_PC n i) 0
  let s := s.setReg64 (rRC_i_FAULT_ST_L n i) 0
  let s := s.setFld (fRC_i_LAST_COMMIT_SEQ_SEQ n i) 0xFFFFFFFF
  let s := s.setReg64 (rRC_i_LAST_COMMIT_L n i) 0
  let s := s.setFld (fRC_i_TQ_MAXLEVEL n i) 0
  let s := s.setFld (fRC_i_STATUS_QLEVEL n i) 0
  let s := s.setPc c k.entry
  s.setRcState c rcRunning

/-- The numbers of the commands of a core in the armed buffers of its Pool, each once. -/
def State.armedOf (s : State) (c : Nat) : List Nat :=
  distinct ((s.armed.filter (fun e => e.1 / 128 == c / 4)).flatMap
    (fun e => (e.2.filter (fun a => a.cmd.core == c)).map (fun a => a.cmd.seq.toNat)))

/-- Removes the commands of a core from the armed buffers of its Pool. -/
def State.disarmCore (s : State) (c : Nat) : State :=
  { s with
    armed :=
      (s.armed.map (fun e => (e.1, e.2.filter (fun a => e.1 / 128 != c / 4 || a.cmd.core != c)))).filter
        (fun e => e.2 != []) }

/-- SAFE entry or ABORT stops a core: its queue and its armed commands are removed and counted (R199). -/
def State.coreStop (s : State) (c : Nat) : State :=
  let n := c / 4
  let i := c % 4
  let flushed := (s.core c).queue.length + (s.armedOf c).length
  let s := s.incSat (fRC_i_COUNT_B_FLUSHED n i) flushed
  let s := s.disarmCore c
  let s := s.setCore c { (s.core c).drain with
    queue := [], held := none, fence := false, half := false, post := {}, delay := none }
  let s := s.setFld (fRC_i_STATUS_QLEVEL n i) 0
  if s.rcState c ∈ [rcRunning, rcHalting, rcHalted] then s.setRcState c rcStopped else s

/-- The RUN completes: a core in HALTED, FAULTED or STOPPED returns to LOADED (R198). -/
def State.coreRelease (s : State) (c : Nat) : State :=
  if s.rcState c ∈ [rcHalted, rcFaulted, rcStopped] then s.setRcState c rcLoaded else s

/-- A Pool reset or power-up of the cores (R202): the memories are kept. -/
def State.coresReset (s : State) (n : Nat) : State :=
  let s := forRange 4 (fun i t => (t.disarmCore (4 * n + i)).setCore (4 * n + i) {}) s
  s.resetRegs (rRC_i_CTRL n 0) (rRC_i_CTRL n 0 + 0x5000)

end Sys2Proof.Machine
end

