-- ==== Sys2Proof/Machine/ReedData.lean ====
section
/-!
DEFINITION. The D-slot operations of a Reed core (R212 to R225).
-/
namespace Sys2Proof.Machine

/-! ### Operands -/

/-- Does operand b come from the immediate of format DI? -/
def Src.isImm : Src → Bool
  | .reg _ => false
  | .imm _ => true

/-- Operand b. -/
def State.src (s : State) (c : Nat) : Src → Word
  | .reg b => s.g c b.val
  | .imm w => w

/-- A signed 14-bit immediate. -/
def imm14 (v : BitVec 14) : Word := v.signExtend 32

/-- The halves I and Q of a packed complex value (R215). -/
def packedI (w : Word) : Int := signed 16 (fieldOf w 15 0)
def packedQ (w : Word) : Int := signed 16 (fieldOf w 31 16)

/-- Packs two halves, modulo 2¹⁶. -/
def pack (i q : Int) : Word := BitVec.ofNat 32 (unsigned 16 i + 2 ^ 16 * unsigned 16 q)

/-- Saturation and whether it acted. -/
def satFlag (bits : Nat) (v : Int) : Int × Bool := (satS bits v, satS bits v != v)

/-! ### Arithmetic (R213 to R215) -/

/-- An operation of layout R with ALU latency. -/
def State.aluR (s : State) (c d a : Nat) (b : Src) (f : Word → Word → Word) : State :=
  s.dSlot c (Src.isImm b) true (fun s => s.putW c latAlu d (f (s.g c a) (s.src c b)))

/-- A saturating operation of layout R. -/
def State.aluSat (s : State) (c d a : Nat) (b : Src) (f : Int → Int → Int) : State :=
  s.dSlot c (Src.isImm b) true (fun s =>
    let r := satFlag 32 (f (s.g c a).toInt (s.src c b).toInt)
    (s.putW c latAlu d (BitVec.ofInt 32 r.1)).putSat c r.2)

/-- An operation of layout I. -/
def State.aluI (s : State) (c d a : Nat) (f : Word → Word) : State :=
  s.dSlot c false true (fun s => s.putW c latAlu d (f (s.g c a)))

/-- A shift by an immediate, whose unused bits must be 0 (R212). -/
def State.shiftI (s : State) (c d a : Nat) (v : BitVec 14) (f : Word → Nat → Word) : State :=
  s.dSlot c false (v.toNat < 32) (fun s => s.putW c latAlu d (f (s.g c a) v.toNat))

/-- The flags of a − b (R214). -/
def State.compare (s : State) (c : Nat) (a b : Word) : State :=
  let d := a - b
  (((s.putFlag c idN (d.getLsbD 31)).putFlag c idZ (d == 0)).putFlag c idV (d.toInt != a.toInt - b.toInt)).putFlag c idC
    (b.toNat ≤ a.toNat)

/-- The bits below the sign bit that equal it, counted down from the top, in a `bits`-bit value. -/
def redundant (bits : Nat) (v : Int) : Nat :=
  ((List.range bits).reverse.find? (fun k => satS (bits - k) v == v)).getD 0

/-- EXP of a word (R215). -/
def expOf (w : Word) (x : Bool) : Nat :=
  if x then min (redundant 16 (packedI w)) (redundant 16 (packedQ w)) else redundant 32 w.toInt

/-- NORM of a word. -/
def normOf (w : Word) (x : Bool) : Word :=
  if x then pack (packedI w * 2 ^ expOf w true) (packedQ w * 2 ^ expOf w true) else w <<< expOf w false

/-- SHC of one half. -/
def shcHalf (v k : Int) : Int × Bool :=
  if 0 ≤ k then satFlag 16 (v * 2 ^ k.toNat) else (roundShift v (-k).toNat, false)

def State.dNop (s : State) (c : Nat) : State := s.dSlot c false true id
def State.dAdd (s : State) (c d a : Nat) (b : Src) : State := s.aluR c d a b (· + ·)
def State.dSub (s : State) (c d a : Nat) (b : Src) : State := s.aluR c d a b (· - ·)
def State.dAdds (s : State) (c d a : Nat) (b : Src) : State := s.aluSat c d a b (· + ·)
def State.dSubs (s : State) (c d a : Nat) (b : Src) : State := s.aluSat c d a b (· - ·)
def State.dAnd (s : State) (c d a : Nat) (b : Src) : State := s.aluR c d a b (· &&& ·)
def State.dOr (s : State) (c d a : Nat) (b : Src) : State := s.aluR c d a b (· ||| ·)
def State.dXor (s : State) (c d a : Nat) (b : Src) : State := s.aluR c d a b (· ^^^ ·)
def State.dShl (s : State) (c d a : Nat) (b : Src) : State := s.aluR c d a b (fun x y => x <<< (y.toNat % 32))
def State.dShr (s : State) (c d a : Nat) (b : Src) : State := s.aluR c d a b (fun x y => x >>> (y.toNat % 32))
def State.dSar (s : State) (c d a : Nat) (b : Src) : State := s.aluR c d a b (fun x y => x.sshiftRight (y.toNat % 32))
def State.dMin (s : State) (c d a : Nat) (b : Src) : State := s.aluR c d a b (fun x y => if y.slt x then y else x)
def State.dMax (s : State) (c d a : Nat) (b : Src) : State := s.aluR c d a b (fun x y => if x.slt y then y else x)

def State.dCmp (s : State) (c a : Nat) (b : Src) : State :=
  s.dSlot c (Src.isImm b) true (fun s => s.compare c (s.g c a) (s.src c b))

def State.dMul (s : State) (c d a : Nat) (b : Src) : State :=
  s.dSlot c (Src.isImm b) true (fun s =>
    s.putW c latLoad d (BitVec.ofInt 32 (packedI (s.g c a) * packedI (s.src c b))))

def State.dAddi (s : State) (c d a : Nat) (v : BitVec 14) : State := s.aluI c d a (· + imm14 v)
def State.dShli (s : State) (c d a : Nat) (v : BitVec 14) : State := s.shiftI c d a v (· <<< ·)
def State.dShri (s : State) (c d a : Nat) (v : BitVec 14) : State := s.shiftI c d a v (· >>> ·)
def State.dSari (s : State) (c d a : Nat) (v : BitVec 14) : State := s.shiftI c d a v (·.sshiftRight ·)
def State.dAndi (s : State) (c d a : Nat) (v : BitVec 14) : State := s.aluI c d a (· &&& imm14 v)
def State.dCmpi (s : State) (c a : Nat) (v : BitVec 14) : State :=
  s.dSlot c false true (fun s => s.compare c (s.g c a) (imm14 v))

def State.dExp (s : State) (c d a : Nat) (x : Bool) : State := s.aluI c d a (fun w => BitVec.ofNat 32 (expOf w x))
def State.dNorm (s : State) (c d a : Nat) (x : Bool) : State := s.aluI c d a (fun w => normOf w x)

def State.dShc (s : State) (c d a b : Nat) : State :=
  s.dSlot c false true (fun s =>
    let k := signed 5 (fieldOf (s.g c b) 4 0)
    let i := shcHalf (packedI (s.g c a)) k
    let q := shcHalf (packedQ (s.g c a)) k
    (s.putW c latAlu d (pack i.1 q.1)).putSat c (i.2 || q.2))

/-! ### Moves (R218) -/

/-- Is an ID of R218 listed? -/
def idListed (id : Nat) : Bool :=
  id < 0x20 || (0x40 ≤ id && id < 0x65) || (0x68 ≤ id && id < 0x71)

/-- May an ID be written? -/
def idWritable (id : Nat) : Bool := idListed id && !(0x62 ≤ id && id < 0x65)

def State.dMov (s : State) (c dst : Nat) : MovSrc → State
  | .imm w => s.dSlot c true (idWritable dst) (fun s => s.writeId c dst w.toNat)
  | .id r => s.dSlot c false (idWritable dst && idListed r.val) (fun s =>
      if r.val = 0x62 then s.setCore c { s.core c with post := { stRead := some dst } }
      else s.writeId c dst (s.readId c r.val).toNat)

/-! ### Addressing (R221 to R224) -/

def idP (x : Nat) : Nat := 0x40 + x
def idM (x : Nat) : Nat := 0x48 + x
def idB (x : Nat) : Nat := 0x50 + x
def idL (x : Nat) : Nat := 0x58 + x

/-- Reverses bits [15:0]. -/
def rev16 (v : Nat) : Nat := (BitVec.ofNat 16 v).reverse.toNat

/-- Pointer x post-modified by a signed amount (R222). -/
def State.postMod (s : State) (c x : Nat) (delta : Int) : Nat :=
  let p : Int := s.rd c (idP x)
  let b : Int := s.rd c (idB x)
  let l := s.rd c (idL x)
  if l = 0 then ((p + delta) % 65536).toNat else (b + (p + delta - b) % l).toNat

/-- The signed value of modifier x. -/
def State.modifier (s : State) (c x : Nat) : Int := signed 16 (s.rd c (idM x))

/-- Pointer x post-modified by its own modifier: POSTM, with BR (R224). -/
def State.postM (s : State) (c x : Nat) (br : Bool) : Nat :=
  if br then rev16 ((rev16 (s.rd c (idP x)) + rev16 (s.rd c (idM x))) % 65536)
  else s.postMod c x (s.modifier c x)

/-- The address of a layout M access, and the pointer after it. -/
def State.address (s : State) (c x size : Nat) : AddrMode → Nat × Option Nat
  | .ind => (s.rd c (idP x), none)
  | .postm br => (s.rd c (idP x), some (s.postM c x br))
  | .offs v => (s.postMod c x (v.toInt * size), none)
  | .posti v => (s.rd c (idP x), some (s.postMod c x (v.toInt * size)))

/-- Is an access misaligned or outside data memory, or a pointer value out of range (R175, R222)? -/
def accessBad (size : Nat) (a : Nat × Option Nat) : Bool :=
  a.1 % size != 0 || 65536 ≤ a.1 || (match a.2 with
    | some p => 65536 ≤ p
    | none => false)

/-- The pointer takes its new value. -/
def State.pointer (s : State) (c x : Nat) (v : Option Nat) : State :=
  match v with
  | some p => s.put c latAlu (idP x) p
  | none => s

/-- The bundle faults with 0x0503 when it reaches EX1. -/
def State.accessFault (s : State) (c : Nat) : State := s.setCore c { s.core c with post := { fault := true } }

/-- A store in EX1. -/
def State.storeAt (s : State) (c a size v : Nat) : State :=
  s.setCore c { s.core c with post := { store := some (a, size, v) } }

/-- BR = 1 is reserved in a load. -/
def AddrMode.loadLegal : AddrMode → Bool
  | .postm br => !br
  | _ => true

/-- A load of `size` bytes (R221). -/
def State.dLoad (s : State) (c g x size : Nat) (am : AddrMode) (ext : Nat → Word) : State :=
  s.dSlot c false (AddrMode.loadLegal am) (fun s =>
    let a := s.address c x size am
    if accessBad size a then s.accessFault c
    else (s.putW c latLoad g (ext (s.dmemRead c a.1 size))).pointer c x a.2)

/-- A store of `size` bytes (R221). -/
def State.dStore (s : State) (c g x size : Nat) (am : AddrMode) : State :=
  s.dSlot c false true (fun s =>
    let a := s.address c x size am
    if accessBad size a then s.accessFault c
    else (s.storeAt c a.1 size ((s.g c g).toNat % 2 ^ (8 * size))).pointer c x a.2)

def State.dLdW (s : State) (c g x : Nat) (am : AddrMode) : State := s.dLoad c g x 4 am (BitVec.ofNat 32)
def State.dLdH (s : State) (c g x : Nat) (am : AddrMode) : State :=
  s.dLoad c g x 2 am (fun v => BitVec.ofInt 32 (signed 16 v))
def State.dLdHu (s : State) (c g x : Nat) (am : AddrMode) : State := s.dLoad c g x 2 am (BitVec.ofNat 32)
def State.dStW (s : State) (c g x : Nat) (am : AddrMode) : State := s.dStore c g x 4 am
def State.dStH (s : State) (c g x : Nat) (am : AddrMode) : State := s.dStore c g x 2 am

/-- The address and pointer update of layout M2. -/
def State.address2 (s : State) (c x : Nat) (m : Bool) : Nat × Option Nat :=
  s.address c x 4 (if m then .postm false else .ind)

def State.dLd2 (s : State) (c g1 g2 pa pb : Nat) (ma mb : Bool) : State :=
  s.dSlot c false (!(pa == pb && ma && mb) && g1 != g2) (fun s =>
    let a := s.address2 c pa ma
    let b := s.address2 c pb mb
    if accessBad 4 a || accessBad 4 b then s.accessFault c
    else
      (((s.putW c latLoad g1 (BitVec.ofNat 32 (s.dmemRead c a.1 4))).putW c latLoad g2
        (BitVec.ofNat 32 (s.dmemRead c b.1 4))).pointer c pa a.2).pointer c pb b.2)

def State.dLdst (s : State) (c g1 g2 pa pb : Nat) (ma mb : Bool) : State :=
  s.dSlot c false (!(pa == pb && ma && mb)) (fun s =>
    let a := s.address2 c pa ma
    let b := s.address2 c pb mb
    if accessBad 4 a || accessBad 4 b then s.accessFault c
    else
      (((s.putW c latLoad g1 (BitVec.ofNat 32 (s.dmemRead c a.1 4))).storeAt c b.1 4 (s.g c g2).toNat).pointer c pa
        a.2).pointer c pb b.2)

/-- MODP. -/
def State.dModp (s : State) (c pd mx : Nat) : State :=
  s.dSlot c false true (fun s =>
    let p := s.postMod c pd (s.modifier c mx)
    if 65536 ≤ p then s.accessFault c else s.put c latAlu (idP pd) p)

/-! ### Decision and fabric-time reads (R219) -/

def State.dRddec (s : State) (c d a : Nat) (v : BitVec 10) : State :=
  s.dSlot c false true (fun s => s.putW c latLoad d (s.slotWord (((s.g c a).toNat + v.toNat) % 1024)))

def State.dRdft (s : State) (c d : Nat) (h : Bool) : State :=
  s.dSlot c false true (fun s =>
    if h then s.putW c latLoad d (s.core c).ftHi
    else s.setCore c { s.core c with post := { rdft := some d } })

/-! ### Accumulators (R216) -/

/-- The halves of an accumulator as a reader in OF sees them. -/
def State.acc (s : State) (c x : Nat) : Int × Int := (signed 40 (s.rd c (idRe x)), signed 40 (s.rd c (idIm x)))

/-- The halves that every earlier-issued bundle leaves. -/
def State.accNewest (s : State) (c x : Nat) : Int × Int :=
  (signed 40 ((s.core c).newest (bankKey (s.level c) (idRe x))),
    signed 40 ((s.core c).newest (bankKey (s.level c) (idIm x))))

/-- A result to an accumulator; a half out of range saturates. -/
def State.putAcc (s : State) (c lat x : Nat) (re im : Int) : State :=
  let r := satFlag 40 re
  let i := satFlag 40 im
  ((s.put c lat (idRe x) (unsigned 40 r.1)).put c lat (idIm x) (unsigned 40 i.1)).putSat c (r.2 || i.2)

/-- The exact product of two packed complex values in units of 2⁻³⁰; `conj` conjugates the second. -/
def cproduct (a b : Word) (conj : Bool) : Int × Int :=
  let q := if conj then -(packedQ b) else packedQ b
  (packedI a * packedI b - packedQ a * q, packedI a * q + packedQ a * packedI b)

/-- A complex multiply that accumulates. -/
def State.mac (s : State) (c cd a b : Nat) (conj neg : Bool) : State :=
  s.dSlot c false true (fun s =>
    let p := cproduct (s.g c a) (s.g c b) conj
    let v := s.accNewest c cd
    if neg then s.putAcc c latLoad cd (v.1 - p.1) (v.2 - p.2) else s.putAcc c latLoad cd (v.1 + p.1) (v.2 + p.2))

/-- A complex multiply that sets the accumulator. -/
def State.cmulTo (s : State) (c cd a b : Nat) (conj : Bool) : State :=
  s.dSlot c false true (fun s =>
    let p := cproduct (s.g c a) (s.g c b) conj
    s.putAcc c latLoad cd p.1 p.2)

def State.dCmac (s : State) (c cd a b : Nat) : State := s.mac c cd a b false false
def State.dCmacj (s : State) (c cd a b : Nat) : State := s.mac c cd a b true false
def State.dCmsu (s : State) (c cd a b : Nat) : State := s.mac c cd a b false true
def State.dCmul (s : State) (c cd a b : Nat) : State := s.cmulTo c cd a b false
def State.dCmulj (s : State) (c cd a b : Nat) : State := s.cmulTo c cd a b true

def State.dCrnd (s : State) (c g cs sh : Nat) : State :=
  s.dSlot c false true (fun s =>
    let v := s.acc c cs
    let r := satFlag 16 (roundShift v.1 sh)
    let i := satFlag 16 (roundShift v.2 sh)
    (s.putW c latAlu g (pack r.1 i.1)).putSat c (r.2 || i.2))

def State.dCget (s : State) (c g cs part : Nat) : State :=
  s.dSlot c false (part != 3) (fun s =>
    let re := s.rd c (idRe cs)
    let im := s.rd c (idIm cs)
    s.put c latAlu g (if part = 0 then re else if part = 1 then im else re / 2 ^ 32 + 256 * (im / 2 ^ 32)))

def State.dCput (s : State) (c g cs part : Nat) : State :=
  s.dSlot c false (part != 3) (fun s =>
    let v := (s.g c g).toNat
    let re := (s.core c).newest (bankKey (s.level c) (idRe cs))
    let im := (s.core c).newest (bankKey (s.level c) (idIm cs))
    if part = 0 then s.put c latAlu (idRe cs) (re / 2 ^ 32 * 2 ^ 32 + v)
    else if part = 1 then s.put c latAlu (idIm cs) (im / 2 ^ 32 * 2 ^ 32 + v)
    else (s.put c latAlu (idRe cs) (re % 2 ^ 32 + v % 256 * 2 ^ 32)).put c latAlu (idIm cs)
      (im % 2 ^ 32 + v / 256 % 256 * 2 ^ 32))

def State.dCclr (s : State) (c cd : Nat) : State := s.dSlot c false true (fun s => s.putAcc c latAlu cd 0 0)

def State.dCadd (s : State) (c cd a b : Nat) : State :=
  s.dSlot c false true (fun s =>
    let x := s.acc c a
    let y := s.acc c b
    s.putAcc c latAlu cd (x.1 + y.1) (x.2 + y.2))

/-! ### Butterfly (R217) -/

/-- One output half of a butterfly: x · 2¹⁵ ± t with one rounding. -/
def bflyHalf (v : Int) (s : Nat) : Int × Bool := satFlag 16 (roundShift v (15 + s))

def State.dBfly (s : State) (c d a b t sc : Nat) : State :=
  s.dSlot c false (sc != 3 && d % 2 == 0) (fun s =>
    let x := s.g c a
    let p := cproduct (s.g c t) (s.g c b) false
    let k := if sc = 0 then 0 else if sc = 1 then 1 else s.rd c idC
    let ui := bflyHalf (packedI x * 2 ^ 15 + p.1) k
    let uq := bflyHalf (packedQ x * 2 ^ 15 + p.2) k
    let vi := bflyHalf (packedI x * 2 ^ 15 - p.1) k
    let vq := bflyHalf (packedQ x * 2 ^ 15 - p.2) k
    let s := (s.putW c latLoad d (pack ui.1 uq.1)).putW c latLoad (d + 1) (pack vi.1 vq.1)
    let s := s.putSat c (ui.2 || uq.2 || vi.2 || vq.2)
    if [ui.1, uq.1, vi.1, vq.1].any (fun h => 2 ^ 13 ≤ h.natAbs) then s.putFlag c idV true else s)

def State.dBstg (s : State) (c : Nat) : State :=
  s.dSlot c false true (fun s =>
    let v := s.rd c idV
    ((s.put c latAlu idC v).putFlag c idV false).put c latAlu idBe (min 31 (s.rd c idBe + v)))

/-! ### The commands -/

/-- NOP. -/
def execNop (c : Fin 64) (s : State) : Result :=
  done (s.issue c.val (fun s => s.dNop c.val))

/-- ADD. -/
def execAdd (c : Fin 64) (d a : Fin 32) (b : Src) (s : State) : Result :=
  done (s.issue c.val (fun s => s.dAdd c.val d.val a.val b))

/-- SUB. -/
def execSub (c : Fin 64) (d a : Fin 32) (b : Src) (s : State) : Result :=
  done (s.issue c.val (fun s => s.dSub c.val d.val a.val b))

/-- ADDS. -/
def execAdds (c : Fin 64) (d a : Fin 32) (b : Src) (s : State) : Result :=
  done (s.issue c.val (fun s => s.dAdds c.val d.val a.val b))

/-- SUBS. -/
def execSubs (c : Fin 64) (d a : Fin 32) (b : Src) (s : State) : Result :=
  done (s.issue c.val (fun s => s.dSubs c.val d.val a.val b))

/-- AND. -/
def execAnd (c : Fin 64) (d a : Fin 32) (b : Src) (s : State) : Result :=
  done (s.issue c.val (fun s => s.dAnd c.val d.val a.val b))

/-- OR. -/
def execOr (c : Fin 64) (d a : Fin 32) (b : Src) (s : State) : Result :=
  done (s.issue c.val (fun s => s.dOr c.val d.val a.val b))

/-- XOR. -/
def execXor (c : Fin 64) (d a : Fin 32) (b : Src) (s : State) : Result :=
  done (s.issue c.val (fun s => s.dXor c.val d.val a.val b))

/-- SHL. -/
def execShl (c : Fin 64) (d a : Fin 32) (b : Src) (s : State) : Result :=
  done (s.issue c.val (fun s => s.dShl c.val d.val a.val b))

/-- SHR. -/
def execShr (c : Fin 64) (d a : Fin 32) (b : Src) (s : State) : Result :=
  done (s.issue c.val (fun s => s.dShr c.val d.val a.val b))

/-- SAR. -/
def execSar (c : Fin 64) (d a : Fin 32) (b : Src) (s : State) : Result :=
  done (s.issue c.val (fun s => s.dSar c.val d.val a.val b))

/-- MIN. -/
def execMin (c : Fin 64) (d a : Fin 32) (b : Src) (s : State) : Result :=
  done (s.issue c.val (fun s => s.dMin c.val d.val a.val b))

/-- MAX. -/
def execMax (c : Fin 64) (d a : Fin 32) (b : Src) (s : State) : Result :=
  done (s.issue c.val (fun s => s.dMax c.val d.val a.val b))

/-- MUL. -/
def execMul (c : Fin 64) (d a : Fin 32) (b : Src) (s : State) : Result :=
  done (s.issue c.val (fun s => s.dMul c.val d.val a.val b))

/-- CMP. -/
def execCmp (c : Fin 64) (a : Fin 32) (b : Src) (s : State) : Result :=
  done (s.issue c.val (fun s => s.dCmp c.val a.val b))

/-- ADDI. -/
def execAddi (c : Fin 64) (d a : Fin 32) (imm : BitVec 14) (s : State) : Result :=
  done (s.issue c.val (fun s => s.dAddi c.val d.val a.val imm))

/-- SHLI. -/
def execShli (c : Fin 64) (d a : Fin 32) (imm : BitVec 14) (s : State) : Result :=
  done (s.issue c.val (fun s => s.dShli c.val d.val a.val imm))

/-- SHRI. -/
def execShri (c : Fin 64) (d a : Fin 32) (imm : BitVec 14) (s : State) : Result :=
  done (s.issue c.val (fun s => s.dShri c.val d.val a.val imm))

/-- SARI. -/
def execSari (c : Fin 64) (d a : Fin 32) (imm : BitVec 14) (s : State) : Result :=
  done (s.issue c.val (fun s => s.dSari c.val d.val a.val imm))

/-- ANDI. -/
def execAndi (c : Fin 64) (d a : Fin 32) (imm : BitVec 14) (s : State) : Result :=
  done (s.issue c.val (fun s => s.dAndi c.val d.val a.val imm))

/-- CMPI. -/
def execCmpi (c : Fin 64) (a : Fin 32) (imm : BitVec 14) (s : State) : Result :=
  done (s.issue c.val (fun s => s.dCmpi c.val a.val imm))

/-- MOV. -/
def execMov (c : Fin 64) (dst : Fin 128) (src : MovSrc) (s : State) : Result :=
  done (s.issue c.val (fun s => s.dMov c.val dst.val src))

/-- MODP. -/
def execModp (c : Fin 64) (pd mx : Fin 8) (s : State) : Result :=
  done (s.issue c.val (fun s => s.dModp c.val pd.val mx.val))

/-- EXP. -/
def execExp (c : Fin 64) (d a : Fin 32) (x : Bool) (s : State) : Result :=
  done (s.issue c.val (fun s => s.dExp c.val d.val a.val x))

/-- NORM. -/
def execNorm (c : Fin 64) (d a : Fin 32) (x : Bool) (s : State) : Result :=
  done (s.issue c.val (fun s => s.dNorm c.val d.val a.val x))

/-- SHC. -/
def execShc (c : Fin 64) (d a b : Fin 32) (s : State) : Result :=
  done (s.issue c.val (fun s => s.dShc c.val d.val a.val b.val))

/-- LD.W. -/
def execLdW (c : Fin 64) (g : Fin 32) (p : Fin 8) (am : AddrMode) (s : State) : Result :=
  done (s.issue c.val (fun s => s.dLdW c.val g.val p.val am))

/-- LD.H. -/
def execLdH (c : Fin 64) (g : Fin 32) (p : Fin 8) (am : AddrMode) (s : State) : Result :=
  done (s.issue c.val (fun s => s.dLdH c.val g.val p.val am))

/-- LD.HU. -/
def execLdHu (c : Fin 64) (g : Fin 32) (p : Fin 8) (am : AddrMode) (s : State) : Result :=
  done (s.issue c.val (fun s => s.dLdHu c.val g.val p.val am))

/-- ST.W. -/
def execStW (c : Fin 64) (g : Fin 32) (p : Fin 8) (am : AddrMode) (s : State) : Result :=
  done (s.issue c.val (fun s => s.dStW c.val g.val p.val am))

/-- ST.H. -/
def execStH (c : Fin 64) (g : Fin 32) (p : Fin 8) (am : AddrMode) (s : State) : Result :=
  done (s.issue c.val (fun s => s.dStH c.val g.val p.val am))

/-- LD2. -/
def execLd2 (c : Fin 64) (g1 g2 : Fin 32) (pa pb : Fin 8) (ma mb : Bool) (s : State) : Result :=
  done (s.issue c.val (fun s => s.dLd2 c.val g1.val g2.val pa.val pb.val ma mb))

/-- LDST. -/
def execLdst (c : Fin 64) (g1 g2 : Fin 32) (pa pb : Fin 8) (ma mb : Bool) (s : State) : Result :=
  done (s.issue c.val (fun s => s.dLdst c.val g1.val g2.val pa.val pb.val ma mb))

/-- RDDEC. -/
def execRddec (c : Fin 64) (d a : Fin 32) (imm : BitVec 10) (s : State) : Result :=
  done (s.issue c.val (fun s => s.dRddec c.val d.val a.val imm))

/-- RDFT. -/
def execRdft (c : Fin 64) (d : Fin 32) (h : Bool) (s : State) : Result :=
  done (s.issue c.val (fun s => s.dRdft c.val d.val h))

/-- CMAC. -/
def execCmac (c : Fin 64) (cd : Fin 8) (a b : Fin 32) (s : State) : Result :=
  done (s.issue c.val (fun s => s.dCmac c.val cd.val a.val b.val))

/-- CMACJ. -/
def execCmacj (c : Fin 64) (cd : Fin 8) (a b : Fin 32) (s : State) : Result :=
  done (s.issue c.val (fun s => s.dCmacj c.val cd.val a.val b.val))

/-- CMUL. -/
def execCmul (c : Fin 64) (cd : Fin 8) (a b : Fin 32) (s : State) : Result :=
  done (s.issue c.val (fun s => s.dCmul c.val cd.val a.val b.val))

/-- CMULJ. -/
def execCmulj (c : Fin 64) (cd : Fin 8) (a b : Fin 32) (s : State) : Result :=
  done (s.issue c.val (fun s => s.dCmulj c.val cd.val a.val b.val))

/-- CMSU. -/
def execCmsu (c : Fin 64) (cd : Fin 8) (a b : Fin 32) (s : State) : Result :=
  done (s.issue c.val (fun s => s.dCmsu c.val cd.val a.val b.val))

/-- CRND. -/
def execCrnd (c : Fin 64) (g : Fin 32) (cs : Fin 8) (sh : Fin 32) (s : State) : Result :=
  done (s.issue c.val (fun s => s.dCrnd c.val g.val cs.val sh.val))

/-- CGET. -/
def execCget (c : Fin 64) (g : Fin 32) (cs : Fin 8) (part : Fin 4) (s : State) : Result :=
  done (s.issue c.val (fun s => s.dCget c.val g.val cs.val part.val))

/-- CPUT. -/
def execCput (c : Fin 64) (g : Fin 32) (cs : Fin 8) (part : Fin 4) (s : State) : Result :=
  done (s.issue c.val (fun s => s.dCput c.val g.val cs.val part.val))

/-- CCLR. -/
def execCclr (c : Fin 64) (cd : Fin 8) (s : State) : Result :=
  done (s.issue c.val (fun s => s.dCclr c.val cd.val))

/-- CADD. -/
def execCadd (c : Fin 64) (cd a b : Fin 8) (s : State) : Result :=
  done (s.issue c.val (fun s => s.dCadd c.val cd.val a.val b.val))

/-- BFLY. -/
def execBfly (c : Fin 64) (d a b t : Fin 32) (sc : Fin 4) (s : State) : Result :=
  done (s.issue c.val (fun s => s.dBfly c.val d.val a.val b.val t.val sc.val))

/-- BSTG. -/
def execBstg (c : Fin 64) (s : State) : Result :=
  done (s.issue c.val (fun s => s.dBstg c.val))

/-- ILLEGAL_BUNDLE (R205). -/
def execIllegalBundle (c : Fin 64) (s : State) : Result :=
  done (s.issue c.val (fun s => s.bundleStart c.val (·.illegalBundle c.val)))

end Sys2Proof.Machine
end

