-- ==== Sys2Proof/Machine/ReedControl.lean ====
section
/-!
DEFINITION. The control-flow operations of a Reed core (R226 to R231).
-/
namespace Sys2Proof.Machine

/-- Does a condition hold (R227)? -/
def State.condHolds (s : State) (c : Nat) (k : Cond) : Bool :=
  let n := s.rdDE c idN == 1
  let z := s.rdDE c idZ == 1
  let v := s.rdDE c idV == 1
  let cf := s.rdDE c idC == 1
  let r := s.rdDE c k.ga.val == 0
  match k.cond.val with
  | 0 => true
  | 1 => z
  | 2 => !z
  | 3 => n
  | 4 => !n
  | 5 => v
  | 6 => !v
  | 7 => cf
  | 8 => !cf
  | 9 => n != v
  | 10 => n == v
  | 11 => !z && n == v
  | 12 => z || n != v
  | 13 => r
  | 14 => !r
  | _ => s.rdDE c idSat == 1

/-- Does a condition leave an unused GA at 0 (R226)? -/
def Cond.legal (k : Cond) : Bool := k.cond.val == 13 || k.cond.val == 14 || k.ga.val == 0

/-- The delay slots of a transfer that is taken where the condition holds. -/
def State.transfer (s : State) (c : Nat) (k : Cond) (target : Nat) : Delay :=
  if s.condHolds c k then { left := 2, target := some target } else { left := 2 }

/-- The same with the write of g31 of a call. -/
def State.callTransfer (s : State) (c : Nat) (k : Cond) (target : Nat) : Delay :=
  if s.condHolds c k then
    { left := 2, target := some target, link := some (bankKey (s.level c) 31, (s.pc c + 3) % 2 ^ 32) }
  else { left := 2 }

/-- The bundle index in a register. -/
def State.bundleIn (s : State) (c g : Nat) : Nat := s.rdDE c g % 2 ^ 14

def State.cBr (s : State) (c : Nat) (k : Cond) (tgt : Nat) : State :=
  s.control c (Cond.legal k) (fun s => (s, s.transfer c k tgt))
def State.cBrr (s : State) (c : Nat) (k : Cond) : State :=
  s.control c true (fun s => (s, s.transfer c k (s.bundleIn c k.ga.val)))
def State.cCall (s : State) (c : Nat) (k : Cond) (tgt : Nat) : State :=
  s.control c (Cond.legal k) (fun s => (s, s.callTransfer c k tgt))
def State.cCallr (s : State) (c : Nat) (k : Cond) : State :=
  s.control c true (fun s => (s, s.callTransfer c k (s.bundleIn c k.ga.val)))
def State.cRet (s : State) (c : Nat) (k : Cond) : State :=
  s.control c (Cond.legal k) (fun s => (s, s.transfer c k (s.bundleIn c 31)))

/-- A loop register takes a value at once, as LOOP, BRK and the loop mechanism write it. -/
def State.setLoop (s : State) (c id v : Nat) : State :=
  s.setCore c { s.core c with regs := SMap.set (fun _ => 0) (s.core c).regs id v }

/-- LOOP (R229). -/
def State.cLoop (s : State) (c lv : Nat) (count : BitVec 16 ⊕ Fin 32) (tgt : Nat) : State :=
  s.control c (lv != 3 && s.pc c + 3 ≤ tgt) (fun s =>
    let n := match count with
      | .inl v => v.toNat
      | .inr g => s.rdDE c g.val % 2 ^ 16
    let ls := (s.pc c + 3) % 2 ^ 14
    let s := ((s.setLoop c (idLS lv) ls).setLoop c (idLE lv) tgt).setLoop c (idLC lv) n
    (s, { left := 2, target := if n = 0 then some (tgt + 1) else none }))

/-- BRK: levels LV to 2 become inactive. -/
def State.cBrk (s : State) (c lv : Nat) (k : Cond) (tgt : Nat) : State :=
  s.control c (lv != 3 && Cond.legal k) (fun s =>
    let d := s.transfer c k tgt
    if s.condHolds c k then (forRange (3 - lv) (fun j t => t.setLoop c (idLC (lv + j)) 0) s, d) else (s, d))

/-- RETI (R192): to the level that was interrupted. -/
def State.cReti (s : State) (c : Nat) : State :=
  s.control c (s.level c != 0) (fun s =>
    let n := c / 4
    let i := c % 4
    (s, {
      left := 2
      target := some (if s.level c = 2 then s.fld (fRC_i_ELR_ELR2 n i) else s.fld (fRC_i_ELR_ELR1 n i))
      cl := some (if s.level c = 2 then (s.core c).below else 0) }))

/-- HALT (R199). -/
def State.cHalt (s : State) (c : Nat) : State := s.control c true (fun s => (s, { left := 2, halt := true }))

/-- SWI: its source is pending from DE. -/
def State.cSwi (s : State) (c : Nat) : State :=
  s.control c true (fun s => (s.corePend (c / 4) (c % 4) 8, { left := 2 }))

/-- IEN: sets or clears IE1 and IE2. -/
def State.cIen (s : State) (c mask : Nat) (rc : Bool) : State :=
  s.control c true (fun s =>
    let s := if bitOf mask 0 then s.setFlag (fRC_i_IRQ_CTRL_IE1 (c / 4) (c % 4)) rc else s
    let s := if bitOf mask 1 then s.setFlag (fRC_i_IRQ_CTRL_IE2 (c / 4) (c % 4)) rc else s
    (s, { left := 2 }))

/-! ### The commands -/

/-- BR. -/
def execBr (c : Fin 64) (k : Cond) (tgt : Fin 16384) (s : State) : Result :=
  done (s.issue c.val (fun s => s.cBr c.val k tgt.val))

/-- BRR. -/
def execBrr (c : Fin 64) (k : Cond) (s : State) : Result := done (s.issue c.val (fun s => s.cBrr c.val k))

/-- CALL. -/
def execCall (c : Fin 64) (k : Cond) (tgt : Fin 16384) (s : State) : Result :=
  done (s.issue c.val (fun s => s.cCall c.val k tgt.val))

/-- CALLR. -/
def execCallr (c : Fin 64) (k : Cond) (s : State) : Result := done (s.issue c.val (fun s => s.cCallr c.val k))

/-- RET. -/
def execRet (c : Fin 64) (k : Cond) (s : State) : Result := done (s.issue c.val (fun s => s.cRet c.val k))

/-- LOOP. -/
def execLoop (c : Fin 64) (lv : Fin 4) (count : BitVec 16 ⊕ Fin 32) (tgt : Fin 16384) (s : State) : Result :=
  done (s.issue c.val (fun s => s.cLoop c.val lv.val count tgt.val))

/-- BRK. -/
def execBrk (c : Fin 64) (lv : Fin 4) (k : Cond) (tgt : Fin 16384) (s : State) : Result :=
  done (s.issue c.val (fun s => s.cBrk c.val lv.val k tgt.val))

/-- RETI. -/
def execReti (c : Fin 64) (s : State) : Result := done (s.issue c.val (·.cReti c.val))

/-- HALT. -/
def execHalt (c : Fin 64) (s : State) : Result := done (s.issue c.val (·.cHalt c.val))

/-- SWI. -/
def execSwi (c : Fin 64) (s : State) : Result := done (s.issue c.val (·.cSwi c.val))

/-- IEN. -/
def execIen (c : Fin 64) (mask : Fin 4) (rc : Bool) (s : State) : Result :=
  done (s.issue c.val (fun s => s.cIen c.val mask.val rc))

end Sys2Proof.Machine
end

