-- ==== Sys2Proof/Machine/ReedTimed.lean ====
section
/-!
DEFINITION. The T-slot of a Reed core and what becomes of its commands: schedule time, the timed queue, delivery into armed
buffers, conditional plays and commits (R177 to R186, R204 to R211, R74, R75).
-/
namespace Sys2Proof.Machine

/-! ### The T-slot -/

/-- The register number and the offset of a T-slot command. -/
def TArg.parts : TArg → Nat × Nat × Bool
  | .short gs off => (gs.val, off.toNat, false)
  | .long gx off => (24 + gx.val, off.toNat, true)

/-- The offset of WAIT or SYNC, and whether it is long. -/
def TOff.parts : TOff → Nat × Bool
  | .short off => (off.toNat, false)
  | .long off => (off.toNat, true)

/-- A command enters the timed queue and takes its command number (R178). -/
def State.enqueue (s : State) (c : Nat) (t : TCmd) : State :=
  let n := c / 4
  let i := c % 4
  let q := (s.core c).queue ++ [{ t with seq := s.reg (rRC_i_CMDSEQ n i) }]
  let s := s.setCore c { s.core c with queue := q }
  let s := s.incWrap (fRC_i_CMDSEQ_NEXT n i)
  let s := s.setFld (fRC_i_STATUS_QLEVEL n i) q.length
  s.setFld (fRC_i_TQ_MAXLEVEL n i) (max (s.fld (fRC_i_TQ_MAXLEVEL n i)) q.length)

/-- A timed command (R177, R178): its operands are read in OF; a full queue holds the bundle. -/
def State.tCommand (s : State) (c top tgt : Nat) (x : TArg) (align : Nat) (targets : List (Nat × Nat)) : State :=
  let (gs, off, long) := TArg.parts x
  s.tSlot c long (targets.any (fun r => r.1 ≤ tgt && tgt < r.2) && gs % align == 0) (fun s =>
    let cmd : TCmd := {
      top := top, tgt := tgt, time := (s.schedule c + off) % 2 ^ 64, a := s.g c gs, b := s.g c (gs + 1),
      c := s.g c (gs + 2), d := s.g c (gs + 3), seq := 0, pc := s.pc c, core := c }
    if (s.core c).queue.length < 64 then (s.enqueue c cmd).bundleClose c
    else s.setCore c { s.core c with held := some cmd })

def tgtDT : Nat × Nat := (0x00, 0x20)
def tgtRT : Nat × Nat := (0x20, 0x40)
def tgtFX : Nat × Nat := (0x40, 0x48)
def tgtDC : Nat × Nat := (0x48, 0x4C)
def tgtLC : Nat × Nat := (0x4C, 0x4E)
def tgtMK : Nat × Nat := (0x50, 0x54)
def tgtTR : Nat × Nat := (0x58, 0x5C)

def State.tPlay (s : State) (c tgt : Nat) (x : TArg) : State := s.tCommand c 0x1 tgt x 1 [tgtDT, tgtRT, tgtFX]
def State.tCplay (s : State) (c tgt : Nat) (x : TArg) : State := s.tCommand c 0x2 tgt x 2 [tgtDT, tgtRT, tgtFX]
def State.tFrame (s : State) (c tgt : Nat) (x : TArg) : State := s.tCommand c 0x3 tgt x 1 [tgtDT, tgtRT]
def State.tFramea (s : State) (c tgt : Nat) (x : TArg) : State := s.tCommand c 0x4 tgt x 1 [tgtDT, tgtRT]
def State.tFreq (s : State) (c tgt : Nat) (x : TArg) : State := s.tCommand c 0x5 tgt x 2 [tgtDT, tgtRT, tgtDC, tgtLC]
def State.tFreqp (s : State) (c tgt : Nat) (x : TArg) : State := s.tCommand c 0x6 tgt x 4 [tgtDT, tgtRT, tgtDC, tgtLC]
def State.tAmp (s : State) (c tgt : Nat) (x : TArg) : State := s.tCommand c 0x7 tgt x 1 [tgtDT, tgtRT, tgtFX]
def State.tWin (s : State) (c tgt : Nat) (x : TArg) : State := s.tCommand c 0x8 tgt x 1 [(0x20, 0x21)]
def State.tMark (s : State) (c tgt : Nat) (x : TArg) : State := s.tCommand c 0x9 tgt x 1 [tgtMK]
def State.tJump (s : State) (c tgt : Nat) (x : TArg) : State := s.tCommand c 0xA tgt x 1 [tgtDT, tgtRT, tgtFX]
def State.tTrig (s : State) (c tgt : Nat) (x : TArg) : State := s.tCommand c 0xB tgt x 1 [tgtTR]

def State.tTnop (s : State) (c : Nat) (long : Bool) : State := s.tSlot c long true (·.bundleClose c)

/-- The schedule time takes a value; the T-slot of the next bundle uses it. -/
def State.setSchedule (s : State) (c v : Nat) : State := s.setCore c { s.core c with st := BitVec.ofNat 64 v }

/-- WAIT: st + o. -/
def State.tWait (s : State) (c : Nat) (o : TOff) : State :=
  s.tSlot c (TOff.parts o).2 true (fun s => (s.setSchedule c (s.schedule c + (TOff.parts o).1)).bundleClose c)

/-- SYNC: t_DE + o. -/
def State.tSync (s : State) (c : Nat) (o : TOff) : State :=
  s.tSlot c (TOff.parts o).2 true (fun s => (s.setSchedule c (s.cycle + (TOff.parts o).1)).bundleClose c)

/-- Has every command queued earlier been delivered, and fabric time passed its T (R181)? -/
def State.fenceMet (s : State) (c : Nat) : Bool := (s.core c).queue.isEmpty && (s.core c).lastT < s.now

/-- FENCE: holds its bundle in OF until the condition is met. -/
def State.tFence (s : State) (c : Nat) (long : Bool) : State :=
  s.tSlot c long true (fun s =>
    if s.fenceMet c then s.bundleClose c else s.setCore c { s.core c with fence := true })

/-- FENCE_RELEASE (R211): the bundle goes on in this cycle. -/
def State.fenceRelease (s : State) (c : Nat) : State :=
  if (s.core c).fence && (s.core c).queue.isEmpty && s.poolLive (c / 4) then
    (s.setCore c { s.core c with fence := false }).bundleEnd c s.cycle
  else s

/-! ### Armed buffers (R179 to R182) -/

def State.armedAt (s : State) (n tgt : Nat) : List Armed := SMap.get (fun _ => []) s.armed (128 * n + tgt)
def State.setArmed (s : State) (n tgt : Nat) (l : List Armed) : State :=
  { s with armed := SMap.set (fun _ => []) s.armed (128 * n + tgt) l }

/-- The armed buffers that a command is written into: the window engines that a WIN names, one for the four triggers. -/
def TCmd.buffers (t : TCmd) : List Nat :=
  if t.top = 8 then ((List.range 32).filter (fun k => t.a.getLsbD k)).map (0x60 + ·)
  else if 0x58 ≤ t.tgt then [0x58]
  else [t.tgt]

/-- Is the unit of a target not enabled (R182)? -/
def State.targetOff (s : State) (n tgt : Nat) : Bool :=
  if tgt < 0x20 || (0x48 ≤ tgt && tgt < 0x4C) then !s.flag (fDRV_STATUS_ENABLED n)
  else if tgt < 0x40 || (0x4C ≤ tgt && tgt < 0x4E) then !s.flag (fRO_STATUS_ENABLED n)
  else if tgt < 0x48 then !s.flag (fFLX_STATUS_ENABLED n)
  else false

/-- A command is written into its armed buffers; an EXACT CPLAY examines its slot on arrival (R184). -/
def State.arm (s : State) (n : Nat) (t : TCmd) : State :=
  let v := s.slot (TCmd.cplaySlot t)
  let a : Armed := ({ cmd := t, captured := none } : Armed).see (TCmd.cplaySlot t) v.1 v.2.1 v.2.2
  (TCmd.buffers t).foldl (fun s b => s.setArmed n b (s.armedAt n b ++ [a])) s

/-- The head of the queue leaves it: TQ_LOW, the end of HALTING, and the bundle that waited for an entry. -/
def State.queuePop (s : State) (c : Nat) (rest : List TCmd) : State :=
  let n := c / 4
  let i := c % 4
  let low := s.fld (fRC_i_TQ_LOWMARK n i)
  let s := s.setCore c { s.core c with queue := rest }
  let s := s.setFld (fRC_i_STATUS_QLEVEL n i) rest.length
  let s := if low < rest.length + 1 && rest.length ≤ low then s.corePend n i 3 else s
  match (s.core c).held with
  | some t => ((s.setCore c { s.core c with held := none }).enqueue c t).bundleEnd c s.cycle
  | none => if rest.isEmpty && s.rcState c = rcHalting then s.setRcState c rcHalted else s

/-- COMMAND_DELIVERY (R178 to R182). -/
def State.deliver (s : State) (c : Nat) : State :=
  let n := c / 4
  let i := c % 4
  match (s.core c).queue with
  | [] => s
  | t :: rest =>
    if !s.poolLive n then s
    else if s.targetOff n t.tgt then
      let s := s.queuePop c rest
      let s := s.incSat (fRC_i_COUNT_B_DISABLED n i)
      s.coreFault c 0x0505 t.pc t.time t.seq.toNat (some t.time)
    else if t.time < s.cycle + 768 then
      let s := s.queuePop c rest
      let s := s.incSat (fRC_i_COUNT_A_LATE n i)
      let s := s.corePend n i 9
      s.coreFault c 0x0501 t.pc t.time t.seq.toNat (some t.time)
    else if (TCmd.buffers t).any (fun b => 16 ≤ (s.armedAt n b).length) then s
    else
      let s := s.arm n t
      let s := s.setCore c { s.core c with lastT := max (s.core c).lastT t.time }
      s.queuePop c rest

/-! ### Commits -/

/-- The order of R75 among commands of one time. -/
def kindRank (top : Nat) : Nat :=
  if top = 5 || top = 6 then 0
  else if top = 3 || top = 4 then 1
  else if top = 7 then 2
  else if top = 1 || top = 2 then 3
  else 4

/-- Does command x come before y: kind, core, and the order in the queue? -/
def TCmd.before (x y : TCmd) : Bool :=
  kindRank x.top < kindRank y.top ||
    (kindRank x.top == kindRank y.top && (x.core < y.core || (x.core == y.core && x.seq.toNat < y.seq.toNat)))

/-- Puts a command into its place. -/
def insertCmd (a : Armed) : List Armed → List Armed
  | [] => [a]
  | b :: bs => if TCmd.before b.cmd a.cmd then b :: insertCmd a bs else a :: b :: bs

/-- The record of the last committed command (R200). -/
def State.recordCommit (s : State) (t : TCmd) : State :=
  let n := t.core / 4
  let i := t.core % 4
  let instant := if 0x58 ≤ t.tgt && t.top = 0xB then t.time else t.time - 384
  let s := s.runCommit t.core t.time (t.top == 0xB)
  let k := s.core t.core
  if k.lastCommit = some instant && t.seq.toNat < s.fld (fRC_i_LAST_COMMIT_SEQ_SEQ n i) then s
  else
    let s := s.setCore t.core { k with lastCommit := some instant }
    let s := s.setReg (rRC_i_LAST_COMMIT_SEQ n i) t.seq
    s.setReg64 (rRC_i_LAST_COMMIT_L n i) t.time

/-- Plays alternative A, B or nothing. -/
def State.playChoice (s : State) (n e : Nat) (t : TCmd) (choice : Nat) : State :=
  if choice = 0 then (if t.a.getLsbD 12 then s else s.engPlay n e t.time (fieldOf t.a 11 0))
  else if choice = 1 then (if t.a.getLsbD 28 then s else s.engPlay n e t.time (fieldOf t.a 27 16))
  else s

/-- CPLAY at its selection point (R184 to R186). -/
def State.cplayCommit (s : State) (n e : Nat) (a : Armed) : State :=
  let t := a.cmd
  let i := t.core % 4
  let v := s.slot (TCmd.cplaySlot t)
  let captured := if fieldOf t.b 12 12 = 1 then (if v.2.1 then some v.1 else none) else a.captured
  let dflt := fieldOf t.b 25 24
  match captured with
  | some state =>
    if state < 2 then s.playChoice n e t state
    else if fieldOf t.b 21 20 = 3 then (s.incSat (fRC_i_COUNT_B_CPLAY_S2 n i)).playChoice n e t dflt
    else s.playChoice n e t (fieldOf t.b 21 20)
  | none =>
    let s := s.playChoice n e t dflt
    let s := s.incSat (fRC_i_COUNT_A_MISSING n i)
    let s := s.corePend n i 10
    s.coreFault t.core 0x0504 t.pc t.time t.seq.toNat none

/-- A 48-bit word from two registers. -/
def word48 (lo hi : Word) : Nat := lo.toNat + 2 ^ 32 * (hi.toNat % 2 ^ 16)

/-- A committed command acts on its engine (R74, R104, R120, R122, R181, R210). -/
def State.commitOne (s : State) (n b : Nat) (a : Armed) : State :=
  let t := a.cmd
  let s := s.recordCommit t
  if t.top = 8 then s.winCommit n (b - 0x60) t.time
  else if t.top = 9 then
    s.markCmd n (t.tgt - 0x50) (t.time + s.fld (fMK_m_DELAY_DELAY n (t.tgt - 0x50))) (fieldOf t.a 1 0) (fieldOf t.a 31 16)
  else if t.top = 0xB then s.fire (0x200 + 4 * t.core + (t.tgt - 0x58))
  else if t.top = 1 then s.engPlay n t.tgt t.time (fieldOf t.a 11 0)
  else if t.top = 2 then s.cplayCommit n t.tgt a
  else if t.top = 3 then s.engFrame n t.tgt t.a false
  else if t.top = 4 then s.engFrame n t.tgt t.a true
  else if t.top = 7 then s.engAmp n t.tgt t.time (fieldOf t.a 17 0)
  else if t.top = 0xA then s.engJump n t.tgt t.time (fieldOf t.a 11 0) (t.a.getLsbD 16)
  else
    let ftw := word48 t.a t.b
    let poff := if t.top = 6 then some (word48 t.c t.d) else none
    if 0x48 ≤ t.tgt then s.carrierFreq n (t.tgt - 0x48) t.time ftw poff else s.toneFreq n t.tgt t.time ftw poff

/-- COMMAND_COMMIT: the armed commands with the least T, in the order of R75. -/
def State.commitArmed (s : State) (n b : Nat) : State :=
  match s.armedAt n b with
  | [] => s
  | a :: rest =>
    if !s.poolLive n then s
    else
      let t := rest.foldl (fun m x => min m x.cmd.time) a.cmd.time
      let due := ((a :: rest).filter (·.cmd.time = t)).foldr insertCmd []
      let s := s.setArmed n b ((a :: rest).filter (·.cmd.time ≠ t))
      due.foldl (fun s x => s.commitOne n b x) s

/-! ### The commands -/

/-- PLAY. -/
def execPlay (c : Fin 64) (tgt : Fin 128) (x : TArg) (s : State) : Result :=
  done (s.issue c.val (fun s => s.tPlay c.val tgt.val x))

/-- CPLAY. -/
def execCplay (c : Fin 64) (tgt : Fin 128) (x : TArg) (s : State) : Result :=
  done (s.issue c.val (fun s => s.tCplay c.val tgt.val x))

/-- FRAME. -/
def execFrame (c : Fin 64) (tgt : Fin 128) (x : TArg) (s : State) : Result :=
  done (s.issue c.val (fun s => s.tFrame c.val tgt.val x))

/-- FRAMEA. -/
def execFramea (c : Fin 64) (tgt : Fin 128) (x : TArg) (s : State) : Result :=
  done (s.issue c.val (fun s => s.tFramea c.val tgt.val x))

/-- FREQ. -/
def execFreq (c : Fin 64) (tgt : Fin 128) (x : TArg) (s : State) : Result :=
  done (s.issue c.val (fun s => s.tFreq c.val tgt.val x))

/-- FREQP. -/
def execFreqp (c : Fin 64) (tgt : Fin 128) (x : TArg) (s : State) : Result :=
  done (s.issue c.val (fun s => s.tFreqp c.val tgt.val x))

/-- AMP. -/
def execAmp (c : Fin 64) (tgt : Fin 128) (x : TArg) (s : State) : Result :=
  done (s.issue c.val (fun s => s.tAmp c.val tgt.val x))

/-- WIN. -/
def execWin (c : Fin 64) (tgt : Fin 128) (x : TArg) (s : State) : Result :=
  done (s.issue c.val (fun s => s.tWin c.val tgt.val x))

/-- MARK. -/
def execMark (c : Fin 64) (tgt : Fin 128) (x : TArg) (s : State) : Result :=
  done (s.issue c.val (fun s => s.tMark c.val tgt.val x))

/-- JUMP. -/
def execJump (c : Fin 64) (tgt : Fin 128) (x : TArg) (s : State) : Result :=
  done (s.issue c.val (fun s => s.tJump c.val tgt.val x))

/-- TRIG. -/
def execTrig (c : Fin 64) (tgt : Fin 128) (x : TArg) (s : State) : Result :=
  done (s.issue c.val (fun s => s.tTrig c.val tgt.val x))

/-- TNOP. -/
def execTnop (c : Fin 64) (long : Bool) (s : State) : Result := done (s.issue c.val (fun s => s.tTnop c.val long))

/-- WAIT. -/
def execWait (c : Fin 64) (o : TOff) (s : State) : Result := done (s.issue c.val (fun s => s.tWait c.val o))

/-- SYNC. -/
def execSync (c : Fin 64) (o : TOff) (s : State) : Result := done (s.issue c.val (fun s => s.tSync c.val o))

/-- FENCE. -/
def execFence (c : Fin 64) (long : Bool) (s : State) : Result := done (s.issue c.val (fun s => s.tFence c.val long))

/-- FENCE_RELEASE. -/
def execFenceRelease (c : Fin 64) (s : State) : Result := done (s.fenceRelease c.val)

/-- COMMAND_DELIVERY. -/
def execCommandDelivery (c : Fin 64) (s : State) : Result := done (s.deliver c.val)

/-- COMMAND_COMMIT. -/
def execCommandCommit (n : Fin 16) (tgt : Fin 128) (s : State) : Result := done (s.commitArmed n.val tgt.val)

/-- INTERRUPT_ENTRY. -/
def execInterruptEntry (c : Fin 64) (s : State) : Result := done (s.interruptEntry c.val)

/-- A host write of RC_MAILBOX (R188). -/
def State.mailboxWrite (s : State) (c : Nat) (v : Word) : State :=
  (s.setReg (rRC_i_MAILBOX (c / 4) (c % 4)) v).corePend (c / 4) (c % 4) 0

/-- MAILBOX. -/
def execMailbox (p : Path) (c : Fin 64) (v : Word) (s : State) : Result :=
  done (s.viaBus p (rRC_i_MAILBOX (c.val / 4) (c.val % 4)) (fun s => s.mailboxWrite c.val v))

/-- CORE_TIMER: TIMER fires while TIMER_ARM is set. -/
def execCoreTimer (c : Fin 64) (s : State) : Result :=
  let n := c.val / 4
  let i := c.val % 4
  done (if s.flag (fRC_i_IRQ_CTRL_TIMER_ARM n i) && s.poolLive n then
    (s.setFlag (fRC_i_IRQ_CTRL_TIMER_ARM n i) false).corePend n i 1 else s)

/-- IRQ: the Fen task IRQj of a core (R188, R263). -/
def execIrq (c : Fin 64) (j : Fin 4) (s : State) : Result :=
  let s := s.takeAct (c.val / 4 * 0x80 + 0x48 + 4 * (c.val % 4) + j.val)
  done (if s.poolLive (c.val / 4) then s.corePend (c.val / 4) (c.val % 4) (4 + j.val) else s)

end Sys2Proof.Machine
end

