-- ==== Sys2Proof/Machine/Boardwalk.lean ====
section
/-!
DEFINITION. Boardwalk: partitions, doorbell blocks, rings, descriptors, completion records, result buffers and the end of a
RUN (chapter "Host interface, rings and doorbell blocks", R318 to R348). Rows that change the mode or write registers as a
partition are in HostRun.
-/
namespace Sys2Proof.Machine

/-! ### Records -/

def State.sq (s : State) (p r : Nat) : SubRing := SMap.get (fun _ => {}) s.sqs (8 * p + r)
def State.setSq (s : State) (p r : Nat) (v : SubRing) : State := { s with sqs := SMap.set (fun _ => {}) s.sqs (8 * p + r) v }
def State.cq (s : State) (p r : Nat) : CplRing := SMap.get (fun _ => {}) s.cqs (8 * p + r)
def State.setCq (s : State) (p r : Nat) (v : CplRing) : State := { s with cqs := SMap.set (fun _ => {}) s.cqs (8 * p + r) v }
def State.partn (s : State) (p : Nat) : Partition := SMap.get (fun _ => {}) s.parts p
def State.setPartn (s : State) (p : Nat) (v : Partition) : State := { s with parts := SMap.set (fun _ => {}) s.parts p v }

def State.partOn (s : State) (p : Nat) : Bool := s.flag (fBW_Pp_STATUS_ENABLED p)

/-- Does Boardwalk work: powered, its control store in order, in a mode in which rings run (R333, R399)? -/
def State.bwRuns (s : State) : Bool := s.pdOn 3 && s.csReady 0 && modeConfig ≤ s.mode

/-- Raises a host fault (R348): the first since reset is kept. -/
def State.bwFault (s : State) (p code : Nat) : State :=
  let s := s.raise code
  let s := if s.fld fBW_FAULT_CODE = 0 then (s.setFld fBW_FAULT_CODE code).setFld fBW_FAULT_PART p else s
  s.icPend 55

/-- Host source 72 + 16p: any ring of the partition in error. -/
def State.ringErrLevel (s : State) (p : Nat) : State :=
  s.icLevel (72 + 16 * p)
    ((List.range 8).any (fun r => s.flag (fBW_Pp_SQr_STATUS_ERR p r) || s.flag (fBW_Pp_CQr_STATUS_ERR p r)))

/-- All ones in 64 bits: T_LAUNCH of a RUN without a committed command. -/
def noTick : Nat := 0xFFFFFFFFFFFFFFFF

/-! ### Host memory (R325, R337) -/

/-- A write to host memory, which a halted Boardwalk does not make (R399). -/
def State.hostWrite (s : State) (addr : Nat) (bytes : List Byte) : State :=
  if s.csReady 0 then s.emit (.hostWrite addr bytes) else s

/-- Writes the status block. -/
def State.writeStatus (s : State) (p : Nat) : State :=
  if s.partOn p then
    s.hostWrite (s.reg64 (rBW_Pp_SB_ADDR_L p))
      ((List.range 8).flatMap (fun r => leBytes 4 (if (s.sq p r).on then s.regN (rBW_Pp_SQr_HEAD p r) else 0)) ++
        (List.range 8).flatMap (fun r => leBytes 4 (if (s.cq p r).on then s.regN (rBW_Pp_CQr_TAIL p r) else 0)))
  else s

/-- What a completion record says besides SEQ. -/
structure Completion where
  status : Nat := 0
  reason : Nat := 0
  fault : Nat := 0
  steps : Nat := 0
  shots : Nat := 0
  launch : Nat
  endT : Nat
  deriving DecidableEq, Repr

/-- The 32 bytes of a completion record. -/
def Completion.bytes (c : Completion) (seq : Nat) : List Byte :=
  leBytes 4 seq ++ leBytes 1 c.status ++ leBytes 1 c.reason ++ leBytes 2 c.fault ++ leBytes 4 c.steps ++
    leBytes 4 c.shots ++ leBytes 8 c.launch ++ leBytes 8 c.endT

/-- Writes a completion record to a ring, unless QUIET keeps it back; the reserved slot is used or released. -/
def State.writeRecord (s : State) (p cq seq flg : Nat) (c : Completion) : State :=
  let s := s.setFld (fBW_Pp_CQr_STATUS_RESERVED_SLOTS p cq) (s.fld (fBW_Pp_CQr_STATUS_RESERVED_SLOTS p cq) - 1)
  let s := if c.status = 2 then s.incSat (fBW_Pp_COUNT_REFUSED p) else s
  if (bitOf flg 1 && c.status = 0) || !s.csReady 0 || !s.partOn p || !(s.cq p cq).on || s.flag (fBW_Pp_CQr_STATUS_ERR p cq) then s
  else
    let tail := s.regN (rBW_Pp_CQr_TAIL p cq)
    let s := s.hostWrite
      (s.reg64 (rBW_Pp_CQr_BASE_L p cq) + 32 * (tail % max 1 (s.fld (fBW_Pp_CQr_SIZE_ENTRIES p cq)))) (c.bytes seq)
    let s := s.setRegN (rBW_Pp_CQr_TAIL p cq) (tail + 1)
    let s := if bitOf flg 0 then s.icPend (64 + 16 * p + cq) else s
    s.writeStatus p

/-! ### Descriptor fields (R332, R334) -/

/-- The fabric time that a completion record takes: 0 while the time unit is IDLE (R41, R337). -/
def State.stamp (s : State) : Nat := if s.tmState = tmIdle then 0 else s.now

/-- The n bytes of a descriptor from byte `at_` on. -/
def Desc.le (d : Desc) (at_ n : Nat) : Nat := d.bits.toNat / 2 ^ (8 * at_) % 2 ^ (8 * n)

def Desc.opc (d : Desc) : Nat := d.le 0 1
def Desc.flg (d : Desc) : Nat := d.le 1 1
def Desc.tag (d : Desc) : Nat := d.le 2 2
def Desc.seq (d : Desc) : Nat := d.le 4 4
def Desc.flagOp (d : Desc) : Bool := bitOf d.flg 2
/-- The Pool of a descriptor that names one in byte 8, and the tone or buffer of byte 9. -/
def Desc.pool (d : Desc) : Nat := d.le 8 1
def Desc.unit (d : Desc) : Nat := d.le 9 1
def Desc.coreMask (d : Desc) : Nat := d.le 8 8
def Desc.shotTone (d : Desc) : Option Nat := if d.le 36 2 = 0xFFFF then none else some (d.le 36 2)

/-! ### Waiting descriptors -/

/-- Has everything that a FENCE waits for completed (R339)? -/
def State.fenceDone (s : State) (p r : Nat) (d : Desc) : Bool :=
  let mask := if d.le 8 1 = 0 then 255 else d.le 8 1
  (List.range 8).all (fun q => q == r || !bitOf mask q ||
    (match (s.sq p q).cur with
      | some e => d.no < e.no
      | none => true))

/-- Ends the descriptor in progress of a ring, with its record. -/
def State.endDesc (s : State) (p r : Nat) (c : Completion) : State :=
  match (s.sq p r).cur with
  | some d => (s.setSq p r { s.sq p r with cur := none }).writeRecord p d.cq d.seq d.flg c
  | none => s

/-- Ends a FENCE or an ABORT whose wait is over. -/
def State.settleRing (s : State) (p r : Nat) : State :=
  match (s.sq p r).cur with
  | some d =>
    match d.phase with
    | .fence => if s.fenceDone p r d then s.endDesc p r { launch := d.began, endT := s.stamp } else s
    | .abort rings n =>
      if s.runs.any (fun x => x.part == p && rings.contains x.ring) then s
      else s.endDesc p r { steps := n, launch := d.began, endT := s.stamp }
    | _ => s
  | none => s

/-- Ends every FENCE and ABORT of a partition whose wait is over; one may end another's. -/
def State.settle (s : State) (p : Nat) : State := forRange 8 (fun _ t => forRange 8 (fun r u => u.settleRing p r) t) s

/-- A descriptor completes: times are those of its processing. -/
def State.finish (s : State) (p r status reason fault steps shots : Nat) : State :=
  match (s.sq p r).cur with
  | some d => (s.endDesc p r {
      status := status, reason := reason, fault := fault, steps := steps, shots := shots, launch := d.began,
      endT := s.stamp }).settle p
  | none => s

def State.finishOk (s : State) (p r steps : Nat) : State := s.finish p r 0 0 0 steps 0
def State.refuse (s : State) (p r reason : Nat) : State := s.finish p r 2 reason 0 0 0

/-- A host read has failed: STATUS FAULT with 0x0A02 (R336). -/
def State.readFailed (s : State) (p r steps shots : Nat) : State :=
  (s.bwFault p 0x0A02).finish p r 4 0 0x0A02 steps shots

def State.setPhase (s : State) (p r : Nat) (ph : DescPhase) : State :=
  match (s.sq p r).cur with
  | some d => s.setSq p r { s.sq p r with cur := some { d with phase := ph } }
  | none => s

/-- The fetched descriptor of a ring, when its opcode is the one and it waits to be processed. -/
def State.descNow (s : State) (p r opc : Nat) : Option Desc :=
  if s.bwRuns then (s.sq p r).cur.filter (fun d => d.opc == opc && d.phase == .fetched) else none

/-! ### Shots and result buffers (R341 to R344) -/

/-- The shot that contains a tick. -/
def Run.shotOf (x : Run) (t : Nat) : Nat := if x.shotTone = none then 0 else x.refs.countP (· < t)

/-- The Pools of a RUN. -/
def Run.pools (x : Run) : List Nat := (List.range 16).filter x.hasPool

/-- The leading whole shots (R342). -/
def State.wholeShots (s : State) (x : Run) (complete : Bool) : Nat :=
  if x.shotTone = none then bit complete
  else (x.refs.takeWhile (fun e => x.pools.all (fun n => (s.fifo n).all (fun w => e < w.tEnd)))).length

/-- The leading shots that are whole and not PARTIAL. -/
def State.cleanShots (s : State) (x : Run) (complete : Bool) : Nat :=
  x.marks.foldl (fun m k => min m (x.shotOf k.1)) (s.wholeShots x complete)

/-- Replaces the RUN of a ring. -/
def State.setRun (s : State) (x : Run) : State :=
  { s with runs := s.runs.map (fun y => if y.part = x.part && y.ring = x.ring then x else y) }

/-- The RUN of a ring. -/
def State.runAt (s : State) (p r : Nat) : Option Run := s.runs.find? (fun x => x.part == p && x.ring == r)

/-- Retires a RUN's current buffer: its header is written, and the RESULT_POST that brought it completes. -/
def State.retire (s : State) (x : Run) (full last complete : Bool) : State :=
  match x.buf with
  | none => s
  | some b =>
    let shots := s.wholeShots x complete
    let s := s.hostWrite b.addr
      (leBytes 4 b.units ++ leBytes 4 x.lost ++ leBytes 4 shots ++ leBytes 4 (bit full + 2 * bit last) ++
        leBytes 8 b.tLast ++ leBytes 4 x.seq ++ List.replicate 36 0)
    let s := s.setRun { x with buf := none, lost := 0 }
    match b.post with
    | some q => s.writeRecord x.part q.cq q.seq q.flg { steps := b.units, shots := shots, launch := q.began, endT := s.stamp }
    | none => s

/-- The next posted buffer of a RUN becomes its current buffer. -/
def State.nextBuffer (s : State) (p r : Nat) : State :=
  match s.runAt p r with
  | none => s
  | some x =>
    match (s.partn p).posts.find? (fun q => q.runTag == x.tag) with
    | none => s
    | some q =>
      let s := s.setPartn p { s.partn p with posts := (s.partn p).posts.erase q }
      s.setRun { x with buf := some { addr := q.addr, size := q.size, post := some q } }

/-- Do so many records fit into a RUN's current buffer? -/
def Run.fits (x : Run) (units : Nat) : Bool :=
  match x.buf with
  | some b => 64 + 16 * (b.units + units) ≤ b.size
  | none => false

/-- A window's records go into the current buffer, or fail to (R343). -/
def State.storeRecords (s : State) (x : Run) (w : WinRecs) (ok : Bool) : State :=
  match x.buf with
  | none => s
  | some b =>
    let units := w.words.length / 4
    if ok then
      (s.setRun { x with buf := some { b with units := b.units + units, tLast := w.tEnd } }).hostWrite
        (b.addr + 64 + 16 * b.units) (w.words.flatMap (fun v => leBytes 4 v.toNat))
    else
      let s := s.setRun { x with
        lost := x.lost + 1, marks := x.marks ++ [(w.tEnd, 0x0A02)],
        fault := some (x.fault.getD 0x0A02) }
      s.bwFault x.part 0x0A02

/-- RESULT_WRITE: the oldest window of a Pool's FIFO is drained; `ok` says that the host write succeeds. -/
def State.resultWrite (s : State) (n : Nat) (ok : Bool) : State :=
  match s.fifo n, s.runs.find? (fun x => x.active && x.hasPool n) with
  | w :: rest, some x =>
    if !(s.pdOn 3 && s.csReady 0) then s
    else
      let units := w.words.length / 4
      let s := if x.fits units then s else (s.retire x true false false).nextBuffer x.part x.ring
      let s := { s with fifos := SMap.set (fun _ => []) s.fifos n rest }.setFld (fRO_FIFO_LEVEL n)
        (s.fld (fRO_FIFO_LEVEL n) - units)
      match s.runAt x.part x.ring with
      | none => s
      | some y =>
        if y.fits units then s.storeRecords y w ok
        else
          (s.setRun { y with lost := y.lost + 1, marks := y.marks ++ [(w.tEnd, 0x0A03)] }).bwFault y.part 0x0A03
  | _, _ => s

/-! ### The end of a RUN (R338, R345, R346) -/

/-- Has the RUN been ended early, by ABORT, TIMEOUT or SAFE? -/
def Run.cut (x : Run) : Bool := x.ended.isSome || x.fault.isSome

/-- Do every core, command, window and record of a RUN stand at their end (R345)? A RUN that was ended before its cores
started has nothing to wait for in them. -/
def State.runOver (s : State) (x : Run) : Bool :=
  x.active && (x.started || x.cut) &&
    (List.range 64).all (fun c => !bitOf x.coreMask c || !x.started ||
      (s.rcState c ∈ [rcHalted, rcFaulted, rcStopped] && (s.core c).queue == [] && s.armedOf c == [])) &&
    x.pools.all (fun n => s.fifo n == [] &&
      (List.range 32).all (fun k => !(s.tone n k).busy && (s.tone n k).seqs == []))

/-- The first fault of the RUN's Pools, by the time of their records (R201, R338). -/
def State.firstPoolFault (s : State) (x : Run) : Nat :=
  let l := (x.pools.filter (fun n => s.fld (fRC_PFR_CODE_CODE n) != 0)).map
    (fun n => (s.reg64 (rRC_PFR_TIME_L n), s.fld (fRC_PFR_CODE_CODE n)))
  match l with
  | [] => 0
  | e :: es => (es.foldl (fun a b => if b.1 < a.1 then b else a) e).2

/-- STATUS and FAULT of a RUN that completes (R338). -/
def State.runStatus (s : State) (x : Run) : Nat × Nat :=
  match x.ended with
  | some code => (3, code)
  | none =>
    match x.fault with
    | some code => (4, code)
    | none =>
      match x.marks with
      | m :: _ => (1, m.2)
      | [] => (0, s.firstPoolFault x)

/-- The posted buffers with the TAG of a RUN that has completed are dropped (R344). -/
def State.dropPosts (s : State) (p tag : Nat) : State :=
  let dropped := (s.partn p).posts.filter (fun q => q.runTag == tag)
  let s := s.setPartn p { s.partn p with posts := (s.partn p).posts.filter (fun q => q.runTag != tag) }
  dropped.foldl (fun t q => t.writeRecord p q.cq q.seq q.flg { status := 3, launch := q.began, endT := t.stamp }) s

/-- A RUN completes: last buffer, RUN_END, cores LOADED, completion record. -/
def State.runFinish (s : State) (x : Run) : State :=
  let c : Completion := {
    status := (s.runStatus x).1
    fault := (s.runStatus x).2
    steps := s.cleanShots x true
    shots := s.wholeShots x true
    launch := x.launch.getD noTick
    endT := match x.lastT, x.lastEnd with
      | some a, some b => max a b
      | some a, none => a
      | none, some b => b
      | none, none => s.stamp }
  let s := s.retire x false true true
  let s := { s with runs := s.runs.filter (fun y => !(y.part == x.part && y.ring == x.ring)) }
  let s := forRange 64 (fun k t => if bitOf x.coreMask k then t.coreRelease k else t) s
  let s := (s.fire (0x384 + x.part)).icPend (73 + 16 * x.part)
  ((s.endDesc x.part x.ring c).dropPosts x.part x.tag).settle x.part

/-- What ABORT does to the Pools of an active RUN: cores stop, chains and windows end (R82, R141, R180, R199). -/
def State.stopRun (s : State) (x : Run) : State :=
  let s := forRange 64 (fun c t => if bitOf x.coreMask c then t.coreStop c else t) s
  x.pools.foldl (fun t n =>
    let t := (t.endChains n 0 72).truncatePool n
    forRange 4 (fun m u =>
      u.setMarker n m { u.marker n m with cmds := (u.marker n m).cmds.filter (fun e => e.1 ≤ u.now) }) t) s

/-- A RUN is ended early: an active one stops, a waiting one completes at once (R346). -/
def State.runEnd (s : State) (x : Run) (code : Nat) : State :=
  if x.active then (s.setRun { x with ended := some (x.ended.getD code) }).stopRun x
  else
    let s := { s with runs := s.runs.filter (fun y => !(y.part == x.part && y.ring == x.ring)) }
    (s.endDesc x.part x.ring { status := 3, launch := noTick, endT := s.stamp }).settle x.part

/-- Waiting RUNs are refused: the device has entered a mode in which RUN is not accepted (R411). -/
def State.refuseWaiting (s : State) : State :=
  let waiting := s.runs.filter (fun x => !x.active)
  let s := { s with runs := s.runs.filter (·.active) }
  waiting.foldl (fun t x => t.refuse x.part x.ring 0x02) s

/-- SAFE has been entered: every active RUN completes with STATUS FAULT and the cause's code (R338, R346). -/
def State.runsSafe (s : State) (code : Nat) : State :=
  { s with runs := s.runs.map (fun x => if x.active then { x with fault := some (x.fault.getD code) } else x) }

/-- RUN_TIMEOUT. -/
def State.runTimeout (s : State) (p r : Nat) : State :=
  match s.runAt p r with
  | some x =>
    if x.active && x.started && x.timeout != 0 then (s.bwFault p 0x0A05).runEnd x 0x0A05 else s
  | none => s

/-! ### Partitions and rings (R326 to R331) -/

/-- The check of BW_Pp_CTRL.ENABLE. -/
def State.partCheck (s : State) (p : Nat) : List Failure :=
  let db := s.reg64 (rBW_Pp_DB_ADDR_L p)
  let sb := s.reg64 (rBW_Pp_SB_ADDR_L p)
  failIf (!s.csReady 0) 0x09 ++ failIf (db = 0 || sb = 0 || db % 64 != 0 || sb % 64 != 0) 0xC3

/-- BW_Pp_CTRL.ENABLE set. -/
def State.partEnable (s : State) (p : Nat) : State :=
  let s := s.setFlag (fBW_Pp_CTRL_ENABLE p) true
  if s.partOn p then s
  else s.unitOutcome uBW (fBW_Pp_STATUS_ENABLED p) (fBW_Pp_STATUS_REFUSED p) (fBW_Pp_STATUS_REASON p) none (s.partCheck p)

/-- A submission ring stops: its error clears. -/
def State.sqOff (s : State) (p r : Nat) : State :=
  let s := (s.setSq p r { s.sq p r with on := false }).setFlag (fBW_Pp_SQr_CTRL_EN p r) false
  (s.setFlag (fBW_Pp_SQr_STATUS_ERR p r) false).ringErrLevel p

def State.cqOff (s : State) (p r : Nat) : State :=
  let s := (s.setCq p r { s.cq p r with on := false }).setFlag (fBW_Pp_CQr_CTRL_EN p r) false
  (s.setFlag (fBW_Pp_CQr_STATUS_ERR p r) false).ringErrLevel p

/-- A load in progress stops where it is: a LOAD_PROG leaves its core in RESET, a LOAD_GRAPH clears LOADED (R331). Where the
load would have been refused for a busy core or an enabled Sedge, nothing changes. -/
def State.loadStopped (s : State) (p r : Nat) : State :=
  match (s.sq p r).cur with
  | some d =>
    if d.phase != .fetched then s
    else if d.opc = 0x03 then (if s.coreBusy (d.le 8 1) then s else s.setRcState (d.le 8 1) rcReset)
    else if d.opc = 0x0B then (if s.flag fSDG_STATUS_ENABLED then s else s.setFlag fSDG_GRAPH_LOADED false)
    else s
  | none => s

/-- The partition is disabled (R331). -/
def State.partDisable (s : State) (p : Nat) : State :=
  let s := (s.setFlag (fBW_Pp_CTRL_ENABLE p) false).setFlag (fBW_Pp_STATUS_ENABLED p) false
  let s := forRange 8 (fun r t =>
    let t := ((t.loadStopped p r).sqOff p r).cqOff p r
    (t.setSq p r { t.sq p r with cur := none }).setFld (fBW_Pp_CQr_STATUS_RESERVED_SLOTS p r) 0) s
  let s := s.setPartn p {}
  (s.runs.filter (fun x => x.part == p)).foldl (fun t x => t.runEnd x 0) s

/-- KICK: the partition is busy. -/
def State.kick (s : State) (p : Nat) : State := s.setPartn p { s.partn p with changed := some s.now }

/-- A write of BW_Pp_CTRL. -/
def State.partCtrlWrite (s : State) (p : Nat) (v : Word) : State :=
  let s := if v.getLsbD 0 then s.partEnable p else s.partDisable p
  if v.getLsbD 1 then s.kick p else s

/-- Is the partition busy (R327)? -/
def State.partBusy (s : State) (p : Nat) : Bool :=
  s.partOn p &&
    ((List.range 8).any (fun r =>
        (s.sq p r).cur.isSome || ((s.sq p r).on && (s.sq p r).tail != s.regN (rBW_Pp_SQr_HEAD p r))) ||
      (match (s.partn p).changed with
        | some t => s.now ≤ t + 16000 * s.fld (fBW_Pp_POLL_HOLD p)
        | none => false))

/-- Is a ring size a power of two from 16 to 65,536? -/
def ringSizeOk (n : Nat) : Bool := (List.range 13).any (fun i => n == 2 ^ (i + 4))

/-- A ring's check or write is refused. -/
def State.ringRefused (s : State) (refused reason : Fld) (r : Nat) : State :=
  ((s.setFlag refused true).setFld reason r).reportRefused uBW r 0

/-- EN of a submission ring set. -/
def State.sqEnable (s : State) (p r : Nat) : State :=
  let s := s.setFlag (fBW_Pp_SQr_CTRL_EN p r) true
  if (s.sq p r).on then s
  else
    let fails := failIf (!s.partOn p) 0x08 ++ failIf (!ringSizeOk (s.fld (fBW_Pp_SQr_SIZE_ENTRIES p r))) 0xC0 ++
      failIf (s.reg64 (rBW_Pp_SQr_BASE_L p r) % 4096 != 0) 0xC1 ++
      failIf (!(s.cq p (s.fld (fBW_Pp_SQr_CTRL_CQ p r))).on) 0xC6
    match worstFailure fails with
    | some (why, _) => s.ringRefused (fBW_Pp_SQr_STATUS_REFUSED p r) (fBW_Pp_SQr_STATUS_REASON p r) why
    | none =>
      let s := (s.setFlag (fBW_Pp_SQr_STATUS_REFUSED p r) false).setFld (fBW_Pp_SQr_STATUS_REASON p r) 0
      let s := (s.reportAccepted uBW).setRegN (rBW_Pp_SQr_HEAD p r) 0
      s.setSq p r { s.sq p r with on := true, tail := 0 }

/-- EN of a completion ring set. -/
def State.cqEnable (s : State) (p r : Nat) : State :=
  let s := s.setFlag (fBW_Pp_CQr_CTRL_EN p r) true
  if (s.cq p r).on then s
  else
    let fails := failIf (!s.partOn p) 0x08 ++ failIf (!ringSizeOk (s.fld (fBW_Pp_CQr_SIZE_ENTRIES p r))) 0xC0 ++
      failIf (s.reg64 (rBW_Pp_CQr_BASE_L p r) % 4096 != 0) 0xC1
    match worstFailure fails with
    | some (why, _) => s.ringRefused (fBW_Pp_CQr_STATUS_REFUSED p r) (fBW_Pp_CQr_STATUS_REASON p r) why
    | none =>
      let s := (s.setFlag (fBW_Pp_CQr_STATUS_REFUSED p r) false).setFld (fBW_Pp_CQr_STATUS_REASON p r) 0
      let s := (s.reportAccepted uBW).setRegN (rBW_Pp_CQr_TAIL p r) 0
      s.setCq p r { on := true, head := 0 }

/-- A write of BW_Pp_SQr_CTRL: CQ is locked while the ring is enabled. -/
def State.sqCtrlWrite (s : State) (p r : Nat) (v : Word) : State :=
  let s := if (s.sq p r).on then s else s.setFld (fBW_Pp_SQr_CTRL_CQ p r) (fieldOf v 6 4)
  if v.getLsbD 0 then s.sqEnable p r else s.sqOff p r

/-- A write of BW_Pp_CQr_CTRL: a ring that an enabled submission ring names stays enabled (R330). -/
def State.cqCtrlWrite (s : State) (p r : Nat) (v : Word) : State :=
  if v.getLsbD 0 then s.cqEnable p r
  else if (List.range 8).any (fun q => (s.sq p q).on && s.fld (fBW_Pp_SQr_CTRL_CQ p q) == r) then
    s.ringRefused (fBW_Pp_CQr_STATUS_REFUSED p r) (fBW_Pp_CQr_STATUS_REASON p r) 0x08
  else s.cqOff p r

/-- A write of a submission ring's BASE or SIZE (R328). -/
def State.sqShapeWrite (s : State) (p r off : Nat) (v : Word) : State :=
  if (s.sq p r).on then s.ringRefused (fBW_Pp_SQr_STATUS_REFUSED p r) (fBW_Pp_SQr_STATUS_REASON p r) 0xC2
  else s.setReg off v

/-- A write of a completion ring's BASE or SIZE. -/
def State.cqShapeWrite (s : State) (p r off : Nat) (v : Word) : State :=
  if (s.cq p r).on then s.ringRefused (fBW_Pp_CQr_STATUS_REFUSED p r) (fBW_Pp_CQr_STATUS_REASON p r) 0xC2
  else s.setReg off v

/-- A write of BW_POOL_OWNER: a Pool in an active RUN keeps its owner (R323). -/
def State.ownerWrite (s : State) (v : Word) : State :=
  forRange 16 (fun n t =>
    if t.poolInRun n then t
    else t.setReg rBW_POOL_OWNER (putField (t.reg rBW_POOL_OWNER) (2 * n + 1) (2 * n) (fieldOf v (2 * n + 1) (2 * n)))) s

/-! ### Polling and fetching (R326, R327, R329) -/

/-- A polled index of a submission ring. -/
def State.pollSq (s : State) (p r tail : Nat) : State :=
  if !(s.sq p r).on || s.flag (fBW_Pp_SQr_STATUS_ERR p r) then s
  else if s.fld (fBW_Pp_SQr_SIZE_ENTRIES p r) < (tail + 2 ^ 32 - s.regN (rBW_Pp_SQr_HEAD p r)) % 2 ^ 32 then
    ((s.setFlag (fBW_Pp_SQr_STATUS_ERR p r) true).bwFault p 0x0A01).ringErrLevel p
  else
    let s := if tail = (s.sq p r).tail then s else s.kick p
    s.setSq p r { s.sq p r with tail := tail }

/-- A polled index of a completion ring. -/
def State.pollCq (s : State) (p r head : Nat) : State :=
  if !(s.cq p r).on || s.flag (fBW_Pp_CQr_STATUS_ERR p r) then s
  else if s.fld (fBW_Pp_CQr_SIZE_ENTRIES p r) < (s.regN (rBW_Pp_CQr_TAIL p r) + 2 ^ 32 - head) % 2 ^ 32 then
    ((s.setFlag (fBW_Pp_CQr_STATUS_ERR p r) true).bwFault p 0x0A01).ringErrLevel p
  else
    let s := if head = (s.cq p r).head then s else s.kick p
    s.setCq p r { s.cq p r with head := head }

/-- DOORBELL_POLL: the doorbell block as read; none when the read fails. -/
def State.doorbellPoll (s : State) (p : Nat) (block : Option (BitVec 512)) : State :=
  if !s.bwRuns || !s.partOn p then s
  else
    match block with
    | none => s.bwFault p 0x0A02
    | some b =>
      let s := forRange 8 (fun r t => t.pollSq p r (sliceNat b (32 * r + 31) (32 * r))) s
      forRange 8 (fun r t => t.pollCq p r (sliceNat b (256 + 32 * r + 31) (256 + 32 * r))) s

/-- May the next descriptor of a ring be fetched? -/
def State.mayFetch (s : State) (p r : Nat) : Bool :=
  let c := s.fld (fBW_Pp_SQr_CTRL_CQ p r)
  s.bwRuns && s.partOn p && (s.sq p r).on && !s.flag (fBW_Pp_SQr_STATUS_ERR p r) && (s.sq p r).cur.isNone &&
    (s.sq p r).tail != s.regN (rBW_Pp_SQr_HEAD p r) && (s.cq p c).on && !s.flag (fBW_Pp_CQr_STATUS_ERR p c) &&
    (s.regN (rBW_Pp_CQr_TAIL p c) + 2 ^ 32 - (s.cq p c).head) % 2 ^ 32 +
        s.fld (fBW_Pp_CQr_STATUS_RESERVED_SLOTS p c) < s.fld (fBW_Pp_CQr_SIZE_ENTRIES p c)

/-- The bytes of an opcode that are not reserved: first and number (R334). -/
def descFields (opc kind : Nat) : List (Nat × Nat) :=
  match opc with
  | 0x01 => [(8, 8), (16, 8), (24, 8), (32, 4), (36, 2), (40, 4)]
  | 0x02 => [(8, 1), (9, 1), (12, 4), (16, 4), (24, 8)]
  | 0x03 => [(8, 1), (16, 4), (24, 8)]
  | 0x04 => [(8, 1), (9, 1), (16, 4), (24, 8)]
  | 0x05 => if kind = 0 then [(8, 1), (9, 1), (16, 48)] else [(8, 1), (16, 8)]
  | 0x06 => [(8, 2), (16, 8), (24, 4)]
  | 0x07 => [(8, 1)]
  | 0x09 => [(8, 2)]
  | 0x0A => [(8, 1), (9, 1), (12, 2), (14, 2), (24, 8)]
  | 0x0B => [(16, 4), (24, 8)]
  | 0x0C => [(8, 1), (9, 1), (12, 2), (16, 8)]
  | _ => []

/-- Is a field of a descriptor outside its range or alignment (R334)? -/
def Desc.badField (d : Desc) : Bool :=
  match d.opc with
  | 0x00 => false
  | 0x01 =>
    d.coreMask == 0 || d.le 16 8 % 16 != 0 || d.le 24 8 % 64 != 0 || d.le 32 4 % 64 != 0 ||
      (d.le 24 8 != 0 && d.le 32 4 < 128) || (d.le 36 2 != 0xFFFF && 512 ≤ d.le 36 2)
  | 0x02 =>
    15 < d.pool || 1 < d.unit || d.le 24 8 % 4 != 0 ||
      (if d.unit = 0 then d.le 12 4 % 32 != 0 || d.le 16 4 % 32 != 0 || 4194304 < d.le 12 4 + d.le 16 4
       else 4096 < d.le 12 4 + d.le 16 4)
  | 0x03 => 63 < d.le 8 1 || d.le 24 8 % 4 != 0
  | 0x04 => 15 < d.pool || 15 < d.unit || d.le 16 4 == 0 || 16777215 < d.le 16 4 || d.le 24 8 % 4 != 0
  | 0x05 =>
    if d.le 8 1 = 0 then
      d.le 9 1 == 0 || 6 < d.le 9 1 ||
        (List.range 6).any (fun i =>
          if i < d.le 9 1 then d.le (16 + 8 * i) 4 % 4 != 0 || 2 ^ 26 ≤ d.le (16 + 8 * i) 4
          else d.le (16 + 8 * i) 8 != 0)
    else d.le 8 1 != 1
  | 0x06 => d.le 16 8 % 64 != 0 || d.le 24 4 % 64 != 0 || d.le 24 4 < 128
  | 0x07 => false
  | 0x08 => false
  | 0x09 => false
  | 0x0A =>
    15 < d.pool || 31 < d.unit || d.le 14 2 == 0 || 2048 < d.le 14 2 || 2048 < d.le 12 2 + d.le 14 2 ||
      d.le 24 8 % 4 != 0
  | 0x0B => d.le 24 8 % 4 != 0
  | 0x0C => 15 < d.pool || 31 < d.unit || 1024 < d.le 12 2 || d.le 16 8 % 64 != 0
  | _ => true

/-- Is a flag or byte of a descriptor reserved and not 0? -/
def Desc.badReserved (d : Desc) : Bool :=
  d.flg / 8 != 0 || (d.flagOp && d.opc != 0x09 && d.opc != 0x0C) ||
    (List.range 64).any (fun j => 8 ≤ j && d.le j 1 != 0 &&
      !(descFields d.opc (d.le 8 1)).any (fun f => f.1 ≤ j && j < f.1 + f.2))

/-- Is the opcode accepted in the present mode (R333)? -/
def State.descMode (s : State) (opc : Nat) : Bool :=
  match opc with
  | 0x01 => s.mode ∈ [modeReady, modeRun, modeDiag]
  | 0x03 => s.mode ∈ [modeConfig, modeReady, modeDiag]
  | 0x0B => s.mode ∈ [modeConfig, modeReady, modeDiag]
  | 0x02 => s.mode != modeSafe
  | 0x04 => s.mode != modeSafe
  | 0x0A => s.mode != modeSafe
  | _ => true

/-- The Pools that a descriptor names. -/
def Desc.pools (d : Desc) : List Nat :=
  match d.opc with
  | 0x01 => (List.range 16).filter (coresInPool d.coreMask)
  | 0x02 => [d.pool]
  | 0x03 => [d.le 8 1 / 4]
  | 0x04 => [d.pool]
  | 0x0A => [d.pool]
  | 0x0C => [d.pool]
  | _ => []

/-- Is the descriptor an operation on a shared unit (R323)? -/
def Desc.shared (d : Desc) : Bool := d.opc == 0x0B || (d.opc == 0x05 && d.le 8 1 == 1)

/-- The checks of R335, points 1 to 4, in their order. -/
def State.descRefusal (s : State) (p : Nat) (d : Desc) : Option Nat :=
  if d.badReserved || d.badField then some 0x07
  else if !s.descMode d.opc then some 0x02
  else if d.pools.any (fun n => !s.poolPresent n) || (d.opc = 0x0B && !s.part.sedge) ||
      (d.opc = 0x01 && (match d.shotTone with
        | some t => !s.poolPresent (t / 32)
        | none => false)) then some 0x01
  else if d.pools.any (fun n => s.poolOwner n != p) || (d.shared && s.fld fBW_CFG_SHARED_PART != p) then some 0x04
  else none

/-- DESCRIPTOR_FETCH: the next descriptor of a ring, as read from host memory. -/
def State.descFetch (s : State) (p r : Nat) (bits : BitVec 512) : State :=
  if !s.mayFetch p r then s
  else
    let c := s.fld (fBW_Pp_SQr_CTRL_CQ p r)
    let d : Desc := { bits := bits, no := s.fetches, cq := c, began := s.stamp }
    let s := { s with fetches := s.fetches + 1 }
    let s := s.setRegN (rBW_Pp_SQr_HEAD p r) (s.regN (rBW_Pp_SQr_HEAD p r) + 1)
    let s := s.incWrap (fBW_Pp_COUNT_FETCHED p)
    let s := s.setFld (fBW_Pp_CQr_STATUS_RESERVED_SLOTS p c) (s.fld (fBW_Pp_CQr_STATUS_RESERVED_SLOTS p c) + 1)
    let s := (s.setSq p r { s.sq p r with cur := some d }).writeStatus p
    match s.descRefusal p d with
    | some why =>
      let s := if d.opc = 0x03 && why != 0x07 then s.progRefused (d.le 8 1) why else s
      s.refuse p r why
    | none => s

/-! ### Loads (R85, R124, R334 to R336) -/

/-- The 32-bit words of bytes, little-endian; a rest of fewer than four bytes is left out. -/
def wordsOf : List Byte → List Word
  | a :: b :: c :: d :: rest => BitVec.ofNat 32 (leNat [a, b, c, d]) :: wordsOf rest
  | _ => []

/-- The first enabled stream buffer that a byte range of Peat overlaps. -/
def State.peatConflict (s : State) (n dst len : Nat) : Bool :=
  (List.range 16).any (fun b =>
    (s.sbuf n b).enabled && overlap dst len (4 * (s.sbRegion n b).1) (4 * (s.sbRegion n b).2))

/-- Commits segment entries in ascending order: the entries committed, and the reason of one that fails. -/
def State.loadSegs (s : State) (n i done : Nat) : List (List Word) → State × Nat × Option Nat
  | [] => (s, done, none)
  | ws :: rest =>
    let t := forRange 7 (fun j u => u.setStaged n i j (ws.getD j 0)) s
    let t := t.segCommit n i (ws.take 7)
    if t.flag (fDRV_STATUS_REFUSED n) then (t, done, some (t.fld (fDRV_STATUS_REASON n)))
    else State.loadSegs t n (i + 1) (done + 1) rest

/-- Lists of eight words. -/
def eights : Nat → List Word → List (List Word)
  | 0, _ => []
  | k + 1, ws => ws.take 8 :: eights k (ws.drop 8)

/-- LOAD_PEAT with the bytes that the host read delivers. -/
def State.loadPeat (s : State) (p r : Nat) (data : List Byte) : State :=
  match s.descNow p r 0x02 with
  | none => s
  | some d =>
    let n := d.pool
    let dst := d.le 12 4
    let len := d.le 16 4
    if d.unit = 0 then
      if s.peatConflict n dst len then s.refuse p r 0x06
      else
        let units := min len data.length / 32
        let s := if s.poolPowered n then
            { s with peat := s.peat.writeBytes (2 ^ 22 * n + dst) (data.take (32 * units)) }
          else s
        if data.length < len then s.readFailed p r units 0 else s.finishOk p r units
    else
      let have_ := min len (data.length / 32)
      let (s, done, bad) := s.loadSegs n dst 0 (eights have_ (wordsOf data))
      match bad with
      | some why => s.finish p r 2 why 0 done 0
      | none => if have_ < len then s.readFailed p r done 0 else s.finishOk p r done

/-- LOAD_PROG. -/
def State.loadProg (s : State) (p r : Nat) (data : List Byte) : State :=
  match s.descNow p r 0x03 with
  | none => s
  | some d =>
    let c := d.le 8 1
    let img := data.take (d.le 16 4)
    if img.length < d.le 16 4 then s.readFailed p r 0 0
    else
      match s.progRefusal c img with
      | some why => (s.progRefused c why).refuse p r why
      | none => (s.progLoad c img).finishOk p r 1

/-- LOAD_GRAPH. -/
def State.loadGraph (s : State) (p r : Nat) (data : List Byte) : State :=
  match s.descNow p r 0x0B with
  | none => s
  | some d =>
    let img := data.take (d.le 16 4)
    if img.length < d.le 16 4 then s.readFailed p r 0 0
    else
      match s.graphRefused img with
      | some why => s.refuse p r why
      | none => (s.graphLoad img).finishOk p r 1

/-- Places the samples of an append until the buffer is full (R85): what is left, written and discarded. -/
def State.appendLoop (s : State) (n b written discarded : Nat) : List Word → State × List Word × Nat × Nat
  | [] => (s, [], written, discarded)
  | w :: ws =>
    let wr := s.reg64 (rPEAT_SBb_WRPOS_L n b)
    let rd := s.reg64 (rPEAT_SBb_RDPOS_L n b)
    let (base, size) := s.sbRegion n b
    if wr < rd then
      State.appendLoop ((s.incSat (fPEAT_SBb_COUNT_LATE_DISCARD n b)).setReg64 (rPEAT_SBb_WRPOS_L n b) (wr + 1)) n b
        written (discarded + 1) ws
    else if rd + size ≤ wr then (s, w :: ws, written, discarded)
    else
      let s := { s with peat := s.peat.writeBytes (2 ^ 22 * n + 4 * (base + wr % size)) (leBytes 4 w.toNat) }
      State.appendLoop (s.setReg64 (rPEAT_SBb_WRPOS_L n b) (wr + 1)) n b (written + 1) discarded ws

/-- An append goes on: it ends with its last sample, or waits. -/
def State.appendGo (s : State) (p r n b written discarded : Nat) (short : Bool) (ws : List Word) : State :=
  if !(s.sbuf n b).enabled then s.finish p r 2 0x08 0 written discarded
  else
    match s.appendLoop n b written discarded ws with
    | (s, [], w, x) => if short then s.readFailed p r w x else s.finish p r 0 0 0 w x
    | (s, left, w, x) => s.setPhase p r (.append left w x short)

/-- STREAM_APPEND. -/
def State.streamAppend (s : State) (p r : Nat) (data : List Byte) : State :=
  match s.descNow p r 0x04 with
  | none => s
  | some d => s.appendGo p r d.pool d.unit 0 0 (data.length < 4 * d.le 16 4) (wordsOf (data.take (4 * d.le 16 4)))

/-- STREAM_APPEND_CONTINUE. -/
def State.streamContinue (s : State) (p r : Nat) : State :=
  match (s.sq p r).cur with
  | some d =>
    match d.phase with
    | .append left w x short => s.appendGo p r d.pool d.unit w x short left
    | _ => s
  | none => s

/-- Writes weights from an index on. -/
def State.writeWeights (s : State) (n k : Nat) : Nat → List Word → State
  | _, [] => s
  | i, w :: ws => State.writeWeights (s.setWeight n k i w) n k (i + 1) ws

/-- The weights of a load are written. -/
def State.applyWeights (s : State) (p r : Nat) (d : Desc) (ws : List Word) (short : Bool) : State :=
  let s := s.writeWeights d.pool d.unit (d.le 12 2) ws
  if short then s.readFailed p r ws.length 0 else s.finishOk p r ws.length

/-- LOAD_WEIGHTS: held while the tone is busy. -/
def State.loadWeights (s : State) (p r : Nat) (data : List Byte) : State :=
  match s.descNow p r 0x0A with
  | none => s
  | some d =>
    let ws := (wordsOf data).take (d.le 14 2)
    let short : Bool := ws.length < d.le 14 2
    if !bitOf s.roEver d.pool then s.refuse p r 0x08
    else if (s.tone d.pool d.unit).busy then s.setPhase p r (.weights ws short)
    else s.applyWeights p r d ws short

/-- LOAD_WEIGHTS_APPLY. -/
def State.weightsApply (s : State) (p r : Nat) : State :=
  match (s.sq p r).cur with
  | some d =>
    match d.phase with
    | .weights ws short => if (s.tone d.pool d.unit).busy then s else s.applyWeights p r d ws short
    | _ => s
  | none => s

/-- READ_ACC. -/
def State.readAcc (s : State) (p r : Nat) : State :=
  match s.descNow p r 0x0C with
  | none => s
  | some d =>
    if !bitOf s.roEver d.pool then s.refuse p r 0x08
    else
      let shots := s.regN (rRO_Tk_SHOTS d.pool d.unit)
      let s := s.hostWrite (d.le 16 8) (s.accSnapshot d.pool d.unit (d.le 12 2))
      let s := if d.flagOp then s.accClear d.pool d.unit else s
      s.finish p r 0 0 0 (d.le 12 2) shots

/-! ### Other descriptors -/

/-- RESULT_POST: the post is queued, or refused; its ring goes on at once (R329, R344). -/
def State.resultPost (s : State) (p r : Nat) : State :=
  match s.descNow p r 0x06 with
  | none => s
  | some d =>
    if 16 ≤ (s.partn p).posts.length then s.refuse p r 0xC5
    else
      let q : PostBuf := {
        runTag := d.le 8 2, addr := d.le 16 8, size := d.le 24 4, seq := d.seq, flg := d.flg, cq := d.cq,
        began := d.began }
      let s := s.setPartn p { s.partn p with posts := (s.partn p).posts ++ [q] }
      (s.setSq p r { s.sq p r with cur := none }).settle p

/-- FENCE. -/
def State.descFence (s : State) (p r : Nat) : State :=
  match s.descNow p r 0x07 with
  | none => s
  | some _ => (s.setPhase p r .fence).settle p

/-- TIME_QUERY: TM_NOW, TM_STATUS, TM_OFFSET and TM_EPOCH in the record. -/
def State.timeQuery (s : State) (p r : Nat) : State :=
  match s.descNow p r 0x08 with
  | none => s
  | some _ =>
    (s.endDesc p r {
      steps := s.regN rTM_STATUS, shots := s.regN rTM_OFFSET, launch := s.stamp,
      endT := s.reg64 rTM_EPOCH_L }).settle p

/-- ABORT: the matching RUNs end; the descriptor completes with them. -/
def State.descAbort (s : State) (p r : Nat) : State :=
  match s.descNow p r 0x09 with
  | none => s
  | some d =>
    let hit := s.runs.filter (fun x => x.part == p && (d.flagOp || x.tag == d.le 8 2))
    let s := s.setPhase p r (.abort (hit.map (·.ring)) hit.length)
    (hit.foldl (fun t x => t.runEnd x 0) s).settle p

/-! ### Host resets (R322) -/

/-- MSI-X of a function returns to its state after a reset: masked and disabled. -/
def State.msixReset (s : State) (f : Nat) : State :=
  let mine (ix : Nat) : Bool := icFunction ix == f
  { s with ic := { s.ic with
      msixEnable := bvPut s.ic.msixEnable f false
      funcMask := bvPut s.ic.funcMask f false
      entryMask := (List.range 320).foldl (fun m ix => if mine ix then bvPut m ix true else m) s.ic.entryMask
      pba := (List.range 320).foldl (fun m ix => if mine ix then bvPut m ix false else m) s.ic.pba } }

/-- Boardwalk and the IC return to reset: every partition is disabled; the link's status stays. -/
def State.bwReset (s : State) : State :=
  let s := forRange 4 (fun p t => t.partDisable p) s
  let link := s.reg rBW_PCIE
  let s := (s.resetRegs 0x2300000 0x2400000).setReg rBW_PCIE link
  let s := { s with sqs := [], cqs := [], parts := [] }
  s.icReset

/-- The kinds of HOST_RESET: 0 PERST_N, 1 DL_Down, 2 Function Level Reset of PF0. -/
def State.hostReset (s : State) (kind : Nat) : State :=
  let s := if kind = 0 then { s with sec := { s.sec with perst := true } } else s
  let s := s.bwReset
  let s := if kind < 2 then s.setReg rBW_PCIE 0 else s.setFld fBW_PCIE_NUMVF 0
  let s := forRange 5 (fun f t => t.msixReset f) s
  let s := match s.sec.pcieNext with
    | some v => if kind = 0 then { s with sec := { s.sec with pcieId := v, pcieNext := none } } else s
    | none => s
  (s.bwFault (Config.freeValue s.freeIdx).toNat 0x0A04).draw

/-- VF_FLR. -/
def State.vfFlr (s : State) (k : Nat) : State := (s.partDisable k).msixReset (k + 1)

/-! ### The commands -/

/-- DESC_NOP. -/
def execDescNop (p : Fin 4) (r : Fin 8) (s : State) : Result :=
  done (match s.descNow p.val r.val 0x00 with
    | some _ => s.finishOk p.val r.val 0
    | none => s)

/-- LOAD_PEAT. -/
def execLoadPeat (p : Fin 4) (r : Fin 8) (data : List Byte) (s : State) : Result := done (s.loadPeat p.val r.val data)

/-- LOAD_PROG. -/
def execLoadProg (p : Fin 4) (r : Fin 8) (data : List Byte) (s : State) : Result := done (s.loadProg p.val r.val data)

/-- STREAM_APPEND. -/
def execStreamAppend (p : Fin 4) (r : Fin 8) (data : List Byte) (s : State) : Result :=
  done (s.streamAppend p.val r.val data)

/-- STREAM_APPEND_CONTINUE. -/
def execStreamAppendContinue (p : Fin 4) (r : Fin 8) (s : State) : Result := done (s.streamContinue p.val r.val)

/-- RESULT_POST. -/
def execResultPost (p : Fin 4) (r : Fin 8) (s : State) : Result := done (s.resultPost p.val r.val)

/-- DESC_FENCE. -/
def execDescFence (p : Fin 4) (r : Fin 8) (s : State) : Result := done (s.descFence p.val r.val)

/-- TIME_QUERY. -/
def execTimeQuery (p : Fin 4) (r : Fin 8) (s : State) : Result := done (s.timeQuery p.val r.val)

/-- ABORT. -/
def execAbort (p : Fin 4) (r : Fin 8) (s : State) : Result := done (s.descAbort p.val r.val)

/-- LOAD_WEIGHTS. -/
def execLoadWeights (p : Fin 4) (r : Fin 8) (data : List Byte) (s : State) : Result :=
  done (s.loadWeights p.val r.val data)

/-- LOAD_WEIGHTS_APPLY. -/
def execLoadWeightsApply (p : Fin 4) (r : Fin 8) (s : State) : Result := done (s.weightsApply p.val r.val)

/-- LOAD_GRAPH. -/
def execLoadGraph (p : Fin 4) (r : Fin 8) (data : List Byte) (s : State) : Result :=
  done (s.loadGraph p.val r.val data)

/-- READ_ACC. -/
def execReadAcc (p : Fin 4) (r : Fin 8) (s : State) : Result := done (s.readAcc p.val r.val)

/-- DOORBELL_POLL. -/
def execDoorbellPoll (p : Fin 4) (block : Option (BitVec 512)) (s : State) : Result :=
  done (s.doorbellPoll p.val block)

/-- DESCRIPTOR_FETCH. -/
def execDescriptorFetch (p : Fin 4) (r : Fin 8) (d : BitVec 512) (s : State) : Result :=
  done (s.descFetch p.val r.val d)

/-- RESULT_WRITE. -/
def execResultWrite (n : Fin 16) (ok : Bool) (s : State) : Result := done (s.resultWrite n.val ok)

/-- RUN_TIMEOUT. -/
def execRunTimeout (p : Fin 4) (r : Fin 8) (s : State) : Result := done (s.runTimeout p.val r.val)

/-- KICK: ENABLE is written as it stands. -/
def execKick (a : Path) (p : Fin 4) (s : State) : Result := done (s.viaBus a (rBW_Pp_CTRL p.val) (·.kick p.val))

/-- PARTITION_ENABLE. -/
def execPartitionEnable (a : Path) (p : Fin 4) (s : State) : Result :=
  done (s.viaBus a (rBW_Pp_CTRL p.val) (·.partEnable p.val))

/-- PARTITION_DISABLE. -/
def execPartitionDisable (a : Path) (p : Fin 4) (s : State) : Result :=
  done (s.viaBus a (rBW_Pp_CTRL p.val) (·.partDisable p.val))

/-- RING_ENABLE: of a submission ring, or of a completion ring; `v` gives CQ. -/
def execRingEnable (a : Path) (p : Fin 4) (r : Fin 8) (completion : Bool) (v : Word) (s : State) : Result :=
  done (if completion then s.viaBus a (rBW_Pp_CQr_CTRL p.val r.val) (fun s => s.cqCtrlWrite p.val r.val (v ||| 1))
    else s.viaBus a (rBW_Pp_SQr_CTRL p.val r.val) (fun s => s.sqCtrlWrite p.val r.val (v ||| 1)))

/-- RING_DISABLE. -/
def execRingDisable (a : Path) (p : Fin 4) (r : Fin 8) (completion : Bool) (v : Word) (s : State) : Result :=
  done (if completion then s.viaBus a (rBW_Pp_CQr_CTRL p.val r.val) (fun s => s.cqCtrlWrite p.val r.val (v &&& ~~~1#32))
    else s.viaBus a (rBW_Pp_SQr_CTRL p.val r.val) (fun s => s.sqCtrlWrite p.val r.val (v &&& ~~~1#32)))

/-- HOST_RESET: 0 PERST_N, 1 DL_Down, 2 Function Level Reset of PF0. -/
def execHostReset (kind : Fin 3) (s : State) : Result := done (s.hostReset kind.val)

/-- VF_FLR. -/
def execVfFlr (k : Fin 4) (s : State) : Result := done (s.vfFlr k.val)

end Sys2Proof.Machine
end

