-- ==== Sys2Proof/Machine/Flux.lean ====
section
/-!
DEFINITION. The fast flux unit of a Pool (chapter "Fast flux channels", R98 to R115); the engine and the predistortion chain
stand in the file of the engines.
-/
namespace Sys2Proof.Machine

/-- The first IIR stage of a Pool that is enabled and breaks R108, as 4f + s. -/
def State.flxUnstable (s : State) (n : Nat) : Option Nat :=
  (List.range 32).find? (fun i =>
    s.flag (fFLX_Cf_IIRs_CTRL_EN n (i / 4) (i % 4)) &&
      1073740800 < (s.fldS (fFLX_Cf_IIRs_P_P n (i / 4) (i % 4))).natAbs)

/-- The enable check (R114). -/
def State.flxCheck (s : State) (n : Nat) : List Failure :=
  s.poolUnitCheck n ++
  failIf ((List.range 8).any (fun f => 16 < s.fld (fFLX_Cf_ALLOC_ALLOC n f) || s.flag (fFLX_Cf_DELAY_MBZ n f))) 0x07 ++
  failIf (384 < s.allocSum n) 0x20 ++
  match s.flxUnstable n with
  | some i => [(0x30, i)]
  | none => []

/-- Is a target of R207 a flux channel? -/
def tgtFlux (tgt : Nat) : Bool := 0x40 ≤ tgt && tgt < 0x48

/-- Clears the filters of a Pool's flux channels. -/
def State.flxClearAll (s : State) (n : Nat) : State := forRange 8 (fun f t => t.fluxClear n f) s

/-- ENABLE cleared, where it is not ignored (R114). -/
def State.flxDisable (s : State) (n : Nat) : State :=
  let s := forRange 8 (fun f t => t.fluxAdvance n f t.now) s
  ((((s.endChains n 64 72).flxClearAll n).disarm n tgtFlux).setFlag (fFLX_CTRL_ENABLE n) false).setFlag
    (fFLX_STATUS_ENABLED n) false

/-- ENABLE set: the check runs while the unit is disabled. -/
def State.flxEnable (s : State) (n : Nat) : State :=
  let s := s.setFlag (fFLX_CTRL_ENABLE n) true
  if s.flag (fFLX_STATUS_ENABLED n) then s
  else s.unitOutcome (uFLX n) (fFLX_STATUS_ENABLED n) (fFLX_STATUS_REFUSED n) (fFLX_STATUS_REASON n)
    (some (fFLX_STATUS_STAGE_ID n)) (s.flxCheck n)

/-- CLR_COUNT: every channel SAT and COUNT register, brought up to date before they are cleared. -/
def State.flxClrCount (s : State) (n : Nat) : State :=
  forRange 8 (fun f t => ((t.fluxAdvance n f t.now).setReg (rFLX_Cf_SAT n f) 0).setReg (rFLX_Cf_COUNT n f) 0) s

/-- A write of POOLn_FLX_CTRL. -/
def State.flxCtrlWrite (s : State) (n : Nat) (v : Word) : State :=
  let s := if v.getLsbD 1 then s.flxClrCount n else s
  if v.getLsbD 0 then s.flxEnable n
  else if s.poolHeld n then s
  else s.flxDisable n

/-- A register write to AMP takes effect at the first grid tick after it (R114). -/
def State.flxAmpWrite (s : State) (n f : Nat) (v : Word) : State :=
  (s.fluxAdvance n f (gridUp 4 s.now)).setFld (fFLX_Cf_AMP_AMP n f) (fieldOf v 17 0)

/-- FLX_ENABLE. -/
def execFlxEnable (p : Path) (n : Fin 16) (s : State) : Result :=
  done (s.viaBus p (rFLX_CTRL n.val) (·.flxCtrlWrite n.val 1))

/-- FLX_DISABLE. -/
def execFlxDisable (p : Path) (n : Fin 16) (s : State) : Result :=
  done (s.viaBus p (rFLX_CTRL n.val) (·.flxCtrlWrite n.val 0))

/-- FLX_CLR_COUNT: CLR_COUNT with ENABLE written as it stands. -/
def execFlxClrCount (p : Path) (n : Fin 16) (s : State) : Result :=
  done (s.viaBus p (rFLX_CTRL n.val) (·.flxClrCount n.val))

end Sys2Proof.Machine
end

