-- ==== Sys2Proof/Machine/Pm.lean ====
section
/-!
DEFINITION. The power manager: modes, power domains, sleep and wake, resets, SAFE and its causes, general timers, GPIO,
interlocks and thermal supervision (chapters "Modes, power domains, resets and clock crossings" and "Enable checks, faults and
recovery", R409 to R447, R459).
-/
namespace Sys2Proof.Machine

/-! ### What a unit loses with its power, and what its reset clears -/

/-- What a reset and a power-up of Pool n have in common (R95, R113, R142, R163, R202): every register of the Pool but the segment
table, and every engine, window and core. -/
def State.poolClear (s : State) (n : Nat) : State :=
  let mine (w : Nat) (k : Nat) : Bool := k / w == n
  let s := s.coresReset n
  let s := s.resetRegs (rDRV_CTRL n) (rSEG_e n 0)
  let s := s.resetRegs (rSEG_e n 4096) (rDRV_CTRL (n + 1))
  { s with
    chains := SMap.drop (mine 72) s.chains
    sbufs := SMap.drop (mine 16) s.sbufs
    markers := SMap.drop (mine 4) s.markers
    filters := SMap.drop (mine 8) s.filters
    armed := SMap.drop (mine 128) s.armed
    tones := SMap.drop (mine 32) s.tones
    lines := SMap.drop (mine 2) s.lines
    fifos := SMap.drop (mine 1) s.fifos
    segStage := SMap.drop (fun k => rDRV_CTRL n ≤ k && k < rDRV_CTRL (n + 1)) s.segStage }

/-- A Pool reset: memories, segment table, weights and calibration are kept (R413), and the local slots start again (R161). -/
def State.poolReset (s : State) (n : Nat) : State := (s.poolClear n).slotsReset n

/-- Pool n loses its power: its memories lose their contents as well, and its slots read VALID = 0 (R22). -/
def State.poolLost (s : State) (n : Nat) : State :=
  let s := (s.poolClear n).resetRegs (rSEG_e n 0) (rSEG_e n 4096)
  let s := { s with
    peat := SMap.drop (fun k => k / 2 ^ 22 == n) s.peat
    dmem := SMap.drop (fun k => k / (4 * 65536) == n) s.dmem
    imem := SMap.drop (fun k => k / (4 * 131072) == n) s.imem
    weights := SMap.drop (fun k => k / (32 * 2048) == n) s.weights
    roEver := putBit s.roEver n false }
  let s := s.setFld fPM_CAL_STATUS_POOL_CAL (putBit (s.fld fPM_CAL_STATUS_POOL_CAL) n false)
  (s.slotsInvalidate n).icLevel (264 + 16 * n) true

/-- The control store of unit u loses its contents with its unit's power (R407). -/
def State.csLost (s : State) (u : Nat) : State :=
  let s := s.setFlag (fSEC_CSu_STATUS_LOADED u) false
  let s := s.setFlag (fSEC_CSu_STATUS_HALTED u) false
  let s := s.setFlag (fSEC_CSu_STATUS_RELOADING u) false
  let s := s.setReg (rSEC_CSu_VERSION u) 0
  { s with sec := { s.sec with stores := SMap.drop (· == u) s.sec.stores } }

/-- Is an offset one of the registers that show OTP (R402)? -/
def otpReg (off : Nat) : Bool := rSEC_OTP_ARBk 0 ≤ off && off < rSEC_OTP_STATUS

/-- PD1 goes off: the retained store, the SEC patch and SEC's registers but for OTP are lost (R407). -/
def State.secLost (s : State) : State :=
  { s with
    regs := SMap.drop (fun k => k / 0x100000 == 0x28 && !otpReg k) s.regs
    sec := { hashes := s.sec.hashes, pmPatch := s.sec.pmPatch, perst := s.sec.perst } }

/-- GLB and the Decision Network lose their state with PD2, or are reset. -/
def State.fabricReset (s : State) : State :=
  let s := (s.resetRegs 0 0x1000000).resetRegs 0x2108000 0x2200000
  { s with latches := [], ppsStage := [], pages := [], snaps := [], spi := {} }

/-- Boardwalk and the IC lose their state with PD3, or are reset by the power manager: the RUNs end with no record. -/
def State.hostUnitsReset (s : State) : State :=
  ({ s with runs := [], sqs := [], cqs := [], parts := [], ic := {} }).resetRegs 0x2300000 0x2500000

/-- The ports 4h to 4h + 3 lose their power. -/
def State.portsLost (s : State) (h : Nat) : State :=
  forRange 4 (fun j t =>
    let p := 4 * h + j
    let t := (t.cwLost p).resetRegs (rCW_Pp_CTRL p) (rCW_Pp_CTRL (p + 1))
    ({ t with cw := SMap.drop (· == p) t.cw }).icLevel (32 + p) false |>.csLost (1 + p)) s

/-- What is lost when power domain d goes off. -/
def State.pdLost (s : State) (d : Nat) : State :=
  if d = 1 then s.secLost
  else if d = 2 then s.fabricReset
  else if d = 3 then ({ s with sec := { s.sec with linkOn := false } }).hostUnitsReset.csLost 0
  else if d = 4 then s.cwPowerOff
  else if d = 5 then s.portsLost 0
  else if d = 6 then s.portsLost 1
  else if d = 7 then s.tmReset
  else if d = 8 then s.sdgPowerOff.csLost 9
  else if d = 9 then s.dpwReset.csLost 10
  else if 10 ≤ d && d < 14 then s.sluGroupReset (d - 10)
  else if 14 ≤ d then s.poolLost (d - 14)
  else s

/-- The clock domains that stop with power domain d (R424). -/
def pdClocks (d : Nat) : List Nat :=
  if d = 1 then [8] else if d = 2 then [3] else if d = 3 then [4] else if d = 4 then [5, 6]
  else if d = 7 then [2] else if d = 8 then [7] else if 14 ≤ d then [d - 5] else []

def State.setPd (s : State) (d : Nat) (b : Bool) : State := s.setFld fPM_PD_STATUS_ON (putBit (s.fld fPM_PD_STATUS_ON) d b)
def State.setLock (s : State) (d : Nat) (b : Bool) : State :=
  s.setFld fPM_CLK_STATUS_LOCKED (putBit (s.fld fPM_CLK_STATUS_LOCKED) d b)

/-- Power domain d is switched off. -/
def State.pdOff (s : State) (d : Nat) : State :=
  if s.pdOn d then (((pdClocks d).foldl (fun t c => t.setLock c false) s).setPd d false).pdLost d else s

/-- The LEVEL sources of the units in PD0 show their conditions when the IC comes up. -/
def State.icWake (s : State) : State := s.icLevel 2 (s.flag fPM_THERM_STATUS_THERMAL_WARN)

/-- Power domain d reports power-good: its units are at reset. -/
def State.pdUp (s : State) (d : Nat) : State :=
  let s := (s.setPd d true).setFld fPM_PD_FAILED_FAILED (putBit (s.fld fPM_PD_FAILED_FAILED) d false)
  if d = 3 then s.icWake
  else if 10 ≤ d && d < 14 then s.sluGroupReset (d - 10)
  else if 14 ≤ d then (s.slotsReset (d - 14)).icLevel (264 + 16 * (d - 14)) (!s.locked (d - 5))
  else s

/-! ### Entering a mode -/

/-- Every timed output of a Pool ends: windows truncated, chains ended, markers low, filter states cleared (R94, R111, R112,
R141). -/
def State.poolQuiet (s : State) (n : Nat) : State :=
  let s := forRange 8 (fun f t => t.fluxAdvance n f t.now) s
  (((s.truncatePool n).endChains n 0 72).clearMarkers n).flxClearAll n

/-- Does it for every powered Pool. -/
def State.forPools (s : State) (f : Nat → State → State) : State :=
  forRange 16 (fun n t => if t.poolPowered n then f n t else t) s

/-- The modes in which timed outputs act as programmed. -/
def modePlays (m : Nat) : Bool := m ∈ [modeRun, modeDrain, modeDiag]

/-- The mode changes, and every unit does what its chapter states for the new mode (R94, R111, R112, R141, R257, R411). -/
def State.enterMode (s : State) (m : Nat) : State :=
  let was := s.mode
  let s := s.when (modePlays was && !modePlays m) (·.forPools (fun n t => t.poolQuiet n))
  let s := s.setMode m
  let s := s.when (!modePlays was && modePlays m) (·.forPools (fun n t => t.flxClearAll n))
  let s := s.when (m ∈ [modeConfig, modeCalibrate, modeSafe]) (·.sdgSafe)
  let s := s.when (m ∉ [modeReady, modeRun, modeDiag]) (·.refuseWaiting)
  s.tmModeEntered.rdyUpdate

/-- SAFE is entered; `code` is the fault of a RUN that it ends (R338, R439, R441). -/
def State.safeEnter (s : State) (code : Nat) : State :=
  let s := s.runsSafe code
  let s := s.forPools (fun n t =>
    (forRange 4 (fun i u => u.coreStop (4 * n + i)) t).disarm n (fun _ => true))
  let s := s.incSat fPM_SAFE_COUNT_ENTRIES
  (s.enterMode modeSafe).sluHold

/-- Is any bit of PM_SAFE_CAUSE set? -/
def State.anyCause (s : State) : Bool := fieldOf (s.reg rPM_SAFE_CAUSE) 5 0 != 0

/-- A SAFE cause acts, if the mode and a transition in progress let it (R412, R439, R443). -/
def State.causeActs (s : State) (code : Nat) : State :=
  if s.flag fPM_STATUS_TRANSITION then s
  else if s.mode ∈ [modeConfig, modeCalibrate, modeReady, modeRun, modeDrain, modeDiag] then s.safeEnter code
  else s.when s.biasHeld (·.sluHold)

/-- A cause sets its bits and acts; its fault has been raised. -/
def State.safeCause (s : State) (fs : List Fld) (code : Nat) : State :=
  let s := s.when (!s.anyCause) (·.setFld fPM_SAFE_CAUSE_FIRST code)
  (fs.foldl (fun t f => t.setFlag f true) s).causeActs code

/-! ### Power domains (R409, R415) -/

/-- The order in which domains come on. -/
def pdOrder : List Nat := [1, 2, 3, 9, 10, 11, 12, 13, 7, 4, 5, 6, 8] ++ (List.range 16).map (14 + ·)

/-- The domains that are on in a mode, PD0 apart. -/
def modeDomains (m : Nat) : List Nat :=
  if m ≤ modeDeepSleep then []
  else if m = modeBiasHold then [1, 9, 10, 11, 12, 13]
  else if m = modeBoot then [1, 2, 3, 9, 10, 11, 12, 13]
  else if m = modeLoad then [1, 2, 3, 9, 10, 11, 12, 13, 7, 4, 5, 6, 8]
  else pdOrder

/-- May a domain be held off by PM_PD_KEEP_OFF (R416)? -/
def pdSwitchable (d : Nat) : Bool := d == 5 || d == 6 || d == 8 || 14 ≤ d

def State.heldOff (s : State) (d : Nat) : Bool := pdSwitchable d && bitOf (s.fld fPM_PD_KEEP_OFF_KEEP_OFF) d
def State.pdFailed (s : State) (d : Nat) : Bool := bitOf (s.fld fPM_PD_FAILED_FAILED) d

/-- The domains to switch on for a mode, in order. -/
def State.pdWanted (s : State) (m : Nat) : List Nat :=
  pdOrder.filter (fun d => d ∈ modeDomains m && s.pdPresent d && !s.pdOn d && !s.heldOff d && (s.pm.retry || !s.pdFailed d))

/-- BOOT begins at the first source of R390. -/
def State.bootStart (s : State) : State :=
  if s.fld fSEC_LIFECYCLE_BOOT_SRC = 2 then
    ({ s with sec := { s.sec with linkOn := true } }).setFld fSEC_STATUS_STAGE 3
  else s.setFld fSEC_STATUS_STAGE 1

/-- The domains of the mode that a transition leads to are on. -/
def State.pmArrive (s : State) (m : Nat) : State :=
  let s := { s with pm := { s.pm with target := none, todo := [], retry := s.pm.retry && m != modeConfig } }
  let s := (s.setFlag fPM_STATUS_TRANSITION false).enterMode m
  if m = modeBoot then s.bootStart
  else if m = modeLoad then ({ s with sec := { s.sec with linkOn := true } }).setFld fSEC_STATUS_STAGE 5
  else if m = modeConfig && s.anyCause then s.safeEnter (s.fld fPM_SAFE_CAUSE_FIRST)
  else s

/-- The transition goes on: it ends when no domain is left to switch on. -/
def State.pmNext (s : State) : State :=
  match s.pm.todo, s.pm.target with
  | [], some m => s.pmArrive m
  | _, _ => s

/-- A transition that switches domains on begins. -/
def State.pmGo (s : State) (m : Nat) : State :=
  let s := s.setFlag fPM_STATUS_TRANSITION true
  ({ s with pm := { s.pm with target := some m, todo := s.pdWanted m } }).pmNext

def State.popTodo (s : State) : State := { s with pm := { s.pm with todo := s.pm.todo.drop 1 } }

/-- POWER_GOOD of the domain being switched. -/
def State.powerGood (s : State) (d : Nat) : State :=
  if s.pm.todo.head? = some d then (s.popTodo.pdUp d).pmNext else s

/-- POWER_GOOD_TIMEOUT of the domain being switched. -/
def State.powerBad (s : State) (d : Nat) : State :=
  if s.pm.todo.head? = some d then
    let s := (s.popTodo.raise 0x0F04).setFld fPM_PD_FAILED_FAILED (putBit (s.fld fPM_PD_FAILED_FAILED) d true)
    let s := s.when (pdSwitchable d) (fun t => t.setFld fPM_PD_KEEP_OFF_KEEP_OFF (putBit (t.fld fPM_PD_KEEP_OFF_KEEP_OFF) d true))
    s.pmNext
  else s

/-- A request is refused, or accepted, in PM_STATUS. -/
def State.pmRefuse (s : State) (r : Nat) : State :=
  ((s.setFlag fPM_STATUS_REFUSED true).setFld fPM_STATUS_REASON r).showRefusal uPM r 0
def State.pmAccept (s : State) : State := (s.setFlag fPM_STATUS_REFUSED false).setFld fPM_STATUS_REASON 0

/-- The units of a switchable domain are disabled as by clearing their ENABLE. -/
def State.pdDisableUnits (s : State) (d : Nat) : State :=
  if d = 5 then forRange 4 (fun p t => t.portDisable p) s
  else if d = 6 then forRange 4 (fun p t => t.portDisable (4 + p)) s
  else if d = 8 then s.sdgDisable
  else ((s.drvDisable (d - 14)).flxDisable (d - 14)).roDisable (d - 14)

/-- A write of PM_PD_KEEP_OFF. -/
def State.keepOffWrite (s : State) (v : Word) : State :=
  let ds := (List.range 30).filter (fun d => pdSwitchable d && s.pdPresent d)
  let up := ds.filter (fun d => v.getLsbD d && !s.heldOff d)
  let down := ds.filter (fun d => !v.getLsbD d && s.heldOff d)
  if (up != [] && s.mode != modeConfig && s.mode != modeReady) || (down != [] && s.mode != modeConfig) then s.pmRefuse 0xFD
  else
    let put (d : Nat) (b : Bool) (t : State) : State :=
      t.setFld fPM_PD_KEEP_OFF_KEEP_OFF (putBit (t.fld fPM_PD_KEEP_OFF_KEEP_OFF) d b)
    let s := up.foldl (fun t d => put d true ((t.pdDisableUnits d).pdOff d)) s.pmAccept
    let s := down.foldl (fun t d => put d false t) s
    let todo := s.pm.todo.filter (fun d => !up.contains d)
    let more := pdOrder.filter (fun d => down.contains d && !s.pdOn d && !todo.contains d)
    { s with pm := { s.pm with todo := todo ++ more } }

/-! ### Mode requests (R410, R411) -/

/-- Is a RUN active? -/
def State.runActive (s : State) : Bool := s.runs.any (·.active)

/-- The requests that R410 lists. -/
def requestListed (was m : Nat) : Bool :=
  if m = modeCalibrate then was ∈ [modeConfig, modeReady]
  else if m = modeConfig then was ∈ [modeReady, modeSafe, modeDiag]
  else if m = modeReady then was ∈ [modeConfig, modeSafe, modeDiag]
  else if m = modeDrain then was = modeRun
  else if m = modeDiag then was ∈ [modeConfig, modeReady]
  else if m = modeSafe then was ∈ [modeConfig, modeCalibrate, modeReady, modeRun, modeDrain, modeDiag]
  else if m = modeBiasHold || m = modeDeepSleep then was ∈ [modeConfig, modeReady]
  else false

/-- Why a request is refused, in the order of R410. -/
def State.requestRefusal (s : State) (m : Nat) : Option Nat :=
  if s.flag fPM_STATUS_TRANSITION then some 0xFE
  else if s.runActive && m != modeDrain && m != modeSafe then some 0xFC
  else if !requestListed s.mode m then some 0xF8
  else if m = modeCalibrate && !s.flag fTM_STATUS_REF_LOCK then some 0x03
  else if m = modeReady && (List.range 16).any (fun n => s.poolPowered n && !s.poolCalibrated n) then some 0xF9
  else if (m = modeBiasHold || m = modeDeepSleep) && fieldOf (s.reg rPM_WAKE_EN) 2 0 = 0 then some 0xFA
  else if s.mode = modeSafe && s.anyCause then some 0xFB
  else none

/-! ### Sleep and wake (R417 to R420) -/

/-- The bit of a wake source in PM_WAKE_EN and PM_WAKE_CAUSE: 0 WAKE_N, 1 PERST_N, 2 FEN. -/
def State.wakeEnabled (s : State) (src : Nat) : Bool := bitOf (s.regN rPM_WAKE_EN) src
def State.wakeRecord (s : State) (src : Nat) : State := s.setRegBit rPM_WAKE_CAUSE src true

/-- The domains that a sleep mode switches off, in order, those that hold Sluice, Dipwell, the host and SEC apart. -/
def State.sleepOff (s : State) (ds : List Nat) : State := (pdOrder.reverse.filter ds.contains).foldl (fun t d => t.pdOff d) s

/-- Every Sluice channel is zeroed and opened (R371). -/
def State.sluOpenAll (s : State) : State := forRange 256 (fun c t => t.chToOpen c) s

/-- Entry into a sleep mode, as far as it needs no waiting: steps 1 to 3 of R417. -/
def State.sleepBegin (s : State) (m : Nat) : State :=
  let s := s.setFlag fPM_STATUS_TRANSITION true
  let s := { s with pm := { s.pm with target := some m, entering := true, todo := [] } }
  let s := (forRange 4 (fun p t => t.partDisable p) s).sdgSafe.cwDisableAll
  let s := s.sleepOff ([4, 5, 6, 7, 8] ++ (List.range 16).map (14 + ·))
  s.when (m = modeDeepSleep) (·.sluOpenAll)

/-- Exit from sleep begins. -/
def State.wakeExit (s : State) : State :=
  let low := (List.range 8).foldl (fun a k => if s.fld (fPM_GPIOk_FUNC k) = 2 then a + 2 ^ k else a) 0
  let s := { s with pm := { s.pm with woken := false, retry := true, hostWake := low } }
  s.pmGo (if s.mode = modeDeepSleep then modeBoot else modeLoad)

/-- The rest of the entry, once every Sluice channel is open where it must be (R417, steps 4 to 7). -/
def State.sleepEnd (s : State) (m : Nat) : State :=
  let s := s.sleepOff (pdOrder.filter (fun d => !(modeDomains m).contains d))
  let s := { s with pm := { s.pm with target := none, entering := false } }
  let s := (s.setFlag fPM_STATUS_TRANSITION false).enterMode m
  let s := s.when s.biasHeld (·.sluHold)
  if s.pm.woken then (s.setFlag fPM_STATUS_WAKE_DURING_ENTRY true).wakeExit else s

/-- A wake event of an enabled source reaches PM. -/
def State.wakeEvent (s : State) (src : Nat) : State :=
  if !s.wakeEnabled src then s
  else if s.pm.entering then ({ s with pm := { s.pm with woken := true } }).wakeRecord src
  else if (s.mode = modeDeepSleep || s.mode = modeBiasHold) && !s.flag fPM_STATUS_TRANSITION then (s.wakeRecord src).wakeExit
  else s

/-- A granted sleep request meets a wake event of the same CD0 cycle: which wins is open (R419). -/
def State.sleepRequest (s : State) (m : Nat) : State :=
  match s.pm.tie with
  | none => s.sleepBegin m
  | some src =>
    let wins := (Config.freeValue s.freeIdx).getLsbD 0
    let s := (({ s with pm := { s.pm with tie := none } }).draw).wakeRecord src
    if wins then s.setFlag fPM_STATUS_SLEEP_ABORTED true
    else ({ s with pm := { s.pm with woken := true } }).sleepBegin m

/-- A write of PM_CTRL with REQ = 1. -/
def State.modeRequest (s : State) (m : Nat) : State :=
  match s.requestRefusal m with
  | some r => ({ s with pm := { s.pm with tie := none } }).pmRefuse r
  | none =>
    let s := s.pmAccept
    if m = modeBiasHold || m = modeDeepSleep then s.sleepRequest m
    else
      let s := { s with pm := { s.pm with tie := none } }
      if m = modeSafe then (s.raise 0x0F05).safeCause [fPM_SAFE_CAUSE_REQUEST] 0x0F05
      else s.enterMode m

/-! ### Resets (R421, R459) -/

/-- Everything at its value after power-on but what is outside the device, its OTP, and the model's own records. -/
def State.fresh (s : State) : State := {
  pending := s.pending
  part := s.part
  regs := s.regs.filter (fun e => otpReg e.1)
  out := s.out
  faultLog := s.faultLog
  freeIdx := s.freeIdx
  sec := { hashes := s.sec.hashes, perst := s.sec.perst }
  pm := { ilkLow := s.pm.ilkLow }
  jtag := s.jtag }

/-- The clocks that run when the device leaves OFF (R424): CD0, CD3, CD4 and CD8. -/
def State.clocksUp (s : State) : State := s.setFld fPM_CLK_STATUS_LOCKED 0x119

/-- POWER_ON_RESET: the reset is released, with the straps at the ADDR_STRAP balls. -/
def State.powerOn (s : State) (strap : Nat) : State :=
  ((s.fresh.setFld fCW_NODE_STRAP strap).clocksUp).bootStart

/-- BROWN_OUT: the device is held in power-on reset, with every domain off. -/
def State.brownOut (s : State) : State :=
  ((s.fresh.setFld fPM_PD_STATUS_ON 0).setFld fPM_CLK_STATUS_LOCKED 0).setFld fPM_STATUS_MODE 0

/-- A cold reset has zeroed and opened Sluice: every domain goes off and BOOT follows; `cause` is the bit of PM_RESET_CAUSE. -/
def State.coldEnd (s : State) (cause : Nat) : State :=
  let seen := s.flag fPM_THERM_STATUS_SHUTDOWN_SEEN
  let tmax := s.fld fPM_THERM_STATUS_TMAX
  let strap := s.fld fCW_NODE_STRAP
  let lock := s.flag fTM_STATUS_REF_LOCK
  let s := s.fresh.setReg rPM_RESET_CAUSE (BitVec.twoPow 32 cause)
  let s := ((s.setFlag fPM_THERM_STATUS_SHUTDOWN_SEEN seen).setFld fPM_THERM_STATUS_TMAX tmax).setFld fCW_NODE_STRAP strap
  let s := s.setFlag fTM_STATUS_REF_LOCK lock
  if cause = 3 then
    let s := ((s.setFld fPM_PD_STATUS_ON 1).setFld fPM_CLK_STATUS_LOCKED 1).setFld fPM_STATUS_MODE 0
    { s with pm := { s.pm with cooling := true } }
  else s.clocksUp.bootStart

/-- A cold reset begins: Sluice is zeroed and opened first. -/
def State.coldBegin (s : State) (cause : Nat) : State :=
  let s := s.setFlag fPM_STATUS_TRANSITION true
  ({ s with pm := { s.pm with cold := some cause, target := none, todo := [], entering := false } }).sluOpenAll

/-- What the warm reset resets: every unit in PD2–PD8 and PD14–PD29, without a loss of power. -/
def State.warmUnits (s : State) : State :=
  let s := forRange 16 (fun n t => if t.poolPresent n then t.poolReset n else t) s.hostUnitsReset
  let s := s.sdgReset.tmReset.cwPowerOff.fabricReset
  let s := forRange 10 (fun u t => t.csLost u) s
  ((s.setFld fPM_CAL_STATUS_POOL_CAL 0).setFlag fPM_CAL_STATUS_DONE false).icWake

/-- A warm reset: LOAD and then CONFIG; in BOOT, BOOT starts again. -/
def State.warmReset (s : State) : State :=
  let link := s.reg rBW_PCIE
  let s := s.warmUnits.setReg rBW_PCIE link
  let s := s.setReg rPM_RESET_CAUSE (BitVec.twoPow 32 2)
  let s := { s with pm := { s.pm with target := none, todo := [], entering := false, woken := false } }
  if s.mode = modeBoot then s.bootStart else s.pmGo modeLoad

/-- A write of PM_RESET. -/
def State.pmResetWrite (s : State) (p : Path) (v : Word) : State :=
  if fieldOf v 31 16 != 0xA55A || !Path.secure p then s
  else if v.getLsbD 0 then s.coldBegin 1
  else if v.getLsbD 1 then s.warmReset
  else s

/-- May units be reset in the present mode? -/
def State.unitResetMode (s : State) : Bool := s.mode ∈ [modeConfig, modeReady, modeSafe, modeDiag]

/-- The reset of Pool n by PM_UNIT_RESET. -/
def State.poolUnitReset (s : State) (n : Nat) : State :=
  if !s.poolPowered n then s
  else if s.poolInRun n then s.pmRefuse 0xFC
  else s.poolReset n

/-- A write of PM_UNIT_RESET. -/
def State.unitResetWrite (s : State) (v : Word) : State :=
  if fieldOf v 17 0 = 0 then s
  else if !s.unitResetMode then s.pmRefuse 0x02
  else
    let s := forRange 16 (fun n t => if v.getLsbD n then t.poolUnitReset n else t) s.pmAccept
    let s := s.when (v.getLsbD 16 && s.sedgePowered) (·.sdgReset)
    s.when (v.getLsbD 17 && s.pdOn 4) (·.cwReset)

/-- What happens by itself when no command waits: a tick of fabric time, and a sleep entry or a cold reset goes on. -/
def State.idle (s : State) : State :=
  let s := s.tick
  match s.pm.cold with
  | some cause => if s.allOpen then s.coldEnd cause else s
  | none =>
    match s.pm.entering, s.pm.target with
    | true, some m => if m != modeDeepSleep || s.allOpen then s.sleepEnd m else s
    | _, _ => s

/-! ### General timers and GPIO (R422, R423) -/

def State.gtOn (s : State) (g : Nat) : Bool := bitOf s.pm.gtOn g
def State.setGtOn (s : State) (g : Nat) (b : Bool) : State := { s with pm := { s.pm with gtOn := putBit s.pm.gtOn g b } }

/-- A write of PM_GTg_CTRL. -/
def State.gtCtrlWrite (s : State) (g : Nat) (v : Word) : State :=
  let s := if s.gtOn g then s
    else (s.setFlag (fPM_GTg_CTRL_PERIODIC g) (v.getLsbD 1)).setFlag (fPM_GTg_CTRL_BASE g) (v.getLsbD 2)
  let s := s.setFlag (fPM_GTg_CTRL_EN g) (v.getLsbD 0)
  if !v.getLsbD 0 then s.setGtOn g false
  else if s.gtOn g then s
  else if s.regN (rPM_GTg_PERIOD g) = 0 then
    ((s.setFlag (fPM_GTg_CTRL_REFUSED g) true).setFld (fPM_GTg_CTRL_REASON g) 0x07).reportRefused uPM 0x07 0
  else
    (((s.setFlag (fPM_GTg_CTRL_REFUSED g) false).setFld (fPM_GTg_CTRL_REASON g) 0).reportAccepted uPM).setGtOn g true

/-- A write of PM_GTg_PERIOD: locked while the timer runs. -/
def State.gtPeriodWrite (s : State) (g : Nat) (v : Word) : State := if s.gtOn g then s else s.setReg (rPM_GTg_PERIOD g) v

/-- GTIMER_EXPIRY: the source, the strobes and the scans that claim the timer, in one instant. -/
def State.gtExpiry (s : State) (g : Nat) : State :=
  if !s.gtOn g || (!s.flag (fPM_GTg_CTRL_BASE g) && !s.locked 8) then s
  else
    let s := s.when (!s.flag (fPM_GTg_CTRL_PERIODIC g)) (fun t => (t.setGtOn g false).setFlag (fPM_GTg_CTRL_EN g) false)
    let s := s.fire (0x360 + g)
    let s := forRange 16 (fun x t =>
      if t.flag fSLU_STATUS_ENABLED && t.flag (fSLU_Gg_CFG_SRC_TIMER x) && t.fld (fSLU_Gg_CFG_TIMER x) == g then t.strobe x
      else t) s
    forRange 2 (fun k t => if t.dpwClaims k g then t.scanTrigger k else t) s

/-- A write of PM_GPIOk: 3 is reserved and ignored. -/
def State.gpioWrite (s : State) (k : Nat) (v : Word) : State :=
  let f := fieldOf v 1 0
  if f = 3 then s
  else
    let s := (s.setFld (fPM_GPIOk_FUNC k) f).setFld (fPM_GPIOk_WIDTH k) (fieldOf v 31 16)
    { s with pm := { s.pm with
        gpioHigh := if f = 1 then s.pm.gpioHigh else putBit s.pm.gpioHigh k false
        hostWake := if f = 2 then s.pm.hostWake else putBit s.pm.hostWake k false } }

/-- A GPIO_PULSE_k activation: ignored unless the ball is an output. -/
def State.gpioPulse (s : State) (k : Nat) : State :=
  if s.fld (fPM_GPIOk_FUNC k) = 1 then { s with pm := { s.pm with gpioHigh := putBit s.pm.gpioHigh k true } } else s

/-! ### Interlocks and temperature (R442 to R446) -/

/-- Pin k is an interlock in level mode. -/
def State.ilkLevel (s : State) (k : Nat) : Bool := bitOf (s.fld fPM_ILK_CFG_EN) k && bitOf (s.fld fPM_ILK_CFG_LEVEL) k

/-- An interlock cause (R444): FAULT 0x0F01 and host source 3. -/
def State.interlock (s : State) (fs : List Fld) : State := ((s.raise 0x0F01).icPend 3).safeCause fs 0x0F01

/-- A pin causes SAFE. -/
def State.ilkCause (s : State) (k : Nat) : State :=
  (s.setFld fPM_ILK_STATUS_LATCHED (putBit (s.fld fPM_ILK_STATUS_LATCHED) k true)).interlock [fPM_SAFE_CAUSE_INTERLOCK]

/-- ILK_N[k] takes a level: a falling edge fires ILK_k and is a cause on an enabled pin. -/
def State.ilkPin (s : State) (k : Nat) (low : Bool) : State :=
  let fell := low && !bitOf s.pm.ilkLow k
  let s := { s with pm := { s.pm with ilkLow := putBit s.pm.ilkLow k low } }
  if fell then
    let s := s.fire (0x338 + k)
    if bitOf (s.fld fPM_ILK_CFG_EN) k then s.ilkCause k else s
  else s

/-- A write of PM_ILK_CFG: a low pin that becomes an interlock in level mode is a cause at once. -/
def State.ilkCfgWrite (s : State) (v : Word) : State :=
  let t := (s.setFld fPM_ILK_CFG_EN (fieldOf v 7 0)).setFld fPM_ILK_CFG_LEVEL (fieldOf v 15 8)
  forRange 8 (fun k u => if u.ilkLevel k && !s.ilkLevel k && bitOf u.pm.ilkLow k then u.ilkCause k else u) t

/-- A write of PM_ILK_STATUS: LATCHED clears, but not while a level-mode pin is low. -/
def State.ilkStatusWrite (s : State) (v : Word) : State :=
  forRange 8 (fun k t =>
    if v.getLsbD (8 + k) && !(t.ilkLevel k && bitOf t.pm.ilkLow k) then
      t.setFld fPM_ILK_STATUS_LATCHED (putBit (t.fld fPM_ILK_STATUS_LATCHED) k false)
    else t) s

/-- TMAX in 0.25 °C. -/
def State.tmax (s : State) : Int := s.fldS fPM_THERM_STATUS_TMAX

/-- Does the condition of a SAFE cause persist (R439)? -/
def State.causePersists (s : State) (b : Nat) : Bool :=
  if b = 1 then (List.range 8).any (fun k => s.ilkLevel k && bitOf s.pm.ilkLow k)
  else if b = 2 then 4 * ((s.fld fPM_THERM_CFG_CRIT : Int) - s.fld fPM_THERM_CFG_HYST) ≤ s.tmax
  else if b = 3 then [3, 4, 8].any (fun d => !s.locked d) || (List.range 16).any (fun n => s.poolPowered n && !s.locked (9 + n))
  else if b = 4 then !s.flag fTM_STATUS_REF_LOCK
  else false

/-- SAFE_CAUSE_CLEAR (R442). -/
def State.causeWrite (s : State) (v : Word) : State :=
  forRange 6 (fun b t => if v.getLsbD b && !t.causePersists b then t.setRegBit rPM_SAFE_CAUSE b false else t) s

/-- A write of PM_THERM_CFG (R445). -/
def State.thermCfgWrite (s : State) (v : Word) : State :=
  let warn := fieldOf v 7 0
  let crit := fieldOf v 15 8
  let hyst := fieldOf v 19 16
  if crit ≤ warn || warn < 60 || 105 < warn || crit < 80 || 115 < crit || hyst = 0 then s.pmRefuse 0x07
  else ((s.setFld fPM_THERM_CFG_WARN warn).setFld fPM_THERM_CFG_CRIT crit).setFld fPM_THERM_CFG_HYST hyst

/-- THERMAL_SAMPLE: the highest comparator reading, in 0.25 °C (R446). -/
def State.thermalSample (s : State) (t : Int) : State :=
  let s := s.setFldS fPM_THERM_STATUS_TMAX t
  let warn : Int := s.fld fPM_THERM_CFG_WARN
  let crit : Int := s.fld fPM_THERM_CFG_CRIT
  let hyst : Int := s.fld fPM_THERM_CFG_HYST
  if s.pm.cooling then
    if t < 4 * (crit - hyst) then
      let s := { s with pm := { s.pm with cooling := false } }
      (s.setFld fPM_PD_STATUS_ON 0x3E0F).clocksUp.setFld fPM_STATUS_MODE modeBoot |>.bootStart
    else s
  else
    let warned := s.flag fPM_THERM_STATUS_THERMAL_WARN
    let s :=
      if !warned && 4 * warn ≤ t then ((s.setFlag fPM_THERM_STATUS_THERMAL_WARN true).fire 0x391).icLevel 2 true
      else if warned && t < 4 * (warn - hyst) then
        ((s.setFlag fPM_THERM_STATUS_THERMAL_WARN false).fire 0x391).icLevel 2 false
      else s
    let hot := s.flag fPM_THERM_STATUS_CRIT
    let s :=
      if !hot && 4 * crit ≤ t then
        ((s.setFlag fPM_THERM_STATUS_CRIT true).raise 0x0F02).safeCause [fPM_SAFE_CAUSE_THERMAL] 0x0F02
      else if hot && t < 4 * (crit - hyst) then s.setFlag fPM_THERM_STATUS_CRIT false
      else s
    if 500 ≤ t && s.pm.cold.isNone then (s.setFlag fPM_THERM_STATUS_SHUTDOWN_SEEN true).coldBegin 3 else s

/-! ### Clocks (R41, R425) -/

/-- REF_LOST: the reference is lost, with a SAFE cause (R41, R439). -/
def State.refLost (s : State) : State :=
  if s.flag fTM_STATUS_REF_LOCK then s.tmRefLost.safeCause [fPM_SAFE_CAUSE_REFERENCE] 0x0B01 else s

/-- Is a clock domain's power domain on? -/
def State.clockPowered (s : State) (d : Nat) : Bool :=
  if 9 ≤ d then s.poolPowered (d - 9)
  else if d = 3 then s.pdOn 2 else if d = 4 then s.pdOn 3 else if d = 5 || d = 6 then s.pdOn 4
  else if d = 7 then s.sedgePowered else if d = 8 then s.pdOn 1 else if d = 2 then s.pdOn 7 else true

/-- CLOCK_LOCK_LOSS. -/
def State.clockLost (s : State) (d : Nat) : State :=
  if d = 0 || !s.locked d then s
  else if d = 1 || d = 2 then s.refLost
  else
    let s := (s.setLock d false).raise 0x0F03
    if d = 7 then s.sdgSafe
    else if d = 5 || d = 6 then forRange 8 (fun p t => t.cwToRetrain p) s
    else
      let s := if 9 ≤ d then (s.slotsInvalidate (d - 9)).icLevel (264 + 16 * (d - 9)) true else s
      s.safeCause [fPM_SAFE_CAUSE_CLOCK] 0x0F03

/-- CLOCK_RELOCK. -/
def State.clockBack (s : State) (d : Nat) : State :=
  if !s.clockPowered d then s
  else if d = 1 || d = 2 then s.tmRefBack
  else
    let s := s.setLock d true
    if 9 ≤ d then s.icLevel (264 + 16 * (d - 9)) false else s

/-! ### The commands -/

/-- MODE_REQUEST: PM_CTRL written with REQ = 1. -/
def execModeRequest (p : Path) (target : Fin 16) (s : State) : Result :=
  done (s.viaBus p rPM_CTRL (·.modeRequest target.val))

/-- CALIBRATION_COMPLETE: every powered present Pool is calibrated (R413, R414). -/
def execCalibrationComplete (s : State) : Result :=
  done (if s.mode = modeCalibrate then
    let s := forRange 16 (fun n t =>
      if t.poolPowered n then t.setFld fPM_CAL_STATUS_POOL_CAL (putBit (t.fld fPM_CAL_STATUS_POOL_CAL) n true) else t) s
    (s.setFlag fPM_CAL_STATUS_DONE true).enterMode modeReady
  else s)

/-- POWER_GOOD. -/
def execPowerGood (d : Fin 30) (s : State) : Result := done (s.powerGood d.val)

/-- POWER_GOOD_TIMEOUT. -/
def execPowerGoodTimeout (d : Fin 30) (s : State) : Result := done (s.powerBad d.val)

/-- KEEP_OFF_WRITE. -/
def execKeepOffWrite (p : Path) (v : Word) (s : State) : Result := done (s.viaBus p rPM_PD_KEEP_OFF (·.keepOffWrite v))

/-- WAKE: an event of wake source `src`; `tie` says that it reaches PM in the CD0 cycle of the request that follows. -/
def execWake (src : Fin 3) (tie : Bool) (s : State) : Result :=
  done (if tie && s.wakeEnabled src.val && !s.pm.entering && modeConfig ≤ s.mode then
    { s with pm := { s.pm with tie := some src.val } }
  else s.wakeEvent src.val)

/-- PM_WAKE: the Fen task. -/
def execPmWake (s : State) : Result := done ((s.takeAct 0x850).wakeEvent 2)

/-- PM_SAFE: the Fen task. -/
def execPmSafe (s : State) : Result :=
  done ((s.takeAct 0x851).interlock [fPM_SAFE_CAUSE_INTERLOCK, fPM_SAFE_CAUSE_FEN_ILK])

/-- WAKE_N_EDGE: a falling edge. -/
def execWakeNEdge (s : State) : Result := done ((s.fire 0x330).wakeEvent 0)

/-- GPIO_EDGE: a rising edge. -/
def execGpioEdge (k : Fin 8) (s : State) : Result :=
  done (s.when (s.fld (fPM_GPIOk_FUNC k.val) == 0) (·.fire (0x328 + k.val)))

/-- GPIO_PULSE. -/
def execGpioPulse (k : Fin 8) (s : State) : Result := done ((s.takeAct (0x818 + k.val)).gpioPulse k.val)

/-- GPIO_PULSE_END. -/
def execGpioPulseEnd (k : Fin 8) (s : State) : Result :=
  done { s with pm := { s.pm with gpioHigh := putBit s.pm.gpioHigh k.val false } }

/-- ILK_EDGE: the pin goes low, or high again. -/
def execIlkEdge (k : Fin 8) (low : Bool) (s : State) : Result := done (s.ilkPin k.val low)

/-- ILK_CONFIG_WRITE. -/
def execIlkConfigWrite (p : Path) (v : Word) (s : State) : Result := done (s.viaBus p rPM_ILK_CFG (·.ilkCfgWrite v))

/-- SAFE_CAUSE_CLEAR. -/
def execSafeCauseClear (p : Path) (v : Word) (s : State) : Result := done (s.viaBus p rPM_SAFE_CAUSE (·.causeWrite v))

/-- POWER_ON_RESET: every rail has been up for 2 ms. -/
def execPowerOnReset (strap : Fin 16) (s : State) : Result := done (s.powerOn strap.val)

/-- BROWN_OUT. -/
def execBrownOut (s : State) : Result := done s.brownOut

/-- COLD_RESET: PM_RESET written with COLD and a key. -/
def execColdReset (p : Path) (key : BitVec 16) (s : State) : Result :=
  done (s.viaBus p rPM_RESET (fun s => s.pmResetWrite p (key ++ 1#16)))

/-- WARM_RESET: PM_RESET written with WARM and a key. -/
def execWarmReset (p : Path) (key : BitVec 16) (s : State) : Result :=
  done (s.viaBus p rPM_RESET (fun s => s.pmResetWrite p (key ++ 2#16)))

/-- POOL_RESET. -/
def execPoolReset (p : Path) (n : Fin 16) (s : State) : Result :=
  done (s.viaBus p rPM_UNIT_RESET (fun s => s.unitResetWrite (BitVec.twoPow 32 n.val)))

/-- SEDGE_RESET. -/
def execSedgeReset (p : Path) (s : State) : Result :=
  done (s.viaBus p rPM_UNIT_RESET (fun s => s.unitResetWrite (BitVec.twoPow 32 16)))

/-- CAUSEWAY_RESET. -/
def execCausewayReset (p : Path) (s : State) : Result :=
  done (s.viaBus p rPM_UNIT_RESET (fun s => s.unitResetWrite (BitVec.twoPow 32 17)))

/-- GTIMER_ENABLE: the timer's control word with EN = 1. -/
def execGtimerEnable (p : Path) (g : Fin 8) (v : Word) (s : State) : Result :=
  done (s.viaBus p (rPM_GTg_CTRL g.val) (fun s => s.gtCtrlWrite g.val (v ||| 1)))

/-- GTIMER_EXPIRY. -/
def execGtimerExpiry (g : Fin 8) (s : State) : Result := done (s.gtExpiry g.val)

/-- CLOCK_LOCK_LOSS. -/
def execClockLockLoss (d : Fin 25) (s : State) : Result := done (s.clockLost d.val)

/-- CLOCK_RELOCK. -/
def execClockRelock (d : Fin 25) (s : State) : Result := done (s.clockBack d.val)

/-- REF_LOST. -/
def execRefLost (s : State) : Result := done s.refLost

/-- REF_RELOCK. -/
def execRefRelock (s : State) : Result := done s.tmRefBack

/-- THERMAL_SAMPLE. -/
def execThermalSample (t : BitVec 12) (s : State) : Result := done (s.thermalSample t.toInt)

/-- PCIE_LINK_UP: the data link is up at a speed and a width (R319, R420). -/
def execPcieLinkUp (speed : Fin 8) (width : Fin 16) (s : State) : Result :=
  done (if s.sec.linkOn && !s.sec.perst && s.pdOn 3 then
    let s := (((s.setFld fBW_PCIE_SPEED speed.val).setFld fBW_PCIE_WIDTH width.val).setFlag fBW_PCIE_LINK_UP true)
    { s with pm := { s.pm with hostWake := 0 } }
  else s)

/-- PERST_N_RELEASE: a rising edge at PERST_N. -/
def execPerstNRelease (s : State) : Result :=
  done (({ s with sec := { s.sec with perst := false } }).wakeEvent 1)

end Sys2Proof.Machine
end

