-- ==== Sys2Proof/Machine/HostRun.lean ====
section
/-!
DEFINITION. RUN: the checks of its descriptor, its start and its completion, and what they do to the mode (chapter "Host
interface, rings and doorbell blocks", R340, R344, R345; R197, R201, R411).
-/
namespace Sys2Proof.Machine

/-- Is a Pool of a RUN held by another active RUN? -/
def State.runBlocked (s : State) (x : Run) : Bool :=
  s.runs.any (fun y => y.active && !(y.part == x.part && y.ring == x.ring) && x.pools.any y.hasPool)

/-- May time-based commands run: ROOT or TRACK, and GOOD quality where it is asked for (R55)? -/
def State.timeReady (s : State) : Bool :=
  (s.tmState == tmRoot || s.tmState == tmTrack) &&
    (!s.flag fTM_CFG_RUN_REQ_VERIFIED || s.fld fTM_STATUS_QUALITY == qGood)

/-- Is a RUN's reference tone outside its Pools, or without records? -/
def State.shotToneBad (s : State) (x : Run) : Bool :=
  match x.shotTone with
  | some t => !x.hasPool (t / 32) || !s.flag (fRO_Tk_RES_CFG_POST (t / 32) (t % 32))
  | none => false

/-- The checks of R340 and R344 at the tick at which the RUN would become ready. -/
def State.runFailures (s : State) (x : Run) : List Failure :=
  failIf (!s.timeReady) 0x03 ++
  failIf (s.shotToneBad x) 0x07 ++
  failIf (s.runs.any (fun y => y.active && y.part == x.part && y.tag == x.tag)) 0x07 ++
  failFirst 64 (fun c => bitOf x.coreMask c && s.rcState c != rcLoaded) 0x40 ++
  failIf (x.tStart != 0 && x.tStart < s.now + 1024) 0xC4

/-- The RUN that a descriptor describes. -/
def Desc.run (d : Desc) (p r : Nat) : Run := {
  part := p
  ring := r
  tag := d.tag
  seq := d.seq
  coreMask := d.coreMask
  tStart := d.le 16 8
  shotTone := d.shotTone
  timeout := d.le 40 4
  buf := if d.le 24 8 = 0 then none else some { addr := d.le 24 8, size := d.le 32 4 } }

/-- RUN: refused where its Pools are free and a check fails; else it waits and holds its ring. -/
def State.runDesc (s : State) (p r : Nat) : State :=
  match s.descNow p r 0x01 with
  | none => s
  | some d =>
    let x := d.run p r
    match s.runBlocked x, worstFailure (s.runFailures x) with
    | false, some (why, _) => s.refuse p r why
    | _, _ => ({ s with runs := s.runs ++ [x] }).setPhase p r .run

/-- A waiting RUN goes away with a refusal. -/
def State.runRefused (s : State) (x : Run) (why : Nat) : State :=
  ({ s with runs := s.runs.filter (fun y => !(y.part == x.part && y.ring == x.ring)) }).refuse x.part x.ring why

/-- RUN_READY: the RUN becomes active, its start tick is chosen, and READY becomes RUN. -/
def State.runReady (s : State) (p r : Nat) : State :=
  match s.runAt p r with
  | none => s
  | some x =>
    if x.active || s.runBlocked x then s
    else
      match worstFailure (s.runFailures x) with
      | some (why, _) => s.runRefused x why
      | none =>
        let ts := if x.tStart = 0 then gridUp 16 (s.now + 1024) else x.tStart
        let s := s.setRun { x with active := true, ts := ts }
        let s := s.when (x.buf.isNone) (fun t => t.nextBuffer p r)
        s.when (s.mode == modeReady) (·.enterMode modeRun)

/-- What a RUN clears in a Pool when it starts: the slots (R161), the fault record (R201), mutes (R86), the SEQ
recorded for decision-driven jumps (R83) and window counts. -/
def State.runPoolStart (s : State) (n : Nat) : State :=
  let s := s.slotsReset n
  let s := (s.setReg (rRC_PFR_CODE n) 0).setReg (rRC_PFR_SRC n) 0
  let s := s.setReg64 (rRC_PFR_TIME_L n) 0
  let s := forRange 72 (fun e t => t.setChain n e { t.chain n e with muted := false, recorded := none }) s
  forRange 32 (fun k t => t.setTone n k { t.tone n k with count := 0 }) s

/-- RUN_START: at T_s every named core starts at ENTRY, and RUN_START_p fires. -/
def State.runStart (s : State) (p r : Nat) : State :=
  match s.runAt p r with
  | none => s
  | some x =>
    if !x.active || x.started || x.cut then s
    else
      let s := x.pools.foldl (fun t n => t.runPoolStart n) s
      let s := forRange 64 (fun c t => if bitOf x.coreMask c then t.coreStart c x.ts else t) s
      (s.setRun { x with started := true }).fire (0x380 + p)

/-- The last active RUN has completed: RUN and DRAIN end in READY (R411). -/
def State.runsDone (s : State) : State :=
  if s.runActive then s
  else if s.mode = modeRun then (s.enterMode modeDrain).enterMode modeReady
  else if s.mode = modeDrain then s.enterMode modeReady
  else s

/-- RUN_COMPLETE, once everything of the RUN stands at its end. -/
def State.runComplete (s : State) (p r : Nat) : State :=
  match s.runAt p r with
  | none => s
  | some x => if s.runOver x then (s.runFinish x).runsDone else s

/-! ### The commands -/

/-- RUN. -/
def execRun (p : Fin 4) (r : Fin 8) (s : State) : Result := done (s.runDesc p.val r.val)

/-- RUN_READY. -/
def execRunReady (p : Fin 4) (r : Fin 8) (s : State) : Result := done (s.runReady p.val r.val)

/-- RUN_START. -/
def execRunStart (p : Fin 4) (r : Fin 8) (s : State) : Result := done (s.runStart p.val r.val)

/-- RUN_COMPLETE. -/
def execRunComplete (p : Fin 4) (r : Fin 8) (s : State) : Result := done (s.runComplete p.val r.val)

end Sys2Proof.Machine
end

