-- ==== Sys2Proof/Machine/Boot.lean ====
section
/-!
DEFINITION. The security controller: boot images, loading of the control stores, OTP changes, scrubbing and repair (chapter "Boot,
control stores and device security", R387 to R404, R408).
-/
namespace Sys2Proof.Machine

/-! ### The image (R387 to R389) -/

def stRomInit : Nat := 0
def stPrimary : Nat := 1
def stFallback : Nat := 2
def stWaitPush : Nat := 3
def stPush : Nat := 4
def stLoad : Nat := 5
def stDone : Nat := 6
def stFailed : Nat := 7

def State.stage (s : State) : Nat := s.fld fSEC_STATUS_STAGE
def State.setStage (s : State) (v : Nat) : State := s.setFld fSEC_STATUS_STAGE v

/-- A section of the plaintext. -/
structure Section where
  type : Nat
  unit : Nat
  svn : Nat
  reserved : Nat
  version : Nat
  offset : Nat
  length : Nat
  deriving DecidableEq, Repr

/-- The section table of a plaintext, as far as it claims to go; at most 32 entries. -/
def sectionsOf (plain : List Byte) : List Section :=
  (List.range (min 32 (imageLe plain 4 4))).map (fun i =>
    let at_ := 16 + 16 * i
    { type := imageLe plain at_ 1, unit := imageLe plain (at_ + 1) 1, svn := imageLe plain (at_ + 2) 1,
      reserved := imageLe plain (at_ + 3) 1, version := imageLe plain (at_ + 4) 4, offset := imageLe plain (at_ + 8) 4,
      length := imageLe plain (at_ + 12) 4 })

/-- The bytes of a section. -/
def Section.bytes (x : Section) (plain : List Byte) : List Byte := (plain.drop x.offset).take x.length

/-- The section of a type, and of a unit for control stores. -/
def sectionAt (plain : List Byte) (type unit : Nat) : Option Section :=
  (sectionsOf plain).find? (fun x => x.type == type && x.unit == unit)

/-- Depths of the control stores in words (R394). -/
def csDepth (u : Nat) : Nat := if u = 0 then 16384 else if u ≤ 8 then 4096 else if u = 9 then 32768 else 2048

/-- Is an entry of the section table valid by itself? -/
def Section.ok (x : Section) (plain : List Byte) : Bool :=
  let b (i n : Nat) : Nat := imageLe (x.bytes plain) i n
  x.reserved == 0 && x.offset + x.length ≤ plain.length &&
    (x.type == 1 || x.unit == 0) && ((x.type == 2 || x.type == 3) || x.svn == 0) && x.svn ≤ 64 &&
    (match x.type with
      | 1 => x.unit ≤ 10 && x.length % 16 == 0 && 16 ≤ x.length && x.length ≤ 16 * csDepth x.unit
      | 2 => x.length ≤ 16384
      | 3 => x.length ≤ 8192
      | 4 => x.length == 8 && b 4 4 == 0
      | 5 => x.length == 52 && (b 0 1 < 4 || b 0 1 == 0xFF) && b 1 1 < 16 && b 2 2 == 0
      | _ => false)

/-- Does each entry of a list stand apart from those after it: another type or unit, and no common byte? -/
def sectionsApart : List Section → Bool
  | [] => true
  | x :: xs => xs.all (fun y => !(x.type == y.type && x.unit == y.unit) && !overlap x.offset x.length y.offset y.length) &&
      sectionsApart xs

/-- Is a plaintext valid under R389? -/
def plainValid (plain : List Byte) : Bool :=
  16 ≤ plain.length && imageLe plain 0 4 == 0x5EC07AB1 && 1 ≤ imageLe plain 4 4 && imageLe plain 4 4 ≤ 32 &&
    imageLe plain 8 8 == 0 && 16 + 16 * imageLe plain 4 4 ≤ plain.length &&
    (sectionsOf plain).all (fun x => x.ok plain) && sectionsApart (sectionsOf plain)

/-- The SVN of a patch section, where the image has one. -/
def patchSvn (plain : List Byte) (type : Nat) : Option Nat := (sectionAt plain type 0).map (·.svn)

/-- A field of the header. -/
def headerLe (i : BootImage) (at_ n : Nat) : Nat := imageLe i.header at_ n

/-- The first check of R392 that fails. -/
def State.imageFault (s : State) (i : BootImage) : Option Nat :=
  let slot := headerLe i 13 1
  let below (k : Nat) (v : Option Nat) : Bool := match v with
    | some n => n < s.fld (fSEC_OTP_ARBk_COUNT k)
    | none => false
  if !i.delivered then some 0xF7
  else if i.header.length != 256 || headerLe i 0 4 != 0x5EC0B007 then some 0xF0
  else if headerLe i 4 2 != 1 || 1 < headerLe i 6 2 || headerLe i 8 4 < 256 || 2097152 < headerLe i 8 4 || 64 < headerLe i 12 1 || 3 < slot ||
      (headerLe i 14 2 != 0 && headerLe i 14 2 != s.part.code) || headerLe i 44 20 != 0 ||
      (s.stage = stPush && s.fld fSEC_PUSH_LEN_LEN != headerLe i 8 4) then some 0xF1
  else if !bitOf (s.fld fSEC_KEY_STATUS_PROGRAMMED) slot || bitOf (s.fld fSEC_KEY_STATUS_REVOKED) slot ||
      SMap.get (fun _ => 0) s.sec.hashes slot != i.digest.toNat then some 0xF2
  else if !i.sigOk then some 0xF3
  else if !i.tagOk then some 0xF4
  else if headerLe i 12 1 < s.fld (fSEC_OTP_ARBk_COUNT 0) || below 1 (patchSvn i.plain 2) || below 2 (patchSvn i.plain 3) then
    some 0xF5
  else if !plainValid i.plain then some 0xF6
  else none

/-! ### BOOT (R390 to R393) -/

/-- A candidate is rejected, and SEC moves to the next source. -/
def State.imageRejected (s : State) (reason : Nat) : State :=
  let s := (s.setFld fSEC_STATUS_REASON reason).raise 0x0E01
  let wait (t : State) : State := ({ t with sec := { t.sec with linkOn := true } }).setStage stWaitPush
  if s.stage = stPush then s.setStage stWaitPush
  else if s.stage = stFallback then (if s.fld fSEC_LIFECYCLE_BOOT_SRC = 1 then s.setStage stFailed else wait s)
  else s.setStage stFallback

/-- The version register of SEC or PM shows a patch, or none (R397). -/
def State.showPatch (s : State) (svn id : Fld) (x : Option Section) : State :=
  match x with
  | some x => (s.setFld svn x.svn).setFld id (x.version % 2 ^ 16)
  | none => (s.setFld svn 0).setFld id 0

/-- Both patches of a plaintext are loaded. -/
def State.loadPatches (s : State) (plain : List Byte) : State :=
  let bytes (type : Nat) : List Byte := match sectionAt plain type 0 with
    | some x => x.bytes plain
    | none => []
  let s := { s with sec := { s.sec with secPatch := bytes 2, pmPatch := bytes 3 } }
  let s := s.showPatch fSEC_CS_VERSION_PATCH_SVN fSEC_CS_VERSION_PATCH_ID (sectionAt plain 2 0)
  s.showPatch fPM_CS_VERSION_PATCH_SVN fPM_CS_VERSION_PATCH_ID (sectionAt plain 3 0)

/-- The subsystem IDs of the image are taken: at once while the link is held in Detect, else from the next PERST_N (R396). -/
def State.takePcieId (s : State) (plain : List Byte) : State :=
  match sectionAt plain 4 0 with
  | none => s
  | some x =>
    let v := (imageLe (x.bytes plain) 0 2, imageLe (x.bytes plain) 2 2)
    if s.sec.linkOn then { s with sec := { s.sec with pcieNext := some v } }
    else { s with sec := { s.sec with pcieId := v } }

/-- An accepted image is applied, and LOAD begins. -/
def State.imageAccepted (s : State) (i : BootImage) : State :=
  let src := if s.stage = stPush then 2 else if s.stage = stFallback then 1 else 0
  let arb := if headerLe i 6 2 = 1 then
      some (headerLe i 12 1, (patchSvn i.plain 2).getD 0, (patchSvn i.plain 3).getD 0) else none
  let s := { s with sec := { s.sec with retained := i.plain, arb := arb } }
  let s := (s.loadPatches i.plain).takePcieId i.plain
  let s := ((s.setFld fSEC_IMAGE_SVN (headerLe i 12 1)).setFld fSEC_IMAGE_KEY_SLOT (headerLe i 13 1)).setFld fSEC_IMAGE_SRC src
  (s.setStage stLoad).pmGo modeLoad

/-- IMAGE_CHECK: a candidate of the present source has been read. -/
def State.imageCheck (s : State) (i : BootImage) : State :=
  if s.mode != modeBoot || s.stage ∉ [stRomInit, stPrimary, stFallback, stPush] then s
  else
    match s.imageFault i with
    | some r => s.imageRejected r
    | none => s.imageAccepted i

/-- PUSH: accepted only in WAIT_PUSH. -/
def State.push (s : State) : State := s.when (s.mode == modeBoot && s.stage == stWaitPush) (·.setStage stPush)

/-! ### LOAD and OTP (R393, R394, R402) -/

/-- Is unit u of R394 present? -/
def State.csPresent (s : State) (u : Nat) : Bool :=
  u ≤ 10 && (!(1 ≤ u && u ≤ 8) || s.portPresent (u - 1)) && (u != 9 || s.part.sedge)

/-- Is unit u powered? -/
def State.csPowered (s : State) (u : Nat) : Bool :=
  s.csPresent u &&
    (if u = 0 then s.pdOn 3 else if u ≤ 8 then s.portPowered (u - 1) else if u = 9 then s.pdOn 8 else s.pdOn 9)

/-- The control store of unit u is loaded from the retained store, where the image has a section for it. -/
def State.csLoad (s : State) (u : Nat) : State :=
  let s := (s.setFlag (fSEC_CSu_STATUS_RELOADING u) false).setFlag (fSEC_CSu_STATUS_HALTED u) false
  match sectionAt s.sec.retained 1 u with
  | some x =>
    if s.csPowered u then
      let s := (s.setFlag (fSEC_CSu_STATUS_LOADED u) true).setRegN (rSEC_CSu_VERSION u) x.version
      { s with sec := { s.sec with stores := SMap.set (fun _ => []) s.sec.stores u (x.bytes s.sec.retained) } }
    else s
  | none => (s.setFlag (fSEC_CSu_STATUS_LOADED u) false).setReg (rSEC_CSu_VERSION u) 0

def State.otpIgnored (s : State) : State := s.setFlag fSEC_OTP_STATUS_IGNORED true

/-- A counter is raised to a value, where that is higher. -/
def State.arbRaise (s : State) (k v : Nat) : State :=
  s.setFld (fSEC_OTP_ARBk_COUNT k) (max v (s.fld (fSEC_OTP_ARBk_COUNT k)))

/-- The PROVISION section programs a slot and revokes slots. -/
def State.provision (s : State) (x : List Byte) : State :=
  let slot := imageLe x 0 1
  let mask := imageLe x 1 1
  let own := s.fld fSEC_IMAGE_KEY_SLOT
  let s :=
    if slot = 0xFF then s
    else if bitOf (s.fld fSEC_KEY_STATUS_PROGRAMMED) slot then s.otpIgnored
    else
      let hash := (x.drop 4).foldl (fun a b => 256 * a + b.toNat) 0
      ({ s with sec := { s.sec with hashes := SMap.set (fun _ => 0) s.sec.hashes slot hash } }).setFld
        fSEC_KEY_STATUS_PROGRAMMED (putBit (s.fld fSEC_KEY_STATUS_PROGRAMMED) slot true)
  forRange 4 (fun j t =>
    if !bitOf mask j then t
    else if j = own then t.otpIgnored
    else t.setFld fSEC_KEY_STATUS_REVOKED (putBit (t.fld fSEC_KEY_STATUS_REVOKED) j true)) s

/-- The OTP changes at the end of LOAD (R402). -/
def State.otpChanges (s : State) : State :=
  let s := match sectionAt s.sec.retained 5 0 with
    | some x => s.provision (x.bytes s.sec.retained)
    | none => s
  match s.sec.arb with
  | some (a, b, c) => ((s.arbRaise 0 a).arbRaise 1 b).arbRaise 2 c
  | none => s

/-- LOAD_COMPLETE: the control stores are loaded, OTP is changed, and the domains of CONFIG come on. -/
def State.loadComplete (s : State) : State :=
  if s.mode != modeLoad || s.flag fPM_STATUS_TRANSITION || s.stage != stLoad then s
  else
    let s := forRange 11 (fun u t => if t.csPresent u then t.csLoad u else t) s
    (s.otpChanges.setStage stDone).pmGo modeConfig

/-! ### REBOOT and repair (R398 to R401) -/

def State.secRefuse (s : State) (r : Nat) : State :=
  ((s.setFlag fSEC_STATUS_REFUSED true).setFld fSEC_STATUS_REASON r).showRefusal uSEC r 0
def State.secAccept (s : State) : State := (s.setFlag fSEC_STATUS_REFUSED false).setFld fSEC_STATUS_REASON 0

/-- REBOOT: every control store will be reloaded; powered domains stay on. -/
def State.reboot (s : State) : State :=
  if s.mode ∉ [modeConfig, modeReady, modeSafe, modeDiag] then s.secRefuse 0x02
  else
    let s := s.secAccept.bwReset.cwReset.cwDisableAll.sdgReset
    let s := forRange 11 (fun u t => (t.csLost u).setFlag (fSEC_CSu_STATUS_RETAINED_BAD u) false) s
    let s := { s with sec := { s.sec with retained := [], arb := none }, pm := { s.pm with todo := [], target := none } }
    (s.enterMode modeBoot).bootStart

/-- The reset of unit u that goes with a reload. -/
def State.reloadReset (s : State) (u : Nat) : State :=
  if u = 0 then s.bwReset
  else if u ≤ 8 then s.cwReset
  else if u = 9 then s.sdgReset
  else s.dpwHalt

/-- The units that are reloaded with unit u. -/
def reloadUnits (u : Nat) : List Nat := if 1 ≤ u && u ≤ 8 then [1, 2, 3, 4, 5, 6, 7, 8] else [u]

/-- A reload of unit u begins, unless it is running; the retained copy must be good. -/
def State.reload (s : State) (u : Nat) : State :=
  if !s.csPresent u || s.flag (fSEC_CSu_STATUS_RELOADING u) then s
  else if s.flag (fSEC_CSu_STATUS_RETAINED_BAD u) then s.secRefuse 0x0A
  else
    let s := s.secAccept.reloadReset u
    (reloadUnits u).foldl (fun t v => if t.csPresent v then t.setFlag (fSEC_CSu_STATUS_RELOADING v) true else t) s

/-- RELOAD_DONE: HALTED clears, and the unit is disabled. -/
def State.reloadDone (s : State) (u : Nat) : State :=
  if !s.flag (fSEC_CSu_STATUS_RELOADING u) then s
  else
    let s := s.csLoad u
    if 1 ≤ u && u ≤ 8 then s.portDisable (u - 1)
    else if u = 10 then s.setFlag fDPW_STATUS_ENABLED false
    else s

/-- Does unit u fetch: loaded, neither halted nor reloading? -/
def State.csRuns (s : State) (u : Nat) : Bool := s.csPresent u && s.csReady u

/-- A single-bit error of unit u is corrected (R398). -/
def State.csSbe (s : State) (u : Nat) : State :=
  s.when (s.csRuns u) (fun s => ((s.incSat (fSEC_CSu_COUNT_SBE u)).raise 0x0E02).icPend 4)

/-- What a halt of unit u does (R399). -/
def State.csStop (s : State) (u : Nat) : State :=
  if u = 0 then (s.runs.filter (·.active)).foldl (fun t x => t.runEnd x 0) s
  else if u ≤ 8 then s.portStop (u - 1)
  else if u = 9 then (s.sdgEnd sdgHalted).icLevel 30 true
  else s

/-- A double-bit error halts unit u, and AUTO_RELOAD repairs it. -/
def State.csDbe (s : State) (u : Nat) : State :=
  if !s.csRuns u then s
  else
    let s := s.setFlag (fSEC_CSu_STATUS_HALTED u) true
    let s := ((s.incSat (fSEC_CSu_COUNT_DBE u)).raise 0x0E03).icPend 5
    let s := s.csStop u
    s.when (s.flag fSEC_CTRL_AUTO_RELOAD) (·.reload u)

/-- SCRUB: the errors that a pass over every control store finds; a word corrected twice running is STUCK. -/
def State.scrub (s : State) (es : List CsError) : State :=
  let fixed := (es.filter (fun e => !e.double && s.csRuns e.unit.val)).map (fun e => (e.unit.val, e.word))
  let s := es.foldl (fun t e =>
    let u := e.unit.val
    if e.double then t.csDbe u
    else
      let t := t.when (t.csRuns u && s.sec.scrubbed.contains (u, e.word)) (·.setFlag (fSEC_CSu_STATUS_STUCK u) true)
      t.csSbe u) s
  { s with sec := { s.sec with scrubbed := fixed } }

/-- PATCH_RAM_ERROR: the ROM reloads the patch from the retained store, or runs without it. -/
def State.patchError (s : State) (pm : Bool) : State :=
  let s := s.raise 0x0E05
  if s.sec.retained != [] then s
  else if pm then
    ({ s with sec := { s.sec with pmPatch := [] } }).showPatch fPM_CS_VERSION_PATCH_SVN fPM_CS_VERSION_PATCH_ID none
  else
    ({ s with sec := { s.sec with secPatch := [] } }).showPatch fSEC_CS_VERSION_PATCH_SVN fSEC_CS_VERSION_PATCH_ID none

/-- A write of SEC_CTRL. -/
def State.secCtrlWrite (s : State) (v : Word) : State :=
  let s := s.setFlag fSEC_CTRL_AUTO_RELOAD (v.getLsbD 4)
  let s := s.when (v.getLsbD 0) (·.push)
  s.when (v.getLsbD 1) (·.reboot)

/-! ### The commands -/

/-- IMAGE_CHECK. -/
def execImageCheck (i : BootImage) (s : State) : Result := done (s.imageCheck i)

/-- PUSH. -/
def execPush (p : Path) (s : State) : Result := done (s.viaBus p rSEC_CTRL (·.push))

/-- LOAD_COMPLETE. -/
def execLoadComplete (s : State) : Result := done s.loadComplete

/-- REBOOT. -/
def execReboot (p : Path) (s : State) : Result := done (s.viaBus p rSEC_CTRL (·.reboot))

/-- RELOAD. -/
def execReload (p : Path) (u : Fin 11) (s : State) : Result := done (s.viaBus p (rSEC_CSu_CTRL u.val) (·.reload u.val))

/-- RELOAD_DONE. -/
def execReloadDone (u : Fin 11) (s : State) : Result := done (s.reloadDone u.val)

/-- SCRUB. -/
def execScrub (es : List CsError) (s : State) : Result := done (s.scrub es)

/-- CS_DOUBLE_BIT_ERROR: found at fetch. -/
def execCsDoubleBitError (u : Fin 11) (s : State) : Result := done (s.csDbe u.val)

/-- CS_SINGLE_BIT_ERROR: found at fetch. -/
def execCsSingleBitError (u : Fin 11) (s : State) : Result := done (s.csSbe u.val)

/-- RETAINED_STORE_ERROR: the copy of unit u has a double-bit error. -/
def execRetainedStoreError (u : Fin 11) (s : State) : Result :=
  done ((s.setFlag (fSEC_CSu_STATUS_RETAINED_BAD u.val) true).raise 0x0E04)

/-- PATCH_RAM_ERROR: in SEC's patch RAM, or in PM's. -/
def execPatchRamError (pm : Bool) (s : State) : Result := done (s.patchError pm)

end Sys2Proof.Machine
end

