-- ==== Sys2Proof/Machine/Fen.lean ====
section
/-!
DEFINITION. Fen: sources, channels, task inputs and tasks, ownership, and the loop checks (chapter "Fen event fabric and the
Decision Network", R261 to R275).
-/
namespace Sys2Proof.Machine

/-! ### Sources and tasks -/

/-- Is a source number listed in R262? -/
def sourceListed (x : Nat) : Bool :=
  x < 0x313 || (0x318 ≤ x && x < 0x323) || (0x328 ≤ x && x < 0x331) || (0x338 ≤ x && x < 0x36A) ||
    (0x36C ≤ x && x < 0x388) || (0x390 ≤ x && x < 0x392)

/-- Is the unit of a source present (R8, R9)? -/
def State.sourcePresent (s : State) (x : Nat) : Bool :=
  if x < 0x200 then s.poolPresent (x / 32)
  else if x < 0x300 then s.poolPresent ((x - 0x200) / 16)
  else if x < 0x310 then s.poolPresent (x - 0x300)
  else if 0x320 ≤ x && x < 0x323 then s.part.sedge
  else if 0x36C ≤ x && x < 0x370 then s.poolPresent (4 * (x - 0x36C))
  else true

/-- Is a task number listed in R263? -/
def taskListed (t : Nat) : Bool :=
  if t < 0x800 then t % 0x80 < 0x44 || (0x48 ≤ t % 0x80 && t % 0x80 < 0x58)
  else t < 0x812 || (0x818 ≤ t && t < 0x852)

/-- Is the unit of a task present? -/
def State.taskPresent (s : State) (t : Nat) : Bool :=
  if t < 0x800 then s.poolPresent (t / 0x80) else if t < 0x810 then s.poolPresent (t - 0x800) else true

/-- Can a task act: its domain is powered, and its Pool's clock locked (R267)? -/
def State.taskLive (s : State) (t : Nat) : Bool :=
  if t < 0x800 then s.poolLive (t / 0x80)
  else if t < 0x810 then s.pdOn (10 + (t - 0x800) / 4)
  else if t < 0x812 then s.pdOn 9
  else if 0x840 ≤ t && t < 0x850 then s.pdOn 3
  else true

/-! ### Activation (R264 to R267) -/

def State.chOn (s : State) (c : Nat) : Bool := bitOf s.fen.chOn c
def State.tiOn (s : State) (i : Nat) : Bool := bitOf s.fen.tiOn i

/-- The lowest-numbered enabled task input that names a task. -/
def State.taskOwner (s : State) (t : Nat) : Option Nat :=
  (List.range 1024).find? (fun i => s.tiOn i && s.fld (fFEN_TI_i_TASK i) == t)

/-- One more activation joined into another of its task. -/
def State.coincide (s : State) (t : Nat) : State :=
  match s.taskOwner t with
  | some i => s.incSat (fFEN_TI_i_COUNT_COINCIDE i)
  | none => s

/-- An activation of task input i reaches its task; `same` when the same acceptance has activated the task already.
Whether an activation falls into the acceptance interval of one that waits is a free value. -/
def State.activate (s : State) (i : Nat) (same : Bool) : State :=
  let t := s.fld (fFEN_TI_i_TASK i)
  if !s.taskLive t then s.incSat (fFEN_TI_i_COUNT_DROP i)
  else if same then s.coincide t
  else
    let waiting := s.fen.acts.countP (fun a => a.2 == t)
    if 0 < waiting && (Config.freeValue s.freeIdx).getLsbD 0 then s.draw.coincide t
    else
      let s := if 0 < waiting then s.draw else s
      if 15 < waiting then s.setFlag (fFEN_TI_i_COUNT_OVF i) true
      else { s with fen := { s.fen with acts := s.fen.acts ++ [(i, t)] } }

/-- An activation to each enabled task input that selects the channel. -/
def State.activateAll (s : State) (c : Nat) : State :=
  let tis := (List.range 1024).filter (fun i => s.tiOn i && s.fld (fFEN_TI_i_CH i) == c)
  (tis.foldl (fun (acc : State × List Nat) i =>
    let t := acc.1.fld (fFEN_TI_i_TASK i)
    (acc.1.activate i (acc.2.contains t), t :: acc.2)) (s, [])).1

def State.acceptances (s : State) (c : Nat) : Nat := SMap.get (fun _ => 0) s.fen.accepted c

/-- Channel c accepts an event and re-arms (R264, R268, R272). -/
def State.accept (s : State) (c : Nat) : State :=
  let s := s.setRegBit (rFEN_FLAG_w (c / 32)) (c % 32) true
  let s := forRange 16 (fun j t =>
    if t.flag (fFEN_CNT_j_CFG_EN j) && t.fld (fFEN_CNT_j_CFG_CH j) == c then t.incWrap (fFEN_CNT_j_COUNT j) else t) s
  let s := s.activateAll c
  { s with fen := { s.fen with
    rearm := putBit s.fen.rearm c true, accepted := SMap.set (fun _ => 0) s.fen.accepted c (s.acceptances c + 1) } }

/-- An event reaches an enabled channel. -/
def State.chEvent (s : State) (c : Nat) : State :=
  if !bitOf s.fen.rearm c then s.accept c
  else if bitOf s.fen.held c then s.setRegBit (rFEN_OVR_w (c / 32)) (c % 32) true
  else { s with fen := { s.fen with held := putBit s.fen.held c true } }

/-- An event of a source reaches every enabled channel that selects it. -/
def State.sourceEvent (s : State) (x : Nat) : State :=
  let s := { s with fen := { s.fen with presented := s.fen.presented.erase x } }
  forRange 256 (fun c t => if t.chOn c && t.fld (fFEN_CH_c_SRC c) == x then t.chEvent c else t) s

/-- The re-arm interval of a channel ends. -/
def State.rearmEnd (s : State) (c : Nat) : State :=
  if !bitOf s.fen.rearm c then s
  else
    let pend := bitOf s.fen.held c
    let s := { s with fen := { s.fen with rearm := putBit s.fen.rearm c false, held := putBit s.fen.held c false } }
    if pend && s.chOn c then s.accept c else s

/-- EN of a channel ceases: a pending event is discarded. -/
def State.chOff (s : State) (c : Nat) : State :=
  { s with fen := { s.fen with chOn := putBit s.fen.chOn c false, held := putBit s.fen.held c false } }

/-- A 1 µs interval ends (R272). -/
def State.loopInterval (s : State) (c : Nat) : State :=
  let n := s.acceptances c
  let s := { s with fen := { s.fen with accepted := SMap.set (fun _ => 0) s.fen.accepted c 0 } }
  if s.fld fFEN_LOOP_CFG_LOOP_MAX < n then
    let s := (s.chOff c).setFlag (fFEN_CH_c_EN c) false
    let s := s.setRegBit (rFEN_LOOPTRIP_w (c / 32)) (c % 32) true
    (s.raise 0x0801).icPend 53
  else s

/-! ### Ownership (R269) -/

/-- Counts a write ignored under R269. -/
def State.fenSecLog (s : State) (p : Path) (off : Nat) : State :=
  let s := s.incSat fFEN_SEC_LOG_COUNT
  let s := s.setFld fFEN_SEC_ADDR_OFFSET off
  let s := s.setFld fFEN_SEC_ADDR_REQ (Path.requester p)
  let s := s.setFlag fFEN_SEC_ADDR_REQ_S (Path.secure p)
  s.icPend 54

/-- May a path write an entry of an owner and a security attribute? -/
def Path.mayFen (p : Path) (owner : Nat) (sec : Bool) : Bool :=
  (Path.requester p == 0 || Path.requester p == owner) && (Path.secure p || !sec)

def State.mayChannel (s : State) (p : Path) (c : Nat) : Bool :=
  Path.mayFen p (s.fld (fFEN_CH_c_OWNER c)) (s.flag (fFEN_CH_c_SEC c))
def State.mayTask (s : State) (p : Path) (i : Nat) : Bool :=
  Path.mayFen p (s.fld (fFEN_TI_i_OWNER i)) (s.flag (fFEN_TI_i_SEC i))

/-- May a path change OWNER or SEC: the manager with an S access? -/
def Path.masterFen (p : Path) : Bool := Path.requester p == 0 && Path.secure p

/-! ### Loops (R271) -/

/-- The enabled channels that an enabled relay task input of channel c fires. -/
def State.chNext (s : State) (c : Nat) : List Nat :=
  ((List.range 1024).filter (fun i => s.tiOn i && s.fld (fFEN_TI_i_CH i) == c &&
      0x820 ≤ s.fld (fFEN_TI_i_TASK i) && s.fld (fFEN_TI_i_TASK i) < 0x840)).flatMap (fun i =>
    (List.range 256).filter (fun d => s.chOn d && s.fld (fFEN_CH_c_SRC d) == s.fld (fFEN_TI_i_TASK i) - 0x820 + 0x340))

/-- The channels reached from a set in at most `k` steps. -/
def State.chReach (s : State) : Nat → List Nat → List Nat
  | 0, l => l
  | k + 1, l => State.chReach s k (l.foldl (fun acc c => (s.chNext c).foldl (fun a d => if a.contains d then a else a ++ [d]) acc) l)

/-- The lowest-numbered channel without LOOP_OK on a static loop through channel c. -/
def State.badLoop (s : State) (c : Nat) : Option Nat :=
  let fwd := s.chReach 40 (s.chNext c)
  if !fwd.contains c then none
  else (List.range 256).find? (fun d =>
    fwd.contains d && !s.flag (fFEN_CH_c_LOOP_OK d) && (d == c || (s.chReach 40 (s.chNext d)).contains c))

/-! ### Enable checks (R275) -/

/-- The outcome of a check of an entry. -/
def State.fenOutcome (s : State) (fails : List Failure) (item : Nat) (on off : State → State) : State :=
  match worstFailure fails with
  | some (r, i) =>
    let s := s.setFlag fFEN_STATUS_REFUSED true
    let s := s.setFld fFEN_STATUS_REASON r
    let s := s.setFld fFEN_STATUS_ITEM i
    off (s.reportRefused uFEN r i)
  | none =>
    let s := s.setFlag fFEN_STATUS_REFUSED false
    let s := s.setFld fFEN_STATUS_REASON 0
    let s := s.setFld fFEN_STATUS_ITEM item
    on (s.reportAccepted uFEN)

/-- The loop check's failure. -/
def loopFailure : Option Nat → List Failure
  | some d => [(0x80, d)]
  | none => []

/-- EN of a channel set: the check with the channel included. -/
def State.chEnable (s : State) (c : Nat) : State :=
  let x := s.fld (fFEN_CH_c_SRC c)
  let t := { s with fen := { s.fen with chOn := putBit s.fen.chOn c true } }
  let fails := failIf (!sourceListed x) 0x07 c ++ failIf (sourceListed x && !s.sourcePresent x) 0x01 c ++
    loopFailure (t.badLoop c)
  s.fenOutcome fails c
    (fun s => { s with fen := { s.fen with
      chOn := putBit s.fen.chOn c true, rearm := putBit s.fen.rearm c false,
      accepted := SMap.set (fun _ => 0) s.fen.accepted c 0 } }) id

/-- EN of a task input set. -/
def State.tiEnable (s : State) (i : Nat) : State :=
  let c := s.fld (fFEN_TI_i_CH i)
  let t := s.fld (fFEN_TI_i_TASK i)
  let item := 0x400 + i
  let u := { s with fen := { s.fen with tiOn := putBit s.fen.tiOn i true } }
  let fails :=
    failIf (!taskListed t) 0x07 item ++ failIf (taskListed t && !s.taskPresent t) 0x01 item ++
    failIf (s.fld (fFEN_CH_c_OWNER c) != s.fld (fFEN_TI_i_OWNER i)) 0x04 item ++
    failIf (!s.flag (fFEN_TI_i_SEC i) && s.flag (fFEN_CH_c_SEC c)) 0x05 item ++
    failIf ((List.range 1024).any (fun j => s.tiOn j && j != i && s.fld (fFEN_TI_i_TASK j) == t &&
      s.fld (fFEN_TI_i_OWNER j) != s.fld (fFEN_TI_i_OWNER i))) 0x81 item ++
    loopFailure (if s.chOn c then u.badLoop c else none)
  s.fenOutcome fails item (fun s => { s with fen := { s.fen with tiOn := putBit s.fen.tiOn i true } }) id

/-! ### Writes -/

/-- A write of FEN_CH_c. -/
def State.chWrite (s : State) (p : Path) (c : Nat) (v : Word) : State :=
  let old := s.reg (rFEN_CH_c c)
  let new : Word := if s.chOn c then putField old 0 0 (fieldOf v 0 0) else v &&& 0x0F03FF3F
  if s.mayChannel p c && (fieldOf new 27 24 == fieldOf old 27 24 || Path.masterFen p) then
    let on := s.chOn c
    let s := s.setReg (rFEN_CH_c c) new
    if v.getLsbD 0 then (if on then s else s.chEnable c) else s.chOff c
  else s.fenSecLog p (rFEN_CH_c c - 0x2100000)

/-- A write of FEN_TI_i. -/
def State.tiWrite (s : State) (p : Path) (i : Nat) (v : Word) : State :=
  let old := s.reg (rFEN_TI_i i)
  let new : Word := if s.tiOn i then putField old 0 0 (fieldOf v 0 0) else v &&& 0xFFFFFF01
  if s.mayTask p i && (fieldOf new 31 28 == fieldOf old 31 28 || Path.masterFen p) then
    let on := s.tiOn i
    let s := s.setReg (rFEN_TI_i i) new
    if v.getLsbD 0 then (if on then s else s.tiEnable i)
    else { s with fen := { s.fen with tiOn := putBit s.fen.tiOn i false } }
  else s.fenSecLog p (rFEN_TI_i i - 0x2100000)

/-- A write of FEN_TI_i_COUNT clears OVF where 1 is written. -/
def State.tiCountWrite (s : State) (p : Path) (i : Nat) (v : Word) : State :=
  if !v.getLsbD 16 then s
  else if s.mayTask p i then s.setFlag (fFEN_TI_i_COUNT_OVF i) false
  else s.fenSecLog p (rFEN_TI_i_COUNT i - 0x2100000)

/-- A write of FEN_FLAG_w, FEN_OVR_w or FEN_LOOPTRIP_w: bits of the writer's channels clear. -/
def State.fenFlagsWrite (s : State) (p : Path) (off w : Nat) (v : Word) : State :=
  let may (j : Nat) : Bool := s.mayChannel p (32 * w + j)
  let u := forRange 32 (fun j t => if v.getLsbD j && may j then t.setRegBit off j false else t) s
  if (List.range 32).any (fun j => v.getLsbD j && !may j) then u.fenSecLog p (off - 0x2100000) else u

/-- A write of FEN_CNT_j_CFG: both channels are checked. -/
def State.cntWrite (s : State) (p : Path) (j : Nat) (v : Word) : State :=
  if s.mayChannel p (s.fld (fFEN_CNT_j_CFG_CH j)) && s.mayChannel p (fieldOf v 7 0) then
    let s := s.setReg (rFEN_CNT_j_CFG j) (v &&& 0x1FF)
    if v.getLsbD 8 then s.setReg (rFEN_CNT_j j) 0 else s
  else s.fenSecLog p (rFEN_CNT_j_CFG j - 0x2100000)

/-- A write of FEN_LOOP_CFG by the manager. -/
def State.loopCfgWrite (s : State) (v : Word) : State :=
  if 1 ≤ fieldOf v 6 0 && fieldOf v 6 0 ≤ 125 then s.setFld fFEN_LOOP_CFG_LOOP_MAX (fieldOf v 6 0) else s

/-- A write of FEN_SWEV. -/
def State.swevWrite (s : State) (v : Word) : State :=
  forRange 16 (fun k t => if v.getLsbD k then t.fire (0x370 + k) else t) s

/-! ### The commands -/

/-- FEN_EVENT. -/
def execFenEvent (x : Fin 1024) (s : State) : Result := done (s.sourceEvent x.val)

/-- REARM_END. -/
def execRearmEnd (c : Fin 256) (s : State) : Result := done (s.rearmEnd c.val)

/-- LOOP_INTERVAL. -/
def execLoopInterval (c : Fin 256) (s : State) : Result := done (s.loopInterval c.val)

/-- FEN_CHANNEL_ENABLE: a write with EN = 1. -/
def execFenChannelEnable (p : Path) (c : Fin 256) (v : Word) (s : State) : Result :=
  done (s.viaBus p (rFEN_CH_c c.val) (fun s => s.chWrite p c.val (v ||| 1)))

/-- FEN_TASK_INPUT_ENABLE: a write with EN = 1. -/
def execFenTaskInputEnable (p : Path) (i : Fin 1024) (v : Word) (s : State) : Result :=
  done (s.viaBus p (rFEN_TI_i i.val) (fun s => s.tiWrite p i.val (v ||| 1)))

/-- FEN_COUNTER_CONFIG. -/
def execFenCounterConfig (p : Path) (j : Fin 16) (v : Word) (s : State) : Result :=
  done (s.viaBus p (rFEN_CNT_j_CFG j.val) (fun s => s.cntWrite p j.val v))

/-- SWEV: bit k of FEN_SWEV. -/
def execSwev (p : Path) (k : Fin 16) (s : State) : Result :=
  done (s.viaBus p rFEN_SWEV (fun s => s.swevWrite (BitVec.twoPow 32 k.val)))

/-- RELAY. -/
def execRelay (r : Fin 32) (s : State) : Result := done ((s.takeAct (0x820 + r.val)).fire (0x340 + r.val))

end Sys2Proof.Machine
end

