-- ==== Sys2Proof/Machine/ReedStep.lean ====
section
/-!
DEFINITION. Bundles in instruction memory: their encoding (R204 to R231), and the step of a halted core in DIAG (R199).
-/
namespace Sys2Proof.Machine

/-! ### Decoding -/

/-- The field [hi:lo] of a bundle. -/
def bf (w hi lo : Nat) : Nat := w / 2 ^ lo % 2 ^ (hi + 1 - lo)

/-- A field as an index. -/
def ix (n : Nat) (h : 0 < n) (v : Nat) : Fin n := ⟨v % n, Nat.mod_lt v h⟩

def f32 (v : Nat) : Fin 32 := ix 32 (by decide) v
def f8 (v : Nat) : Fin 8 := ix 8 (by decide) v
def f4 (v : Nat) : Fin 4 := ix 4 (by decide) v

/-- The instruction when a condition on its encoding holds. -/
def onlyIf (b : Bool) (i : Instr) : Option Instr := if b then some i else none

/-- Operations of layout R that format DI also has: DOP 0x01 to 0x0E without CMP. -/
def decodeR (c : Fin 64) (dop : Nat) (d a : Fin 32) (b : Src) : Option Instr :=
  match dop with
  | 0x01 => some (.add c d a b)
  | 0x02 => some (.sub c d a b)
  | 0x03 => some (.adds c d a b)
  | 0x04 => some (.subs c d a b)
  | 0x05 => some (.and c d a b)
  | 0x06 => some (.or c d a b)
  | 0x07 => some (.xor c d a b)
  | 0x08 => some (.shl c d a b)
  | 0x09 => some (.shr c d a b)
  | 0x0A => some (.sar c d a b)
  | 0x0B => some (.min c d a b)
  | 0x0C => some (.max c d a b)
  | 0x0D => onlyIf (d.val == 0) (.cmp c a b)
  | 0x0E => some (.mul c d a b)
  | _ => none

/-- The address mode of layout M. -/
def decodeMode (x : Nat) : Option AddrMode :=
  let am := bf x 15 14
  let imm := BitVec.ofNat 8 (bf x 13 6)
  let br := bf x 5 5 == 1
  if am = 1 then (if imm = 0 then some (.postm br) else none)
  else if br then none
  else if am = 0 then (if imm = 0 then some .ind else none)
  else if am = 2 then some (.offs imm)
  else some (.posti imm)

/-- The D-slot of format DT (R212, R213). -/
def decodeD (c : Fin 64) (x : Nat) : Option Instr :=
  let dop := bf x 29 24
  let d := f32 (bf x 23 19)
  let a := f32 (bf x 18 14)
  let b := f32 (bf x 13 9)
  let i14 := BitVec.ofNat 14 (bf x 13 0)
  let rz := bf x 8 0 == 0
  let cd := f8 (bf x 23 21)
  let ca := f32 (bf x 20 16)
  let cb := f32 (bf x 15 11)
  let cz := bf x 10 0 == 0
  let kg := d
  let kc := f8 (bf x 18 16)
  let ksh := bf x 10 6
  let kp := bf x 5 4
  let kz := bf x 15 11 == 0 && bf x 3 0 == 0
  let m (k : Fin 32 → Fin 8 → AddrMode → Instr) : Option Instr :=
    match decodeMode x with
    | some am => onlyIf (bf x 4 0 == 0) (k d (f8 (bf x 18 16)) am)
    | none => none
  let m2 (k : Fin 32 → Fin 32 → Fin 8 → Fin 8 → Bool → Bool → Instr) : Option Instr :=
    onlyIf (bf x 5 0 == 0) (k d a (f8 (bf x 13 11)) (f8 (bf x 10 8)) (bf x 7 7 == 1) (bf x 6 6 == 1))
  match dop with
  | 0x00 => onlyIf (bf x 23 0 == 0) (.nop c)
  | 0x10 => some (.addi c d a i14)
  | 0x11 => some (.shli c d a i14)
  | 0x12 => some (.shri c d a i14)
  | 0x13 => some (.sari c d a i14)
  | 0x14 => onlyIf (d.val == 0) (.cmpi c a i14)
  | 0x15 => some (.andi c d a i14)
  | 0x18 => onlyIf (bf x 9 0 == 0) (.mov c (ix 128 (by decide) (bf x 23 17)) (.id (ix 128 (by decide) (bf x 16 10))))
  | 0x19 => onlyIf (bf x 17 0 == 0) (.modp c cd (f8 (bf x 20 18)))
  | 0x1A => onlyIf (bf x 13 9 == 0 && bf x 7 0 == 0) (.exp c d a (bf x 8 8 == 1))
  | 0x1B => onlyIf (bf x 13 9 == 0 && bf x 7 0 == 0) (.norm c d a (bf x 8 8 == 1))
  | 0x1C => onlyIf rz (.shc c d a b)
  | 0x20 => m (.ldW c)
  | 0x21 => m (.ldH c)
  | 0x22 => m (.ldHu c)
  | 0x23 => m (.stW c)
  | 0x24 => m (.stH c)
  | 0x25 => m2 (.ld2 c)
  | 0x26 => m2 (.ldst c)
  | 0x28 => onlyIf (bf x 3 0 == 0) (.rddec c d a (BitVec.ofNat 10 (bf x 13 4)))
  | 0x29 => onlyIf (bf x 18 4 == 0 && bf x 2 0 == 0) (.rdft c d (bf x 3 3 == 1))
  | 0x30 => onlyIf cz (.cmac c cd ca cb)
  | 0x31 => onlyIf cz (.cmacj c cd ca cb)
  | 0x32 => onlyIf cz (.cmul c cd ca cb)
  | 0x33 => onlyIf cz (.cmulj c cd ca cb)
  | 0x34 => onlyIf cz (.cmsu c cd ca cb)
  | 0x35 => onlyIf (kz && kp == 0) (.crnd c kg kc (f32 ksh))
  | 0x36 => onlyIf (kz && ksh == 0) (.cget c kg kc (f4 kp))
  | 0x37 => onlyIf (kz && ksh == 0) (.cput c kg kc (f4 kp))
  | 0x38 => onlyIf (bf x 20 0 == 0) (.cclr c cd)
  | 0x39 => onlyIf (cz && ca.val < 8 && cb.val < 8) (.cadd c cd (f8 ca.val) (f8 cb.val))
  | 0x3A => onlyIf (bf x 1 0 == 0) (.bfly c d a b (f32 (bf x 8 4)) (f4 (bf x 3 2)))
  | 0x3B => onlyIf (bf x 23 0 == 0) (.bstg c)
  | _ => if rz then decodeR c dop d a (.reg b) else none

/-- The D-slot of format DI (R220). -/
def decodeDI (c : Fin 64) (x : Nat) (imm : Word) : Option Instr :=
  if bf x 29 24 = 0x18 then onlyIf (bf x 16 0 == 0) (.mov c (ix 128 (by decide) (bf x 23 17)) (.imm imm))
  else if bf x 13 0 = 0 then decodeR c (bf x 29 24) (f32 (bf x 23 19)) (f32 (bf x 18 14)) (.imm imm)
  else none

/-- A T-slot operation: TOP, TGT, its register and offset; WAIT and SYNC take the offset alone (R206 to R208). -/
def decodeT (c : Fin 64) (top tgt : Nat) (x : TArg) : Option Instr :=
  let t := ix 128 (by decide) tgt
  let o : TOff := match x with
    | .short _ off => .short off
    | .long _ off => .long off
  let bare : Bool := tgt == 0 && (match x with
    | .short gs _ => gs.val == 0
    | .long gx _ => gx.val == 0)
  let long : Bool := match x with
    | .short _ _ => false
    | .long _ _ => true
  match top with
  | 0x0 => onlyIf bare (.tnop c long)
  | 0x1 => some (.play c t x)
  | 0x2 => some (.cplay c t x)
  | 0x3 => some (.frame c t x)
  | 0x4 => some (.framea c t x)
  | 0x5 => some (.freq c t x)
  | 0x6 => some (.freqp c t x)
  | 0x7 => some (.amp c t x)
  | 0x8 => some (.win c t x)
  | 0x9 => some (.mark c t x)
  | 0xA => some (.jump c t x)
  | 0xB => some (.trig c t x)
  | 0xC => onlyIf bare (.wait c o)
  | 0xD => onlyIf bare (.sync c o)
  | 0xE => onlyIf bare (.fence c long)
  | _ => none

/-- A control-flow bundle (R226 to R228): fields that an operation does not use are 0. -/
def decodeCF (c : Fin 64) (x : Nat) : Option Instr :=
  let cop := bf x 61 56
  let k : Cond := { cond := ix 16 (by decide) (bf x 55 52), ga := f32 (bf x 50 46) }
  let imm := bf x 45 30
  let lv := f4 (bf x 29 28)
  let rc := bf x 27 27 == 1
  let tgt := ix 16384 (by decide) (bf x 13 0)
  let fixed := bf x 51 51 == 0 && bf x 26 14 == 0
  let noCond := bf x 55 52 == 0
  let noGa := bf x 50 46 == 0
  let noImm := imm == 0
  let noLv := bf x 29 28 == 0
  let noTgt := bf x 13 0 == 0
  if !fixed then none
  else
    match cop with
    | 0x01 => onlyIf (noImm && noLv && !rc) (.br c k tgt)
    | 0x02 => onlyIf (noImm && noLv && !rc && noTgt) (.brr c k)
    | 0x03 => onlyIf (noImm && noLv && !rc) (.call c k tgt)
    | 0x04 => onlyIf (noImm && noLv && !rc && noTgt) (.callr c k)
    | 0x05 => onlyIf (noImm && noLv && !rc && noTgt) (.ret c k)
    | 0x06 =>
      if rc then onlyIf (noCond && noImm) (.loop c lv (.inr k.ga) tgt)
      else onlyIf (noCond && noGa) (.loop c lv (.inl (BitVec.ofNat 16 imm)) tgt)
    | 0x07 => onlyIf (noImm && !rc) (.brk c lv k tgt)
    | 0x08 => onlyIf (noCond && noGa && noImm && noLv && !rc && noTgt) (.reti c)
    | 0x09 => onlyIf (noCond && noGa && noImm && noLv && !rc && noTgt) (.halt c)
    | 0x0A => onlyIf (noCond && noGa && noImm && noLv && !rc && noTgt) (.swi c)
    | 0x0B => onlyIf (noCond && noGa && noImm && noTgt) (.ien c lv rc)
    | _ => none

/-- The operations of a bundle, in the order of its slots; none for a reserved encoding (R204, R205). -/
def decodeBundle (c : Fin 64) (w : Nat) : Option (List Instr) :=
  match bf w 63 62 with
  | 0 =>
    (match decodeD c (bf w 61 32),
        decodeT c (bf w 31 28) (bf w 27 21) (.short (f32 (bf w 20 16)) (BitVec.ofNat 16 (bf w 15 0))) with
      | some d, some t => some [d, t]
      | _, _ => none)
  | 1 => (decodeDI c (bf w 61 32) (BitVec.ofNat 32 (bf w 31 0))).map ([·])
  | 2 => (decodeT c (bf w 61 58) (bf w 57 51) (.long (f8 (bf w 50 48)) (BitVec.ofNat 48 (bf w 47 0)))).map ([·])
  | _ => (decodeCF c w).map ([·])

/-! ### One bundle of a halted core -/

/-- The effect of a bundle's operation on its core; other commands are no operations of a bundle. -/
def State.reedOp (s : State) : Instr → State
  | .nop c => s.dNop c.val
  | .add c d a b => s.dAdd c.val d.val a.val b
  | .sub c d a b => s.dSub c.val d.val a.val b
  | .adds c d a b => s.dAdds c.val d.val a.val b
  | .subs c d a b => s.dSubs c.val d.val a.val b
  | .and c d a b => s.dAnd c.val d.val a.val b
  | .or c d a b => s.dOr c.val d.val a.val b
  | .xor c d a b => s.dXor c.val d.val a.val b
  | .shl c d a b => s.dShl c.val d.val a.val b
  | .shr c d a b => s.dShr c.val d.val a.val b
  | .sar c d a b => s.dSar c.val d.val a.val b
  | .min c d a b => s.dMin c.val d.val a.val b
  | .max c d a b => s.dMax c.val d.val a.val b
  | .cmp c a b => s.dCmp c.val a.val b
  | .mul c d a b => s.dMul c.val d.val a.val b
  | .addi c d a v => s.dAddi c.val d.val a.val v
  | .shli c d a v => s.dShli c.val d.val a.val v
  | .shri c d a v => s.dShri c.val d.val a.val v
  | .sari c d a v => s.dSari c.val d.val a.val v
  | .cmpi c a v => s.dCmpi c.val a.val v
  | .andi c d a v => s.dAndi c.val d.val a.val v
  | .mov c dst src => s.dMov c.val dst.val src
  | .modp c pd mx => s.dModp c.val pd.val mx.val
  | .exp c d a x => s.dExp c.val d.val a.val x
  | .norm c d a x => s.dNorm c.val d.val a.val x
  | .shc c d a b => s.dShc c.val d.val a.val b.val
  | .ldW c g p am => s.dLdW c.val g.val p.val am
  | .ldH c g p am => s.dLdH c.val g.val p.val am
  | .ldHu c g p am => s.dLdHu c.val g.val p.val am
  | .stW c g p am => s.dStW c.val g.val p.val am
  | .stH c g p am => s.dStH c.val g.val p.val am
  | .ld2 c g1 g2 pa pb ma mb => s.dLd2 c.val g1.val g2.val pa.val pb.val ma mb
  | .ldst c g1 g2 pa pb ma mb => s.dLdst c.val g1.val g2.val pa.val pb.val ma mb
  | .rddec c d a v => s.dRddec c.val d.val a.val v
  | .rdft c d h => s.dRdft c.val d.val h
  | .cmac c cd a b => s.dCmac c.val cd.val a.val b.val
  | .cmacj c cd a b => s.dCmacj c.val cd.val a.val b.val
  | .cmul c cd a b => s.dCmul c.val cd.val a.val b.val
  | .cmulj c cd a b => s.dCmulj c.val cd.val a.val b.val
  | .cmsu c cd a b => s.dCmsu c.val cd.val a.val b.val
  | .crnd c g cs sh => s.dCrnd c.val g.val cs.val sh.val
  | .cget c g cs part => s.dCget c.val g.val cs.val part.val
  | .cput c g cs part => s.dCput c.val g.val cs.val part.val
  | .cclr c cd => s.dCclr c.val cd.val
  | .cadd c cd a b => s.dCadd c.val cd.val a.val b.val
  | .bfly c d a b t sc => s.dBfly c.val d.val a.val b.val t.val sc.val
  | .bstg c => s.dBstg c.val
  | .br c k tgt => s.cBr c.val k tgt.val
  | .brr c k => s.cBrr c.val k
  | .call c k tgt => s.cCall c.val k tgt.val
  | .callr c k => s.cCallr c.val k
  | .ret c k => s.cRet c.val k
  | .loop c lv count tgt => s.cLoop c.val lv.val count tgt.val
  | .brk c lv k tgt => s.cBrk c.val lv.val k tgt.val
  | .reti c => s.cReti c.val
  | .halt c => s.cHalt c.val
  | .swi c => s.cSwi c.val
  | .ien c mask rc => s.cIen c.val mask.val rc
  | .tnop c long => s.tTnop c.val long
  | .play c tgt x => s.tPlay c.val tgt.val x
  | .cplay c tgt x => s.tCplay c.val tgt.val x
  | .frame c tgt x => s.tFrame c.val tgt.val x
  | .framea c tgt x => s.tFramea c.val tgt.val x
  | .freq c tgt x => s.tFreq c.val tgt.val x
  | .freqp c tgt x => s.tFreqp c.val tgt.val x
  | .amp c tgt x => s.tAmp c.val tgt.val x
  | .win c tgt x => s.tWin c.val tgt.val x
  | .mark c tgt x => s.tMark c.val tgt.val x
  | .jump c tgt x => s.tJump c.val tgt.val x
  | .trig c tgt x => s.tTrig c.val tgt.val x
  | .wait c o => s.tWait c.val o
  | .sync c o => s.tSync c.val o
  | .fence c long => s.tFence c.val long
  | _ => s

/-- The bundle at an index of a core's instruction memory. -/
def State.bundleAt (s : State) (c pc : Nat) : Nat := leNat (imemRead s.imem (131072 * c + 8 * pc) 8)

/-- Issues the bundle at the program counter. -/
def State.stepBundle (s : State) (c : Fin 64) : State :=
  if !s.coreReady c.val then s
  else
    let s := s.closeHalf c.val
    match decodeBundle c (s.bundleAt c.val (s.pc c.val)) with
    | some ops => ops.foldl State.reedOp s
    | none => s.bundleStart c.val (·.illegalBundle c.val)

/-- A write of POOLn_RC_i_CTRL: DBG_HALT is written in DIAG only, and STEP acts there while it is 1. -/
def State.coreCtrlWrite (s : State) (c : Fin 64) (v : Word) : State :=
  if s.mode = modeDiag then
    let s := s.setFlag (fRC_i_CTRL_DBG_HALT (c.val / 4) (c.val % 4)) (v.getLsbD 0)
    if v.getLsbD 1 && s.dbgHalted c.val then s.stepBundle c else s
  else s

/-- CORE_STEP: STEP, with DBG_HALT written as 1. -/
def execCoreStep (p : Path) (c : Fin 64) (s : State) : Result :=
  done (s.viaBus p (rRC_i_CTRL (c.val / 4) (c.val % 4)) (fun s =>
    if s.flag (fRC_i_CTRL_DBG_HALT (c.val / 4) (c.val % 4)) then s.coreCtrlWrite c 3 else s))

end Sys2Proof.Machine
end

