-- ==== Sys2Proof/Machine/BusWrite.lean ====
section
/-!
DEFINITION. Register writes: the field types of R14, the writes that have a behaviour of their own, and the debug window
(R449 to R452).
-/
namespace Sys2Proof.Machine

/-! ### Field types (R14) -/

/-- The bits of a field, as a mask. -/
def FieldRow.mask (f : FieldRow) : Word := BitVec.ofNat 32 ((2 ^ (f.hi + 1 - f.lo) - 1) * 2 ^ f.lo)

/-- What a write leaves in a field's bits. -/
def FieldRow.write (locked : Bool) (v old : Word) (f : FieldRow) : Word :=
  let put := (old &&& ~~~f.mask) ||| (v &&& f.mask)
  match f.access with
  | .rw => put
  | .rwl => if locked then old else put
  | .w1c => old &&& ~~~(v &&& f.mask)
  | .w1s => old ||| (v &&& f.mask)
  | .ro => old
  | .wo => old
  | .rs => old

/-- Is the unit that owns a register enabled, so that its RWL fields are locked (R14)? -/
def State.lockedAt (s : State) (off : Nat) : Bool :=
  if off < 0x1000000 then false
  else if off < 0x2000000 then
    let n := (off - 0x1000000) / 0x100000
    match off % 0x100000 / 0x10000 with
    | 0 => s.flag (fDRV_STATUS_ENABLED n)
    | 2 => s.flag (fRO_STATUS_ENABLED n)
    | 3 => s.flag (fFLX_STATUS_ENABLED n)
    | 8 => s.flag (fDRV_STATUS_ENABLED n)
    | _ => false
  else
    match off / 0x100000 with
    | 0x20 => s.flag fSDG_STATUS_ENABLED
    | 0x21 => 0x8000 ≤ off % 0x100000 && s.flag fDN_STATUS_ENABLED
    | 0x22 => s.flag fCW_STATUS_ENABLED
    | 0x23 => 0x1000 ≤ off % 0x100000 && s.partOn ((off % 0x100000 - 0x1000) / 0x1000)
    | 0x24 => s.flag fIC_STATUS_ENABLED
    | 0x25 =>
      if rTM_TPOn_CTRL 0 ≤ off && off < rTM_TPOn_CTRL 8 then (s.tpo ((off - rTM_TPOn_CTRL 0) / 32)).enabled
      else s.tm.enabled
    | 0x26 => s.flag fSLU_STATUS_ENABLED
    | 0x27 => s.flag fDPW_STATUS_ENABLED
    | _ => false

/-- A write to a register without a behaviour of its own; a reserved offset ignores it (R12). -/
def State.plainWrite (s : State) (off : Nat) (v : Word) : State :=
  match regRow off with
  | none => s
  | some row => s.setReg off (row.fields.foldl (fun w f => f.write (s.lockedAt off) v w) (s.reg off))

/-! ### Writes with a behaviour of their own -/

/-- The index of a register in an array with this base, stride and count. -/
def hit (base stride count off : Nat) : Option Nat :=
  if base ≤ off && (off - base) % stride == 0 && (off - base) / stride < count then some ((off - base) / stride) else none

/-- The state, where the offset is that of one register. -/
def one (base off : Nat) (s : State) : Option State := if base = off then some s else none

/-- Drive unit and Peat of Pool n. -/
def State.driveWrite (s : State) (n off : Nat) (v : Word) : Option State :=
  one (rDRV_CTRL n) off (s.drvCtrlWrite n v) <|>
  (hit (rDRV_Tk_DJ_CFG n 0) 0x40 32 off).map (s.djCfgWrite n · v) <|>
  (hit (rPEAT_SBb_CFG n 0) 0x20 16 off).map (s.sbCfgWrite n · v) <|>
  (hit (rPEAT_SBb_CTRL n 0) 0x20 16 off).map (s.sbCtrlWrite n · v) <|>
  (hit (rSEG_e n 0) 4 0x8000 off).map (fun w => s.segWrite n (w / 8) (w % 8) v)

/-- Read-out unit and discriminator of Pool n. -/
def State.readoutWrite (s : State) (n off : Nat) (v : Word) : Option State :=
  one (rRO_CTRL n) off (s.roCtrlWrite n v) <|>
  (hit (rRO_Ll_CAL_CFG n 0) 0x80 2 off).map (s.calCfgWrite n · v) <|>
  (hit (rRO_Ll_FGCAL n 0) 0x80 2 off).map (s.fgcalWrite n · v) <|>
  (hit (rRO_Tk_TRK_CFG n 0) 0x80 32 off).map (s.trkCfgWrite n · v) <|>
  (hit (rRO_Tk_ACC_CTRL n 0) 0x80 32 off).map (fun k => s.when (v.getLsbD 0) (·.accClear n k)) <|>
  (hit (rRO_Tk_TRK_MU0 n 0) 0x20 32 off).map (fun k => (s.plainWrite off v).trkEstimate n k) <|>
  (hit (rRO_Tk_TRK_MU1 n 0) 0x20 32 off).map (fun k => (s.plainWrite off v).trkEstimate n k)

/-- Reed cores of Pool n. -/
def State.coreWrite (s : State) (n off : Nat) (v : Word) : Option State :=
  (hit (rRC_i_CTRL n 0) 0x1000 4 off).map (fun i => s.coreCtrlWrite (Fin.ofNat 64 (4 * n + i)) v) <|>
  (hit (rRC_i_IRQ_EN n 0) 0x1000 4 off).map (fun i => if s.flag (fRC_i_IMG_NO_VEC n i) then s else s.plainWrite off v) <|>
  (hit (rRC_i_MAILBOX n 0) 0x1000 4 off).map (fun i => s.mailboxWrite (4 * n + i) v)

/-- Pool n. -/
def State.poolWrite (s : State) (n off : Nat) (v : Word) : Option State :=
  match off % 0x100000 / 0x10000 with
  | 2 => s.readoutWrite n off v
  | 3 =>
    one (rFLX_CTRL n) off (s.flxCtrlWrite n v) <|> (hit (rFLX_Cf_AMP n 0) 0x400 8 off).map (s.flxAmpWrite n · v)
  | 5 => s.coreWrite n off v
  | _ => s.driveWrite n off v

/-- Fen and the Decision Network. -/
def State.fenWrite (s : State) (p : Path) (off : Nat) (v : Word) : Option State :=
  one rFEN_LOOP_CFG off (s.loopCfgWrite v) <|>
  one rFEN_SWEV off (s.swevWrite v) <|>
  (hit (rFEN_FLAG_w 0) 4 8 off).map (s.fenFlagsWrite p off · v) <|>
  (hit (rFEN_OVR_w 0) 4 8 off).map (s.fenFlagsWrite p off · v) <|>
  (hit (rFEN_LOOPTRIP_w 0) 4 8 off).map (s.fenFlagsWrite p off · v) <|>
  (hit (rFEN_CNT_j_CFG 0) 8 16 off).map (s.cntWrite p · v) <|>
  (hit (rFEN_CH_c 0) 4 256 off).map (s.chWrite p · v) <|>
  (hit (rFEN_TI_i 0) 8 1024 off).map (s.tiWrite p · v) <|>
  (hit (rFEN_TI_i_COUNT 0) 8 1024 off).map (s.tiCountWrite p · v) <|>
  one rDN_CTRL off (s.dnCtrlWrite v)

/-- Causeway. -/
def State.cwWrite (s : State) (off : Nat) (v : Word) : Option State :=
  one rCW_CTRL off (s.cwCtrlWrite v) <|>
  one rCW_BOARD off (s.plainWrite off v).rdyUpdate <|>
  (hit (rCW_Pp_CTRL 0) 0x10000 8 off).map (s.cwPortCtrlWrite · v)

/-- Ring r of partition p in Boardwalk. -/
def State.ringWrite (s : State) (p r off : Nat) (v : Word) : Option State :=
  one (rBW_Pp_SQr_BASE_L p r) off (s.sqShapeWrite p r off v) <|>
  one (rBW_Pp_SQr_BASE_H p r) off (s.sqShapeWrite p r off v) <|>
  one (rBW_Pp_SQr_SIZE p r) off (s.sqShapeWrite p r off (v &&& 0x1FFFF)) <|>
  one (rBW_Pp_SQr_CTRL p r) off (s.sqCtrlWrite p r v) <|>
  one (rBW_Pp_CQr_BASE_L p r) off (s.cqShapeWrite p r off v) <|>
  one (rBW_Pp_CQr_BASE_H p r) off (s.cqShapeWrite p r off v) <|>
  one (rBW_Pp_CQr_SIZE p r) off (s.cqShapeWrite p r off (v &&& 0x1FFFF)) <|>
  one (rBW_Pp_CQr_CTRL p r) off (s.cqCtrlWrite p r v)

/-- Boardwalk. -/
def State.bwWrite (s : State) (off : Nat) (v : Word) : Option State :=
  one rBW_POOL_OWNER off (s.ownerWrite v) <|>
  (hit (rBW_Pp_CTRL 0) 0x1000 4 off).map (s.partCtrlWrite · v) <|>
  (let p := (off - rBW_Pp_CTRL 0) / 0x1000
   if rBW_Pp_SQr_BASE_L 0 0 ≤ off && p < 4 then s.ringWrite p (off % 0x100 / 0x20) off v else none)

/-- The host interrupt controller. -/
def State.icWrite (s : State) (off : Nat) (v : Word) : Option State :=
  one rIC_CFG off (s.icCfgWrite v) <|>
  one rIC_GATE off (s.icGateWrite v) <|>
  one rIC_EOI off (s.icEoi v) <|>
  (hit (rIC_MASK_w 0) 4 16 off).map (s.icMaskWrite · v) <|>
  (hit (rIC_MASK_SET_w 0) 4 16 off).map (s.icMaskAlias · v true) <|>
  (hit (rIC_MASK_CLR_w 0) 4 16 off).map (s.icMaskAlias · v false) <|>
  (hit (rIC_PEND_w 0) 4 16 off).map (s.icPendWrite · v)

/-- The time unit. -/
def State.tmWrite (s : State) (off : Nat) (v : Word) : Option State :=
  one rTM_CTRL off (s.tmCtrlWrite v) <|>
  (hit (rTM_TPOn_CTRL 0) 0x20 8 off).map (s.tpoCtrlWrite · v) <|>
  (hit (rTM_ASYMp_i 0 0) 4 128 off).map (fun j => s.asymWrite (j / 16) (j % 16) v)

/-- Sluice. -/
def State.sluWrite (s : State) (off : Nat) (v : Word) : Option State :=
  one rSLU_CTRL off (s.sluCtrlWrite v) <|>
  (hit (rSLU_Gg_LOAD 0) 0x10 16 off).map
    (fun g => s.when (v.getLsbD 0 && s.flag (fSLU_Gg_CFG_SRC_REG g)) (·.strobe g)) <|>
  (hit (rSLU_CHc_CFG 0) 0x20 256 off).map (s.chCfgWrite · v) <|>
  (hit (rSLU_CHc_SLEW 0) 0x20 256 off).map (s.slewWrite · v) <|>
  (hit (rSLU_CHc_RANGE 0) 0x20 256 off).map (s.rangeWrite · v) <|>
  (hit (rSLU_CHc_STATUS 0) 0x20 256 off).map (s.chStatusWrite · v)

/-- Dipwell. -/
def State.dpwWrite (s : State) (off : Nat) (v : Word) : Option State :=
  one rDPW_CTRL off (s.dpwCtrlWrite v) <|>
  (hit (rDPW_Cc_INJ 0) 0x40 2 off).map (s.injWrite · v) <|>
  (hit (rDPW_Cc_CAL 0) 0x40 2 off).map (s.calWrite · v) <|>
  (hit (rDPW_ACC_i_CLR 0) 0x20 320 off).map (fun i => s.when (v.getLsbD 0) (·.dpwAccClear i))

/-- The security controller. -/
def State.secWrite (s : State) (off : Nat) (v : Word) : Option State :=
  one rSEC_CTRL off (s.secCtrlWrite v) <|>
  (hit (rSEC_CSu_CTRL 0) 0x10 11 off).map (fun u => s.when (v.getLsbD 0) (·.reload u))

/-- The power manager. -/
def State.pmWrite (s : State) (p : Path) (off : Nat) (v : Word) : Option State :=
  one rPM_CTRL off (s.when (v.getLsbD 4) (·.modeRequest (fieldOf v 3 0))) <|>
  one rPM_PD_KEEP_OFF off (s.keepOffWrite v) <|>
  one rPM_RESET off (s.pmResetWrite p v) <|>
  one rPM_UNIT_RESET off (s.unitResetWrite v) <|>
  one rPM_SAFE_CAUSE off (s.causeWrite v) <|>
  one rPM_ILK_CFG off (s.ilkCfgWrite v) <|>
  one rPM_ILK_STATUS off (s.ilkStatusWrite v) <|>
  one rPM_THERM_CFG off (s.thermCfgWrite v) <|>
  (hit (rPM_GTg_CTRL 0) 0x10 8 off).map (s.gtCtrlWrite · v) <|>
  (hit (rPM_GTg_PERIOD 0) 0x10 8 off).map (s.gtPeriodWrite · v) <|>
  (hit (rPM_GPIOk 0) 4 8 off).map (s.gpioWrite · v)

/-! ### SNAP and the debug-window page (R451, R455) -/

def State.snap (s : State) (p : Path) : Snap := SMap.get (fun _ => {}) s.snaps (Path.idx p)
def State.setSnap (s : State) (p : Path) (x : Snap) : State :=
  { s with snaps := SMap.set (fun _ => {}) s.snaps (Path.idx p) x }

def State.page (s : State) (p : Path) : Nat := SMap.get (fun _ => 0) s.pages (Path.idx p)
def State.setPage (s : State) (p : Path) (n : Nat) : State :=
  { s with pages := SMap.set (fun _ => 0) s.pages (Path.idx p) n }

/-- RELEASE: the snapshot of the path ends. -/
def State.snapRelease (s : State) (p : Path) : State := s.setSnap p { s.snap p with done := false, vals := [] }

/-- REQ: T_snap is the first multiple of 16 at or after t + 512. -/
def State.snapReq (s : State) (p : Path) (mask : Nat) : State :=
  let x := s.snap p
  if x.busy then s.setSnap p { x with ignored := true }
  else s.setSnap p { x with mask := mask, busy := true, done := false, tick := (s.now + 512 + 15) / 16 * 16, vals := [] }

/-- A write of GLB_SNAP_REQ. -/
def State.snapReqWrite (s : State) (p : Path) (v : Word) : State :=
  let s := if v.getLsbD 30 then s.snapRelease p else s
  if v.getLsbD 31 then s.snapReq p (fieldOf v 23 0) else s

/-- The global registers. -/
def State.glbWrite (s : State) (p : Path) (off : Nat) (v : Word) : Option State :=
  one rGLB_DBG_PAGE off (s.setPage p (fieldOf v 3 0)) <|>
  one rGLB_SNAP_REQ off (s.snapReqWrite p v) <|>
  one rGLB_SNAP_STATUS off (if v.getLsbD 2 then s.setSnap p { s.snap p with ignored := false } else s)

/-! ### The write of a register -/

/-- The write of a register that has a behaviour of its own. -/
def State.ownWrite (s : State) (p : Path) (off : Nat) (v : Word) : Option State :=
  if off < 0x1000000 then s.glbWrite p off v
  else if off < 0x2000000 then s.poolWrite ((off - 0x1000000) / 0x100000) off v
  else
    match off / 0x100000 with
    | 0x20 =>
      one rSDG_CTRL off (s.sdgCtrlWrite v) <|> one rSDG_UNTRUSTED off (s.when (v.getLsbD 0) (·.sdgUntrustedClear))
    | 0x21 => s.fenWrite p off v
    | 0x22 => s.cwWrite off v
    | 0x23 => s.bwWrite off v
    | 0x24 => s.icWrite off v
    | 0x25 => s.tmWrite off v
    | 0x26 => s.sluWrite off v
    | 0x27 => s.dpwWrite off v
    | 0x28 => s.secWrite off v
    | 0x29 => s.pmWrite p off v
    | _ => none

/-- What the unit does with a write. -/
def State.unitWrite (s : State) (p : Path) (off : Nat) (v : Word) : State :=
  (s.ownWrite p off v).getD (s.plainWrite off v)

/-- The offset of the debug window (R449). -/
def windowBase : Nat := 0x3000000

/-! ### The debug window (R451, R452) -/

/-- Where a window offset lies in the paged Pool n. -/
inductive WindowPlace
  /-- Peat, by byte address. -/
  | peat (a : Nat)
  /-- Instruction memory of core i. -/
  | imem (i a : Nat)
  /-- Data memory of core i. -/
  | dmem (i a : Nat)
  | reserved
  deriving DecidableEq, Repr

/-- The layout of the window. -/
def windowPlace (w : Nat) : WindowPlace :=
  if w < 0x400000 then .peat w
  else if w < 0x500000 then
    let i := (w - 0x400000) / 0x40000
    let a := (w - 0x400000) % 0x40000
    if a < 0x20000 then .imem i a
    else if a < 0x30000 then .dmem i (a - 0x20000)
    else .reserved
  else .reserved

/-- Is an access of this size taken by the window: 4 to 64 bytes, naturally aligned? -/
def windowFits (w size : Nat) : Bool := size ∈ [4, 8, 16, 32, 64] && w % size == 0

/-- May the path access the Pool that its page names? -/
def State.windowMay (s : State) (p : Path) : Bool :=
  match Path.partition p with
  | some k => s.poolOwner (s.page p) == k
  | none => true

/-- Is the window served, and the paged Pool there? -/
def State.windowLive (s : State) (p : Path) : Bool := modeConfig ≤ s.mode && s.pdOn 2 && s.poolPowered (s.page p)

/-- Does core c hold its instruction memory: RUNNING, HALTING or HALTED (R176)? -/
def State.imemHeld (s : State) (c : Nat) : Bool := s.rcState c ∈ [rcRunning, rcHalting, rcHalted]

/-- Writes bytes at a window offset. -/
def State.windowStore (s : State) (n w : Nat) (bytes : List Byte) : State :=
  match windowPlace w with
  | .peat a => { s with peat := s.peat.writeBytes (2 ^ 22 * n + a) bytes }
  | .imem i a =>
    if s.imemHeld (4 * n + i) then s else { s with imem := imemWrite s.imem (131072 * (4 * n + i) + a) bytes }
  | .dmem i a => { s with dmem := s.dmem.writeBytes (65536 * (4 * n + i) + a) bytes }
  | .reserved => s

/-- Reads bytes at a window offset. -/
def State.windowLoad (s : State) (n w size : Nat) : List Byte :=
  match windowPlace w with
  | .peat a => s.peat.readBytes (2 ^ 22 * n + a) size
  | .imem i a => imemRead s.imem (131072 * (4 * n + i) + a) size
  | .dmem i a => s.dmem.readBytes (65536 * (4 * n + i) + a) size
  | .reserved => List.replicate size 0

/-- A write through the window at window offset w. -/
def State.windowWrite (s : State) (p : Path) (w : Nat) (bytes : List Byte) : State :=
  if !windowFits w bytes.length then s.when (s.reachable 0) (·.accessErr p (windowBase + w))
  else if !s.windowLive p then s
  else if !s.windowMay p then s.secLog p (windowBase + w)
  else s.windowStore (s.page p) w bytes

/-- A read through the window at window offset w: the state after and the data. -/
def State.windowRead (s : State) (p : Path) (w size : Nat) : State × List Byte :=
  let none_ := List.replicate size (0 : Byte)
  if !windowFits w size then (s.when (s.reachable 0) (·.accessErr p (windowBase + w)), none_)
  else if !s.windowLive p then (s, none_)
  else if !s.windowMay p then (s.secLog p (windowBase + w), none_)
  else (s, s.windowLoad (s.page p) w size)

/-! ### A write at a BAR0 offset -/

/-- One 32-bit write at a BAR0 offset; past the 64 MiB map nothing is there. -/
def State.busWrite (s : State) (p : Path) (off : Nat) (v : Word) : State :=
  if off % 4 != 0 then s.when (s.reachable 0) (·.accessErr p off)
  else if windowBase ≤ off && off < 0x4000000 then s.windowWrite p (off - windowBase) (leBytes 4 v.toNat)
  else if off < 0x3000000 then s.viaBus p off (·.unitWrite p off v)
  else s

end Sys2Proof.Machine
end

