-- ==== Sys2Proof/Machine/BusRead.lean ====
section
/-!
DEFINITION. Register reads: what each register shows, companions latched per path (R429), snapshots (R455) and the reads
that change something.
-/
namespace Sys2Proof.Machine

/-! ### What a register shows -/

/-- Is the main enable of unit u in force (R454)? -/
def State.unitEnabled (s : State) (u : Nat) : Bool :=
  if u = uTM then s.tm.enabled
  else if u = uFEN || u = uSEC || u = uPM then true
  else if u = uDN then s.flag fDN_STATUS_ENABLED
  else if u = uSDG then s.flag fSDG_STATUS_ENABLED
  else if u = uCW then s.flag fCW_STATUS_ENABLED
  else if u = uBW then (List.range 4).any s.partOn
  else if u = uIC then s.flag fIC_STATUS_ENABLED
  else if u = uSLU then s.flag fSLU_STATUS_ENABLED
  else if u = uDPW then s.flag fDPW_STATUS_ENABLED
  else if u < 16 then false
  else
    let n := (u - 16) / 4
    match u % 4 with
    | 0 => s.flag (fDRV_STATUS_ENABLED n)
    | 1 => s.flag (fRO_STATUS_ENABLED n)
    | 2 => s.flag (fFLX_STATUS_ENABLED n)
    | _ => (List.range 16).any (fun b => (s.sbuf n b).enabled)

/-- A mask with the bits below `n` set where the test holds. -/
def maskOf (n : Nat) (p : Nat → Bool) : Nat := (List.range n).foldl (fun a i => a + bit (p i) * 2 ^ i) 0

/-- A word from a natural number. -/
def w32 (v : Nat) : Word := BitVec.ofNat 32 v

/-- Entry now playing, ACTIVE and MUTED of an engine, with PENDING of a drive tone. -/
def State.chainWord (s : State) (n e : Nat) : Word :=
  let c := s.chain n e
  w32 (c.entry + 2 ^ 16 * bit c.active + 2 ^ 17 * bit c.muted + if isDrive e then 2 ^ 18 * bit c.req.isSome else 0)

/-- POOLn_RO_Tk_STATE. -/
def State.toneWord (s : State) (n k : Nat) : Word :=
  let r := s.tone n k
  let c := s.chain n (32 + k)
  w32 (bit r.busy + 2 * bit r.inj.isSome + 4 * bit c.muted + 8 * bit c.active + 2 ^ 16 * c.entry)

/-- The bits of a segment entry's word that hold fields (R76). -/
def segMask (j : Nat) : Word :=
  match j with
  | 0 => 0xFFFFFFFF
  | 1 => 0xFFF1FFFF
  | 2 => 0xFFFFFFFF
  | 3 => 0x00FFFFFF
  | 4 => 0x000FFFFF
  | 5 => 0x00003F1F
  | _ => 0

/-- What a register of Pool n shows where it is not the word stored. -/
def State.poolView (s : State) (n off : Nat) : Option Word :=
  (hit (rDRV_Tk_STATE n 0) 0x40 32 off).map (s.chainWord n) <|>
  (hit (rFLX_Cf_STATE n 0) 0x400 8 off).map (fun f => s.chainWord n (64 + f)) <|>
  (hit (rRO_Tk_STATE n 0) 0x80 32 off).map (s.toneWord n) <|>
  (if off = rPEAT_ALLOC_SUM n then some (w32 (s.allocSum n)) else none) <|>
  (hit (rRC_i_ST_L n 0) 0x1000 4 off).map (fun i => (s.core (4 * n + i)).st.extractLsb' 0 32) <|>
  (hit (rRC_i_ST_H n 0) 0x1000 4 off).map (fun i => (s.core (4 * n + i)).st.extractLsb' 32 32) <|>
  (hit (rSEG_e n 0) 4 0x8000 off).map (fun w => s.reg off &&& segMask (w % 8))

/-- The owner of general timer g, as PM_GTg_CTRL shows it. -/
def State.gtOwner (s : State) (g : Nat) : Nat :=
  if s.sluClaims g then 1 else if s.dpwClaims 0 g then 2 else if s.dpwClaims 1 g then 3 else 0

/-- Bits of PM_PD_KEEP_OFF that read 1: units that the part does not have. -/
def State.absentPds (s : State) : Nat := maskOf 30 (fun d => d ∈ [6, 8] && !s.pdPresent d || 14 ≤ d && !s.pdPresent d)

/-- What a register of a shared unit shows where it is not the word stored. -/
def State.sharedView (s : State) (off : Nat) : Option Word :=
  match off / 0x100000 with
  | 0x20 =>
    (hit (rSDG_FRAME_q 0) 4 512 off).map (fun _ => putField (s.reg off) 2 2 (s.fld fSDG_UNTRUSTED_FLAG))
  | 0x21 => (hit (rDN_SLOT_s 0) 4 1024 off).map s.slotWord
  | 0x22 =>
    if off = rCW_RDY_STATUS then
      let w := putField (s.reg off) 1 1 (bit s.selfRdy)
      let w := putField w 2 2 (bit s.subRdy)
      let w := putField w 3 3 (bit s.machineRdy)
      some (putField w 15 8 s.silentPorts)
    else none
  | 0x23 =>
    (hit (rBW_Pp_STATUS 0) 0x1000 4 off).map (fun p =>
      let w := putField (s.reg off) 1 1 (bit (s.partBusy p))
      let w := putField w 19 16 (s.runs.countP (fun x => x.active && x.part == p))
      putField w 28 24 (s.partn p).posts.length) <|>
    (let p := (off - rBW_Pp_CTRL 0) / 0x1000
     (hit (rBW_Pp_SQr_STATUS p 0) 0x20 8 off).map (fun r => putField (s.reg off) 1 1 (bit (s.sq p r).cur.isSome)))
  | 0x25 =>
    if s.tmState = tmIdle && (off = rTM_NOW_L || off = rTM_NOW_M || off = rTM_NOW_H) then some 0
    else if off = rTM_NOW_L then some (s.tm.ft.extractLsb' 0 32 &&& 0xFFFF0000)
    else if off = rTM_NOW_M then some (s.tm.ft.extractLsb' 32 32)
    else if off = rTM_NOW_H then some ((s.tm.ft.extractLsb' 64 16).setWidth 32)
    else none
  | 0x26 =>
    if off = rSLU_STATUS then
      some (putField (putField (s.reg off) 2 2 (bit s.dpwRuns)) 3 3 (bit s.allOpen))
    else (hit (rSLU_AGRPa_STATUS 0) 4 4 off).map (fun a => putField (s.reg off) 0 0 (bit (s.pdOn (10 + a))))
  | 0x27 =>
    (hit (rDPW_ACC_i_MIN 0) 0x20 320 off).map (fun i => s.extreme i off) <|>
    (hit (rDPW_ACC_i_MAX 0) 0x20 320 off).map (fun i => s.extreme i off)
  | 0x29 =>
    (if off = rPM_PD_KEEP_OFF then some (s.reg off ||| w32 s.absentPds) else none) <|>
    (if off = rPM_ILK_STATUS then some (putField (s.reg off) 7 0 s.pm.ilkLow) else none) <|>
    (hit (rPM_GTg_CTRL 0) 0x10 8 off).map (fun g => putField (s.reg off) 5 4 (s.gtOwner g))
  | _ => none

/-- What a global register shows on a path. -/
def State.glbView (s : State) (p : Path) (off : Nat) : Option Word :=
  if off = rGLB_ID then some (w32 s.part.code)
  else if off = rGLB_CAP then
    some (w32 (maskOf 16 s.poolPresent + 2 ^ 16 * maskOf 8 s.portPresent + 2 ^ 24 * bit s.part.sedge +
      2 ^ 25 * s.part.lanes + 2 ^ 31 * bit (s.fld fSEC_STATUS_STAGE != 0)))
  else if off = rGLB_DBG_PAGE then some (w32 (s.page p))
  else if off = rGLB_SNAP_STATUS then
    some (w32 (bit (s.snap p).busy + 2 * bit (s.snap p).done + 4 * bit (s.snap p).ignored))
  else if off = rGLB_SNAP_T_L then some (w32 (s.snap p).tick)
  else if off = rGLB_SNAP_T_H then some (w32 ((s.snap p).tick / 2 ^ 32))
  else (hit (rGLB_UNIT_STATUS_u 0) 4 80 off).map (fun u => putField (s.reg off) 0 0 (bit (s.unitEnabled u)))

/-- The bits of a row whose fields pass a test. -/
def RegRow.maskWhere (row : RegRow) (t : Access → Bool) : Word :=
  row.fields.foldl (fun m f => if t f.access then m ||| f.mask else m) 0

/-- Is a field read back, rather than write-only? -/
def Access.readable : Access → Bool
  | .wo => false
  | _ => true

/-- Is a field copied by a snapshot (R455)? -/
def Access.snapped : Access → Bool
  | .ro => true
  | .rs => true
  | .w1c => true
  | _ => false

/-- What the register at an offset shows on a path: reserved bits and write-only fields read 0 (R12, R14). -/
def State.view (s : State) (p : Path) (off : Nat) : Word :=
  match regRow off with
  | none => 0
  | some row =>
    let own :=
      if off < 0x1000000 then s.glbView p off
      else if off < 0x2000000 then s.poolView ((off - 0x1000000) / 0x100000) off
      else s.sharedView off
    own.getD (s.reg off) &&& row.maskWhere Access.readable

/-! ### Snapshots (R455) -/

/-- The bit of GLB_SNAP_REQ that names the unit of an offset. -/
def snapBit (off : Nat) : Option Nat :=
  if off < 0x1000000 then none
  else if off < 0x2000000 then some ((off - 0x1000000) / 0x100000)
  else
    match off / 0x100000 with
    | 0x25 => some 16
    | 0x20 => some 17
    | 0x22 => some 18
    | 0x23 => some 19
    | 0x21 => some 20
    | 0x24 => some 21
    | 0x26 => some 22
    | 0x27 => some 23
    | _ => none

/-- The offsets of the registers of an array past its base. -/
def dimOffsets : List (Nat × Nat) → List Nat
  | [] => [0]
  | (stride, count) :: rest => (List.range count).flatMap (fun i => (dimOffsets rest).map (i * stride + ·))

/-- The rows of the unit that a bit of GLB_SNAP_REQ names; a Pool's rows without their index over Pools. -/
def snapRows (b : Nat) : List RegRow :=
  if b < 16 then
    (tableDRV ++ tableRO ++ tableFLX ++ tablePEAT ++ tableRC).map
      (fun row => { row with base := row.base + 0x100000 * b, dims := row.dims.tail })
  else
    match b with
    | 16 => tableTM
    | 17 => tableSDG
    | 18 => tableCW
    | 19 => tableBW
    | 20 => tableFEN
    | 21 => tableIC
    | 22 => tableSLU
    | 23 => tableDPW
    | _ => []

/-- The captured values of a unit, put into a store. -/
def State.snapUnit (s : State) (p : Path) (b : Nat) (m : SMap Word) : SMap Word :=
  ((snapRows b).filter (fun row => row.fields.any (fun f => f.access.snapped))).foldl (fun m row =>
    (dimOffsets row.dims).foldl (fun m o =>
      SMap.set (fun _ => 0) m (row.base + o) (s.view p (row.base + o) &&& row.maskWhere Access.snapped)) m) m

/-- SNAP_CAPTURE: every named unit that is there copies its status, and DONE sets. -/
def State.snapCapture (s : State) (p : Path) : State :=
  let x := s.snap p
  if !x.busy then s
  else
    let vals := (List.range 24).foldl (fun m b => if bitOf x.mask b then s.snapUnit p b m else m) []
    s.setSnap p { x with busy := false, done := true, vals := vals }

/-- Is the register at an offset captured for the path? -/
def State.snapCovers (s : State) (p : Path) (off : Nat) : Bool :=
  (s.snap p).done &&
    match snapBit off with
    | some b => bitOf (s.snap p).mask b
    | none => false

/-- Captured fields as captured, and the others live. -/
def State.snapView (s : State) (p : Path) (off : Nat) : Word :=
  match regRow off with
  | none => 0
  | some row =>
    let m := row.maskWhere Access.snapped
    (s.view p off &&& ~~~m) ||| (SMap.get (fun _ => 0) (s.snap p).vals off &&& m)

/-! ### Reads that change something -/

/-- The companions that a read of this register latches (R429): those that only such a read shows, and those that are
registers of their own besides. -/
def companions (off : Nat) : List Nat × List Nat :=
  let n := (off - 0x1000000) / 0x100000
  let high (b : Bool) : List Nat × List Nat := if b then ([off + 4], []) else ([], [])
  if off < 0x1000000 then high (off == rGLB_SNAP_T_L)
  else if off < 0x2000000 then
    match hit (rRC_i_LAST_COMMIT_L n 0) 0x1000 4 off with
    | some _ => ([off + 4], [off - 4])
    | none => high ((hit (rPEAT_SBb_RDPOS_L n 0) 0x20 16 off).isSome || (hit (rPEAT_SBb_WRPOS_L n 0) 0x20 16 off).isSome ||
        (hit (rRC_i_ST_L n 0) 0x1000 4 off).isSome || (hit (rRC_i_FAULT_ST_L n 0) 0x1000 4 off).isSome ||
        off == rRC_PFR_TIME_L n)
  else if off = rTM_NOW_L then ([rTM_NOW_M, rTM_NOW_H], [])
  else if off = rSDG_OBS_L then ([rSDG_OBS_H], [rSDG_ROUND_COMMITTED])
  else high (off == rTM_LAST_STEP_L || off == rTM_EPOCH_L || off == rSDG_LAST_COMMIT_T_L)

/-- Is the register at an offset one that another register's read latches? -/
def isCompanion (off : Nat) : Bool :=
  4 ≤ off && ((companions (off - 4)).1.contains off || off == rTM_NOW_H || off == rSDG_OBS_H ||
    (hit (rDPW_ACC_i_SUM_H 0) 0x20 320 off).isSome)

/-- A read of a register with companions latches them. -/
def State.latchAll (s : State) (p : Path) (off : Nat) : State :=
  let s := (companions off).1.foldl (fun t o => t.setLatch p o (s.view p o)) s
  (companions off).2.foldl (fun t o => t.setLatchOnce p o (s.view p o)) s

/-- A register of its own that a latch may stand for. -/
def State.onceRead (s : State) (p : Path) (off : Nat) : State × Word :=
  if s.latched p (off + 1) = 1 then (s.setLatch p (off + 1) 0, s.latched p off) else (s, s.view p off)

/-- A live read: the state after it, and the value. -/
def State.liveRead (s : State) (p : Path) (off : Nat) : State × Word :=
  if off = rTM_PPS_L then s.ppsRead p 0
  else if off = rTM_PPS_M then s.ppsRead p 1
  else if off = rTM_PPS_H then s.ppsRead p 2
  else
    match hit (rDPW_ACC_i_SUM_L 0) 0x20 320 off with
    | some i => s.sumRead p i
    | none => if isCompanion off then (s, s.latched p off) else (s.latchAll p off).onceRead p off

/-- Values the block estimates and the specification does not give: the mismatch of a frozen line (R138) and what is left
of a running general timer (R422) are free values. -/
def State.openRead (s : State) (off : Nat) : Option (State × Word) :=
  let v : Word := (Config.freeValue s.freeIdx).setWidth 32
  if 0x1000000 ≤ off && off < 0x2000000 then
    let n := (off - 0x1000000) / 0x100000
    match hit (rRO_Ll_CAL_EST n 0) 0x80 2 off with
    | some l => if s.flag (fRO_Ll_CAL_STATUS_FROZEN n l) then some (s.draw, v &&& 0xFFFF) else none
    | none => none
  else
    match hit (rPM_GTg_COUNT 0) 0x10 8 off with
    | some g => if s.gtOn g then some (s.draw, v) else none
    | none => none

/-- Flux saturations of a Pool up to the present tick are counted before one of its registers is read. -/
def State.readSync (s : State) (off : Nat) : State :=
  if 0x1000000 ≤ off && off < 0x2000000 && s.poolLive ((off - 0x1000000) / 0x100000) then
    forRange 8 (fun f t => t.fluxAdvance ((off - 0x1000000) / 0x100000) f t.now) s
  else s

/-- A read of a register on a path; one that is not reached reads 0 (R7, R396, R450). -/
def State.regRead (s : State) (p : Path) (off : Nat) : State × Word :=
  if !s.reachable off then (s, 0)
  else if s.snapCovers p off then (s, s.snapView p off)
  else
    let s := s.readSync off
    match s.openRead off with
    | some r => r
    | none => s.liveRead p off

/-- One 32-bit read at a BAR0 offset. -/
def State.busRead (s : State) (p : Path) (off : Nat) : State × Word :=
  if off % 4 != 0 then (s.when (s.reachable 0) (·.accessErr p off), 0)
  else if windowBase ≤ off && off < 0x4000000 then
    let r := s.windowRead p (off - windowBase) 4
    (r.1, w32 (leNat r.2))
  else if off < 0x3000000 then s.regRead p off
  else (s, 0)

/-- A read whose data goes back on the path. -/
def State.readOut (s : State) (p : Path) (off : Nat) : State :=
  let r := s.busRead p off
  r.1.emit (.readData p off r.2)

end Sys2Proof.Machine
end

