-- ==== Sys2Proof/Machine/Bus.lean ====
section
/-!
DEFINITION. Register accesses from outside: writes, reads, ill-formed accesses, the debug window, SNAP, and the register writes
of a PARAM descriptor (R14, R59, R334, R374, R429, R450, R452, R455).
-/
namespace Sys2Proof.Machine

/-- An access that is not one naturally aligned 32-bit access (R450): a read returns 0, a write is discarded. -/
def State.badAccess (s : State) (p : Path) (off : Nat) (write : Bool) : State :=
  let s := s.when (s.reachable 0) (·.accessErr p off)
  if write then s else s.emit (.readData p off 0)

/-- An access through the debug window, at an offset from its base. -/
def State.windowAccess (s : State) (p : Path) (w : Nat) : WindowAccess → State
  | .write bytes => s.windowWrite p w bytes
  | .read size =>
    let r := s.windowRead p w size
    r.1.emit (.windowData p w r.2)

/-- PARAM: register writes of the partition in order, or TM_EPOCH. -/
def State.param (s : State) (p : Fin 4) (r : Nat) : State :=
  match s.descNow p.val r 0x05 with
  | none => s
  | some d =>
    if d.le 8 1 = 0 then
      let s := forRange (d.le 9 1) (fun i t => t.busWrite (.vf p) (d.le (16 + 8 * i) 4) (w32 (d.le (20 + 8 * i) 4))) s
      s.finishOk p.val r (d.le 9 1)
    else (s.setReg64 rTM_EPOCH_L (d.le 16 8)).finishOk p.val r 1

/-! ### The commands -/

/-- REGISTER_WRITE. -/
def execRegisterWrite (p : Path) (off : BitVec 26) (v : Word) (s : State) : Result := done (s.busWrite p off.toNat v)

/-- LATCHING_READ. -/
def execLatchingRead (p : Path) (off : BitVec 26) (s : State) : Result := done (s.readOut p off.toNat)

/-- PPS_READ. -/
def execPpsRead (p : Path) (word : Fin 3) (s : State) : Result := done (s.readOut p (rTM_PPS_L + 4 * word.val))

/-- ACC_SUM_READ. -/
def execAccSumRead (p : Path) (i : Fin 320) (s : State) : Result := done (s.readOut p (rDPW_ACC_i_SUM_L i.val))

/-- BAD_ACCESS. -/
def execBadAccess (p : Path) (off : BitVec 26) (write : Bool) (s : State) : Result :=
  done (s.badAccess p off.toNat write)

/-- DEBUG_WINDOW_ACCESS. -/
def execDebugWindowAccess (p : Path) (w : BitVec 24) (a : WindowAccess) (s : State) : Result :=
  done (s.windowAccess p w.toNat a)

/-- SNAP_REQ. -/
def execSnapReq (p : Path) (mask : BitVec 24) (s : State) : Result :=
  done (s.viaBus p rGLB_SNAP_REQ (·.snapReq p mask.toNat))

/-- SNAP_CAPTURE. -/
def execSnapCapture (p : Path) (s : State) : Result := done (s.snapCapture p)

/-- SNAP_RELEASE. -/
def execSnapRelease (p : Path) (s : State) : Result := done (s.viaBus p rGLB_SNAP_REQ (·.snapRelease p))

/-- PARAM. -/
def execParam (p : Fin 4) (r : Fin 8) (s : State) : Result := done (s.param p r.val)

end Sys2Proof.Machine
end

