-- ==== Sys2Proof/Machine/Pins.lean ====
section
/-!
DEFINITION. The management SPI slave (R405) and the JTAG port (R406, R475).
-/
namespace Sys2Proof.Machine

/-! ### SPI -/

/-- The slave is served while PD0 and PD2 are on. -/
def State.spiServed (s : State) : Bool := s.pdOn 0 && s.pdOn 2

def State.spiErr (s : State) : State := { s with spi := { s.spi with err := true } }

/-- BUSY as a command finds it: writes taken before may still be in progress, and are over once found so. -/
def State.spiBusy (s : State) (busy : Bool) : Bool × State :=
  let b := busy && s.spi.writing
  (b, { s with spi := { s.spi with writing := b } })

/-- The words of bytes that come most significant byte first; an incomplete last word is left out. -/
def wordsMsb : List Byte → List Word
  | a :: b :: c :: d :: rest => (a ++ b ++ c ++ d) :: wordsMsb rest
  | _ => []

/-- Writes words at rising offsets. -/
def State.spiWords (s : State) (off : Nat) : List Word → State
  | [] => s
  | w :: ws => State.spiWords (s.busWrite .spi off w) (off + 4) ws

/-- The transaction of a command byte other than READ and STATUS: WRITE, or an unknown command. -/
def State.spiWrite (s : State) (cmd : Byte) (off : Nat) (data : List Byte) (busy : Bool) : State :=
  if !s.spiServed then s
  else
    let (b, s) := s.spiBusy busy
    if cmd != 0x02 || b || s.flag fSEC_LIFECYCLE_SPI_RO then s.spiErr
    else if off % 4 != 0 then (s.when (s.reachable 0) (·.accessErr .spi off)).spiErr
    else ({ s with spi := { s.spi with writing := true } }).spiWords off (wordsMsb data)

/-- Reads words at rising offsets. -/
def State.spiFetch (s : State) (off : Nat) : Nat → State
  | 0 => s
  | n + 1 => State.spiFetch (s.readOut .spi off) (off + 4) n

/-- READ. -/
def State.spiRead (s : State) (off words : Nat) (busy : Bool) : State :=
  if !s.spiServed then s
  else
    let (b, s) := s.spiBusy busy
    if b then s.spiErr
    else if off % 4 != 0 then (s.when (s.reachable 0) (·.accessErr .spi off)).spiErr
    else s.spiFetch off words

/-- STATUS: ERR clears. -/
def State.spiStatus (s : State) (busy : Bool) : State :=
  if !s.spiServed then s
  else
    let (b, s) := s.spiBusy busy
    let v := bit b + 2 * bit s.spi.err + 4 * bit (s.fld fSEC_STATUS_STAGE == 6) + 8 * bit (s.mode == modeSafe) + 16 * s.mode
    ({ s with spi := { s.spi with err := false } }).emit (.spiStatus (BitVec.ofNat 8 v))

/-! ### JTAG -/

/-- The bits of a value, least significant first. -/
def bitsLsb (n v : Nat) : List Bool := (List.range n).map (bitOf v)

/-- The IDCODE (R475), with die revision 0. -/
def State.idcode (s : State) : Nat := s.part.code * 2 ^ 12 + 0x3B7 * 2 + 1

/-- An instruction is in force. -/
def State.jtagIr (s : State) (i : JtagIr) : State := { s with jtag := { s.jtag with ir := i } }

/-- A scan of the boundary register: what it captured comes out, and what was shifted in stays. -/
def State.boundaryScan (s : State) (captured shifted : List Bool) : State :=
  { s.emit (.tdo captured) with jtag := { s.jtag with boundary := shifted } }

/-- The covered balls follow the boundary register. -/
def State.driveBalls (s : State) : State := s.emit (.balls s.jtag.boundary)

/-- A scan of the bypass register: one bit, captured as 0. -/
def State.bypassScan (s : State) (shifted : List Bool) : State := s.emit (.tdo ((false :: shifted).take shifted.length))

/-! ### The commands -/

/-- SPI_WRITE. -/
def execSpiWrite (cmd : Byte) (off : Word) (data : List Byte) (busy : Bool) (s : State) : Result :=
  done (s.spiWrite cmd off.toNat data busy)

/-- SPI_READ. -/
def execSpiRead (off : Word) (words : Nat) (busy : Bool) (s : State) : Result := done (s.spiRead off.toNat words busy)

/-- SPI_STATUS. -/
def execSpiStatus (busy : Bool) (s : State) : Result := done (s.spiStatus busy)

/-- BYPASS. -/
def execBypass (shifted : List Bool) (s : State) : Result := done ((s.jtagIr .bypass).bypassScan shifted)

/-- SAMPLE/PRELOAD. -/
def execSamplePreload (captured shifted : List Bool) (s : State) : Result :=
  done ((s.jtagIr .sample).boundaryScan captured shifted)

/-- EXTEST: the balls follow the register before the scan and after it. -/
def execExtest (captured shifted : List Bool) (s : State) : Result :=
  done (((s.jtagIr .extest).driveBalls.boundaryScan captured shifted).driveBalls)

/-- IDCODE. -/
def execIdcode (s : State) : Result := done ((s.jtagIr .idcode).emit (.tdo (bitsLsb 32 s.idcode)))

/-- CLAMP. -/
def execClamp (shifted : List Bool) (s : State) : Result := done ((s.jtagIr .clamp).driveBalls.bypassScan shifted)

/-- HIGHZ. -/
def execHighz (shifted : List Bool) (s : State) : Result := done ((s.jtagIr .highz).driveBalls.bypassScan shifted)

end Sys2Proof.Machine
end

