-- ==== Sys2Proof/Machine/Remote.lean ====
section
/-!
DEFINITION. Causeway remote access: reads, writes and block writes of another device in this device's register map (R306).
-/
namespace Sys2Proof.Machine

/-- The offset, tag and data of RD_REQ and WR_REQ. -/
def reqAddr (x : BitVec 192) : Nat := sliceNat x 31 0
def reqData (x : BitVec 192) : Word := x.extractLsb' 32 32
def reqTag (x : BitVec 192) : Nat := sliceNat x 79 64

/-- STATUS of RSP. -/
def rspOk : Nat := 0
def rspRefused : Nat := 1
def rspAlign : Nat := 2

/-- The payload of RSP. -/
def rspPayload (data : Word) (tag status : Nat) : BitVec 192 :=
  BitVec.ofNat 192 (packBits [(32, data.toNat), (16, tag), (8, status)])

/-- The answer to a request that came in on port p: LOCAL on that port where the request was LOCAL. -/
def State.respond (s : State) (p src : Nat) (loc : Bool) (data : Word) (tag status : Nat) : State :=
  if loc then
    s.queueFlit p {
      cl := 2, kind := 2, dest := src, src := s.nodeId, seq := 0, loc := true, eop := true, vc := 0,
      payload := rspPayload data tag status }
  else s.sendPacket 2 2 src (rspPayload data tag status)

/-- RD_REQ for this device. -/
def State.remoteRead (s : State) (p : Nat) (f : Flit) : State :=
  let a := reqAddr f.payload
  let r := s.busRead .causeway a
  r.1.respond p f.src f.loc r.2 (reqTag f.payload) (if a % 4 = 0 then rspOk else rspAlign)

/-- May another device write (CW_MGMT.WR_EN)? -/
def State.remoteMayWrite (s : State) : Bool := s.flag fCW_MGMT_WR_EN

/-- WR_REQ for this device. -/
def State.remoteWrite (s : State) (p : Nat) (f : Flit) : State :=
  let a := reqAddr f.payload
  if !s.remoteMayWrite then s.respond p f.src f.loc 0 (reqTag f.payload) rspRefused
  else
    (s.busWrite .causeway a (reqData f.payload)).respond p f.src f.loc 0 (reqTag f.payload)
      (if a % 4 = 0 then rspOk else rspAlign)

/-- STATUS that the header of a block write decides. -/
def State.blockStatus (s : State) (a : Nat) : Nat :=
  if a % 8 != 0 then rspAlign
  else if a < windowBase || 0x4000000 ≤ a || !s.remoteMayWrite then rspRefused
  else rspOk

/-- BLK_HEAD for this device: a header without data flits is answered at once. -/
def State.blockHead (s : State) (p : Nat) (f : Flit) : State :=
  let a := sliceNat f.payload 31 0
  let tag := sliceNat f.payload 47 32
  let n := sliceNat f.payload 53 48
  let r := s.cwPort p
  let others := r.blocks.filter (fun b => b.src != f.src)
  if n = 0 then (s.setCwPort p { r with blocks := others }).respond p f.src f.loc 0 tag rspRefused
  else
    s.setCwPort p { r with blocks := others ++ [{
      src := f.src, loc := f.loc, tag := tag, addr := a - windowBase, left := n, index := 0,
      status := s.blockStatus a }] }

/-- The 24 bytes of a data flit, in pieces of eight. -/
def State.blockStore (s : State) (w : Nat) (bytes : List Byte) : State :=
  ((s.windowWrite .causeway w (bytes.take 8)).windowWrite .causeway (w + 8) ((bytes.drop 8).take 8)).windowWrite .causeway
    (w + 16) (bytes.drop 16)

/-- BLK_DATA for this device: it goes with the header last received from its source; the last one is answered. -/
def State.blockData (s : State) (p : Nat) (f : Flit) : State :=
  match (s.cwPort p).blocks.find? (fun b => b.src == f.src) with
  | none => s
  | some b =>
    let status := if b.status = rspOk && !s.remoteMayWrite then rspRefused else b.status
    let s := if status = rspOk then s.blockStore (b.addr + 24 * b.index) (leBytes 24 f.payload.toNat) else s
    let r := s.cwPort p
    let others := r.blocks.filter (fun x => x.src != f.src)
    if b.left ≤ 1 then (s.setCwPort p { r with blocks := others }).respond p b.src b.loc 0 b.tag status
    else
      s.setCwPort p { r with blocks := others ++ [{ b with left := b.left - 1, index := b.index + 1, status := status }] }

/-! ### The commands -/

/-- RD_REQ. -/
def execRdReq (q : Fin 8) (h : Hdr) (payload : BitVec 192) (s : State) : Result :=
  let f := flitOf 2 0 h payload
  done (s.receiveFlit q.val f (·.remoteRead q.val f))

/-- WR_REQ. -/
def execWrReq (q : Fin 8) (h : Hdr) (payload : BitVec 192) (s : State) : Result :=
  let f := flitOf 2 1 h payload
  done (s.receiveFlit q.val f (·.remoteWrite q.val f))

/-- RSP: the specification gives an answer for this device no effect beyond its reception. -/
def execRsp (q : Fin 8) (h : Hdr) (payload : BitVec 192) (s : State) : Result :=
  done (s.receiveFlit q.val (flitOf 2 2 h payload) id)

/-- BLK_HEAD. -/
def execBlkHead (q : Fin 8) (h : Hdr) (payload : BitVec 192) (s : State) : Result :=
  let f := flitOf 3 0 h payload
  done (s.receiveFlit q.val f (·.blockHead q.val f))

/-- BLK_DATA. -/
def execBlkData (q : Fin 8) (h : Hdr) (payload : BitVec 192) (s : State) : Result :=
  let f := flitOf 3 1 h payload
  done (s.receiveFlit q.val f (·.blockData q.val f))

end Sys2Proof.Machine
end

