-- ==== Sys2Proof/Machine/Dispatch.lean ====
section
/-!
DEFINITION. The dispatcher: one arm per command, each a direct call of the command's meaning.
-/
namespace Sys2Proof.Machine

def exec (i : Instr) (s : State) : Host.Outcome State Fault Refusal :=
  match i with
  | .tmEnable p v => Sys2Proof.Machine.execTmEnable p v s
  | .tmDisable p => Sys2Proof.Machine.execTmDisable p s
  | .parentPortWrite p port => Sys2Proof.Machine.execParentPortWrite p port s
  | .asymAck p => Sys2Proof.Machine.execAsymAck p s
  | .asymWrite p q j v => Sys2Proof.Machine.execAsymWrite p q j v s
  | .timeFlitDue stamps => Sys2Proof.Machine.execTimeFlitDue stamps s
  | .time q f rx => Sys2Proof.Machine.execTime q f rx s
  | .lossTimeout => Sys2Proof.Machine.execLossTimeout s
  | .refLost => Sys2Proof.Machine.execRefLost s
  | .refRelock => Sys2Proof.Machine.execRefRelock s
  | .ppsEdge falling stamp => Sys2Proof.Machine.execPpsEdge falling stamp s
  | .ppsRead p word => Sys2Proof.Machine.execPpsRead p word s
  | .tpoEnable p n v => Sys2Proof.Machine.execTpoEnable p n v s
  | .tpoDisable p n => Sys2Proof.Machine.execTpoDisable p n s
  | .tpoPulse n => Sys2Proof.Machine.execTpoPulse n s
  | .nop c => Sys2Proof.Machine.execNop c s
  | .add c d a b => Sys2Proof.Machine.execAdd c d a b s
  | .sub c d a b => Sys2Proof.Machine.execSub c d a b s
  | .adds c d a b => Sys2Proof.Machine.execAdds c d a b s
  | .subs c d a b => Sys2Proof.Machine.execSubs c d a b s
  | .and c d a b => Sys2Proof.Machine.execAnd c d a b s
  | .or c d a b => Sys2Proof.Machine.execOr c d a b s
  | .xor c d a b => Sys2Proof.Machine.execXor c d a b s
  | .shl c d a b => Sys2Proof.Machine.execShl c d a b s
  | .shr c d a b => Sys2Proof.Machine.execShr c d a b s
  | .sar c d a b => Sys2Proof.Machine.execSar c d a b s
  | .min c d a b => Sys2Proof.Machine.execMin c d a b s
  | .max c d a b => Sys2Proof.Machine.execMax c d a b s
  | .cmp c a b => Sys2Proof.Machine.execCmp c a b s
  | .mul c d a b => Sys2Proof.Machine.execMul c d a b s
  | .addi c d a imm => Sys2Proof.Machine.execAddi c d a imm s
  | .shli c d a imm => Sys2Proof.Machine.execShli c d a imm s
  | .shri c d a imm => Sys2Proof.Machine.execShri c d a imm s
  | .sari c d a imm => Sys2Proof.Machine.execSari c d a imm s
  | .cmpi c a imm => Sys2Proof.Machine.execCmpi c a imm s
  | .andi c d a imm => Sys2Proof.Machine.execAndi c d a imm s
  | .mov c dst src => Sys2Proof.Machine.execMov c dst src s
  | .modp c pd mx => Sys2Proof.Machine.execModp c pd mx s
  | .exp c d a x => Sys2Proof.Machine.execExp c d a x s
  | .norm c d a x => Sys2Proof.Machine.execNorm c d a x s
  | .shc c d a b => Sys2Proof.Machine.execShc c d a b s
  | .ldW c g p am => Sys2Proof.Machine.execLdW c g p am s
  | .ldH c g p am => Sys2Proof.Machine.execLdH c g p am s
  | .ldHu c g p am => Sys2Proof.Machine.execLdHu c g p am s
  | .stW c g p am => Sys2Proof.Machine.execStW c g p am s
  | .stH c g p am => Sys2Proof.Machine.execStH c g p am s
  | .ld2 c g1 g2 pa pb ma mb => Sys2Proof.Machine.execLd2 c g1 g2 pa pb ma mb s
  | .ldst c g1 g2 pa pb ma mb => Sys2Proof.Machine.execLdst c g1 g2 pa pb ma mb s
  | .rddec c d a imm => Sys2Proof.Machine.execRddec c d a imm s
  | .rdft c d h => Sys2Proof.Machine.execRdft c d h s
  | .cmac c cd a b => Sys2Proof.Machine.execCmac c cd a b s
  | .cmacj c cd a b => Sys2Proof.Machine.execCmacj c cd a b s
  | .cmul c cd a b => Sys2Proof.Machine.execCmul c cd a b s
  | .cmulj c cd a b => Sys2Proof.Machine.execCmulj c cd a b s
  | .cmsu c cd a b => Sys2Proof.Machine.execCmsu c cd a b s
  | .crnd c g cs sh => Sys2Proof.Machine.execCrnd c g cs sh s
  | .cget c g cs part => Sys2Proof.Machine.execCget c g cs part s
  | .cput c g cs part => Sys2Proof.Machine.execCput c g cs part s
  | .cclr c cd => Sys2Proof.Machine.execCclr c cd s
  | .cadd c cd a b => Sys2Proof.Machine.execCadd c cd a b s
  | .bfly c d a b t sc => Sys2Proof.Machine.execBfly c d a b t sc s
  | .bstg c => Sys2Proof.Machine.execBstg c s
  | .illegalBundle c => Sys2Proof.Machine.execIllegalBundle c s
  | .br c k tgt => Sys2Proof.Machine.execBr c k tgt s
  | .brr c k => Sys2Proof.Machine.execBrr c k s
  | .call c k tgt => Sys2Proof.Machine.execCall c k tgt s
  | .callr c k => Sys2Proof.Machine.execCallr c k s
  | .ret c k => Sys2Proof.Machine.execRet c k s
  | .loop c lv count tgt => Sys2Proof.Machine.execLoop c lv count tgt s
  | .brk c lv k tgt => Sys2Proof.Machine.execBrk c lv k tgt s
  | .reti c => Sys2Proof.Machine.execReti c s
  | .halt c => Sys2Proof.Machine.execHalt c s
  | .swi c => Sys2Proof.Machine.execSwi c s
  | .ien c mask rc => Sys2Proof.Machine.execIen c mask rc s
  | .tnop c long => Sys2Proof.Machine.execTnop c long s
  | .play c tgt x => Sys2Proof.Machine.execPlay c tgt x s
  | .cplay c tgt x => Sys2Proof.Machine.execCplay c tgt x s
  | .frame c tgt x => Sys2Proof.Machine.execFrame c tgt x s
  | .framea c tgt x => Sys2Proof.Machine.execFramea c tgt x s
  | .freq c tgt x => Sys2Proof.Machine.execFreq c tgt x s
  | .freqp c tgt x => Sys2Proof.Machine.execFreqp c tgt x s
  | .amp c tgt x => Sys2Proof.Machine.execAmp c tgt x s
  | .win c tgt x => Sys2Proof.Machine.execWin c tgt x s
  | .mark c tgt x => Sys2Proof.Machine.execMark c tgt x s
  | .jump c tgt x => Sys2Proof.Machine.execJump c tgt x s
  | .trig c tgt x => Sys2Proof.Machine.execTrig c tgt x s
  | .wait c o => Sys2Proof.Machine.execWait c o s
  | .sync c o => Sys2Proof.Machine.execSync c o s
  | .fence c long => Sys2Proof.Machine.execFence c long s
  | .fenceRelease c => Sys2Proof.Machine.execFenceRelease c s
  | .commandDelivery c => Sys2Proof.Machine.execCommandDelivery c s
  | .commandCommit n tgt => Sys2Proof.Machine.execCommandCommit n tgt s
  | .interruptEntry c => Sys2Proof.Machine.execInterruptEntry c s
  | .mailbox p c v => Sys2Proof.Machine.execMailbox p c v s
  | .coreTimer c => Sys2Proof.Machine.execCoreTimer c s
  | .coreStep p c => Sys2Proof.Machine.execCoreStep p c s
  | .irq c j => Sys2Proof.Machine.execIrq c j s
  | .fenEvent x => Sys2Proof.Machine.execFenEvent x s
  | .rearmEnd c => Sys2Proof.Machine.execRearmEnd c s
  | .loopInterval c => Sys2Proof.Machine.execLoopInterval c s
  | .fenChannelEnable p c v => Sys2Proof.Machine.execFenChannelEnable p c v s
  | .fenTaskInputEnable p j v => Sys2Proof.Machine.execFenTaskInputEnable p j v s
  | .fenCounterConfig p j v => Sys2Proof.Machine.execFenCounterConfig p j v s
  | .swev p k => Sys2Proof.Machine.execSwev p k s
  | .relay r => Sys2Proof.Machine.execRelay r s
  | .icEnable p v => Sys2Proof.Machine.execIcEnable p v s
  | .icDisable p v => Sys2Proof.Machine.execIcDisable p v s
  | .icEoi p v => Sys2Proof.Machine.execIcEoi p v s
  | .icPendWrite p w v => Sys2Proof.Machine.execIcPendWrite p w v s
  | .icMaskSet p w v => Sys2Proof.Machine.execIcMaskSet p w v s
  | .icMaskClr p w v => Sys2Proof.Machine.execIcMaskClr p w v s
  | .icGate p v => Sys2Proof.Machine.execIcGate p v s
  | .holdoffExpiry g => Sys2Proof.Machine.execHoldoffExpiry g s
  | .msixUnmask m => Sys2Proof.Machine.execMsixUnmask m s
  | .icFen k => Sys2Proof.Machine.execIcFen k s
  | .sluEnable p => Sys2Proof.Machine.execSluEnable p s
  | .sluDisable p => Sys2Proof.Machine.execSluDisable p s
  | .sluChannelEnable p c v => Sys2Proof.Machine.execSluChannelEnable p c v s
  | .sluChannelDisable p c v => Sys2Proof.Machine.execSluChannelDisable p c v s
  | .sluClrCount p => Sys2Proof.Machine.execSluClrCount p s
  | .strobe p g => Sys2Proof.Machine.execStrobe p g s
  | .sluLoad g => Sys2Proof.Machine.execSluLoad g s
  | .closingEnd c => Sys2Proof.Machine.execClosingEnd c s
  | .slewStep c => Sys2Proof.Machine.execSlewStep c s
  | .rangeRequest p c new => Sys2Proof.Machine.execRangeRequest p c new s
  | .rangingStep c => Sys2Proof.Machine.execRangingStep c s
  | .zeroingStep c => Sys2Proof.Machine.execZeroingStep c s
  | .channelFaultClear p c => Sys2Proof.Machine.execChannelFaultClear p c s
  | .complianceFault c => Sys2Proof.Machine.execComplianceFault c s
  | .referenceFault a => Sys2Proof.Machine.execReferenceFault a s
  | .dpwEnable p => Sys2Proof.Machine.execDpwEnable p s
  | .dpwClrCount p => Sys2Proof.Machine.execDpwClrCount p s
  | .conversionSlot d0 d1 => Sys2Proof.Machine.execConversionSlot d0 d1 s
  | .scanTrigger c => Sys2Proof.Machine.execScanTrigger c s
  | .dpwConv c => Sys2Proof.Machine.execDpwConv c s
  | .delayedConversionStart c => Sys2Proof.Machine.execDelayedConversionStart c s
  | .injectedConversion p c input => Sys2Proof.Machine.execInjectedConversion p c input s
  | .dpwCalStart p c => Sys2Proof.Machine.execDpwCalStart p c s
  | .dpwCalDone c => Sys2Proof.Machine.execDpwCalDone c s
  | .xchkDue => Sys2Proof.Machine.execXchkDue s
  | .accSumRead p j => Sys2Proof.Machine.execAccSumRead p j s
  | .dpwAccClr p j => Sys2Proof.Machine.execDpwAccClr p j s
  | .drvEnable p n => Sys2Proof.Machine.execDrvEnable p n s
  | .drvDisable p n => Sys2Proof.Machine.execDrvDisable p n s
  | .drvClrCount p n => Sys2Proof.Machine.execDrvClrCount p n s
  | .segmentCommit p n e => Sys2Proof.Machine.execSegmentCommit p n e s
  | .streamBufferEnable p n b v => Sys2Proof.Machine.execStreamBufferEnable p n b v s
  | .streamBufferDisable p n b v => Sys2Proof.Machine.execStreamBufferDisable p n b v s
  | .passEnd n e => Sys2Proof.Machine.execPassEnd n e s
  | .jumpCommitPoint n k => Sys2Proof.Machine.execJumpCommitPoint n k s
  | .streamSampleRead n e => Sys2Proof.Machine.execStreamSampleRead n e s
  | .jumpReq n k => Sys2Proof.Machine.execJumpReq n k s
  | .markPulse n m => Sys2Proof.Machine.execMarkPulse n m s
  | .trigInEdge n => Sys2Proof.Machine.execTrigInEdge n s
  | .flxEnable p n => Sys2Proof.Machine.execFlxEnable p n s
  | .flxDisable p n => Sys2Proof.Machine.execFlxDisable p n s
  | .flxClrCount p n => Sys2Proof.Machine.execFlxClrCount p n s
  | .roEnable p n => Sys2Proof.Machine.execRoEnable p n s
  | .roDisable p n => Sys2Proof.Machine.execRoDisable p n s
  | .roClrCount p n => Sys2Proof.Machine.execRoClrCount p n s
  | .windowOpen n k => Sys2Proof.Machine.execWindowOpen n k s
  | .windowEnd n k xs => Sys2Proof.Machine.execWindowEnd n k xs s
  | .sequentialDecision n k xs => Sys2Proof.Machine.execSequentialDecision n k xs s
  | .earlyCloseRamp n k => Sys2Proof.Machine.execEarlyCloseRamp n k s
  | .windowStart n k => Sys2Proof.Machine.execWindowStart n k s
  | .swapStep n l => Sys2Proof.Machine.execSwapStep n l s
  | .swapDeferralTimeout n l => Sys2Proof.Machine.execSwapDeferralTimeout n l s
  | .calFreeze p n l v => Sys2Proof.Machine.execCalFreeze p n l v s
  | .freezeExpiry n l => Sys2Proof.Machine.execFreezeExpiry n l s
  | .fgcalStart p n l => Sys2Proof.Machine.execFgcalStart p n l s
  | .fgcalBegin n l => Sys2Proof.Machine.execFgcalBegin n l s
  | .fgcalDone n l => Sys2Proof.Machine.execFgcalDone n l s
  | .accClr p n k => Sys2Proof.Machine.execAccClr p n k s
  | .histClr p n k => Sys2Proof.Machine.execHistClr p n k s
  | .adcOverRange n l => Sys2Proof.Machine.execAdcOverRange n l s
  | .sdgEnable p => Sys2Proof.Machine.execSdgEnable p s
  | .start p => Sys2Proof.Machine.execStart p s
  | .sessionBegin => Sys2Proof.Machine.execSessionBegin s
  | .flush p => Sys2Proof.Machine.execFlush p s
  | .stop p => Sys2Proof.Machine.execStop p s
  | .frameClr p => Sys2Proof.Machine.execFrameClr p s
  | .untrustedClear p => Sys2Proof.Machine.execUntrustedClear p s
  | .roundClose => Sys2Proof.Machine.execRoundClose s
  | .boundaryTimeout k r => Sys2Proof.Machine.execBoundaryTimeout k r s
  | .commit => Sys2Proof.Machine.execCommit s
  | .helloDue => Sys2Proof.Machine.execHelloDue s
  | .dnEnable p => Sys2Proof.Machine.execDnEnable p s
  | .impClr p => Sys2Proof.Machine.execImpClr p s
  | .cwEnable p => Sys2Proof.Machine.execCwEnable p s
  | .portEnable p q v => Sys2Proof.Machine.execPortEnable p q v s
  | .portDisable p q v => Sys2Proof.Machine.execPortDisable p q v s
  | .portReset p q => Sys2Proof.Machine.execPortReset p q s
  | .retrain p q => Sys2Proof.Machine.execRetrain p q s
  | .tsWord q w ready => Sys2Proof.Machine.execTsWord q w ready s
  | .trainTimeout q => Sys2Proof.Machine.execTrainTimeout q s
  | .trainRetry q => Sys2Proof.Machine.execTrainRetry q s
  | .laneLoss q lane => Sys2Proof.Machine.execLaneLoss q lane s
  | .portDown q => Sys2Proof.Machine.execPortDown q s
  | .alignDue q => Sys2Proof.Machine.execAlignDue q s
  | .policerToken q => Sys2Proof.Machine.execPolicerToken q s
  | .decisionFlitSend q => Sys2Proof.Machine.execDecisionFlitSend q s
  | .decision q h payload => Sys2Proof.Machine.execDecision q h payload s
  | .seamEvents q h rest => Sys2Proof.Machine.execSeamEvents q h rest s
  | .seamCommit q h rest => Sys2Proof.Machine.execSeamCommit q h rest s
  | .roundStatus q h rest => Sys2Proof.Machine.execRoundStatus q h rest s
  | .hello q h rest => Sys2Proof.Machine.execHello q h rest s
  | .flitCrcFail q => Sys2Proof.Machine.execFlitCrcFail q s
  | .badKind q cl kind => Sys2Proof.Machine.execBadKind q cl kind s
  | .link q l => Sys2Proof.Machine.execLink q l s
  | .linkDue q => Sys2Proof.Machine.execLinkDue q s
  | .replayTimeout q => Sys2Proof.Machine.execReplayTimeout q s
  | .beacon q h payload => Sys2Proof.Machine.execBeacon q h payload s
  | .beaconDue => Sys2Proof.Machine.execBeaconDue s
  | .beaconTimeout q => Sys2Proof.Machine.execBeaconTimeout q s
  | .rdyChange level => Sys2Proof.Machine.execRdyChange level s
  | .rdReq q h payload => Sys2Proof.Machine.execRdReq q h payload s
  | .wrReq q h payload => Sys2Proof.Machine.execWrReq q h payload s
  | .rsp q h payload => Sys2Proof.Machine.execRsp q h payload s
  | .blkHead q h payload => Sys2Proof.Machine.execBlkHead q h payload s
  | .blkData q h payload => Sys2Proof.Machine.execBlkData q h payload s
  | .descNop p r => Sys2Proof.Machine.execDescNop p r s
  | .loadPeat p r data => Sys2Proof.Machine.execLoadPeat p r data s
  | .loadProg p r data => Sys2Proof.Machine.execLoadProg p r data s
  | .streamAppend p r data => Sys2Proof.Machine.execStreamAppend p r data s
  | .streamAppendContinue p r => Sys2Proof.Machine.execStreamAppendContinue p r s
  | .resultPost p r => Sys2Proof.Machine.execResultPost p r s
  | .descFence p r => Sys2Proof.Machine.execDescFence p r s
  | .timeQuery p r => Sys2Proof.Machine.execTimeQuery p r s
  | .abort p r => Sys2Proof.Machine.execAbort p r s
  | .loadWeights p r data => Sys2Proof.Machine.execLoadWeights p r data s
  | .loadWeightsApply p r => Sys2Proof.Machine.execLoadWeightsApply p r s
  | .loadGraph p r data => Sys2Proof.Machine.execLoadGraph p r data s
  | .readAcc p r => Sys2Proof.Machine.execReadAcc p r s
  | .doorbellPoll p block => Sys2Proof.Machine.execDoorbellPoll p block s
  | .descriptorFetch p r d => Sys2Proof.Machine.execDescriptorFetch p r d s
  | .resultWrite n ok => Sys2Proof.Machine.execResultWrite n ok s
  | .runTimeout p r => Sys2Proof.Machine.execRunTimeout p r s
  | .kick a p => Sys2Proof.Machine.execKick a p s
  | .partitionEnable a p => Sys2Proof.Machine.execPartitionEnable a p s
  | .partitionDisable a p => Sys2Proof.Machine.execPartitionDisable a p s
  | .ringEnable a p r completion v => Sys2Proof.Machine.execRingEnable a p r completion v s
  | .ringDisable a p r completion v => Sys2Proof.Machine.execRingDisable a p r completion v s
  | .hostReset kind => Sys2Proof.Machine.execHostReset kind s
  | .vfFlr k => Sys2Proof.Machine.execVfFlr k s
  | .run p r => Sys2Proof.Machine.execRun p r s
  | .runReady p r => Sys2Proof.Machine.execRunReady p r s
  | .runStart p r => Sys2Proof.Machine.execRunStart p r s
  | .runComplete p r => Sys2Proof.Machine.execRunComplete p r s
  | .registerWrite p off v => Sys2Proof.Machine.execRegisterWrite p off v s
  | .latchingRead p off => Sys2Proof.Machine.execLatchingRead p off s
  | .badAccess p off write => Sys2Proof.Machine.execBadAccess p off write s
  | .debugWindowAccess p w a => Sys2Proof.Machine.execDebugWindowAccess p w a s
  | .snapReq p mask => Sys2Proof.Machine.execSnapReq p mask s
  | .snapCapture p => Sys2Proof.Machine.execSnapCapture p s
  | .snapRelease p => Sys2Proof.Machine.execSnapRelease p s
  | .param p r => Sys2Proof.Machine.execParam p r s
  | .spiWrite cmd off data busy => Sys2Proof.Machine.execSpiWrite cmd off data busy s
  | .spiRead off words busy => Sys2Proof.Machine.execSpiRead off words busy s
  | .spiStatus busy => Sys2Proof.Machine.execSpiStatus busy s
  | .bypass shifted => Sys2Proof.Machine.execBypass shifted s
  | .samplePreload captured shifted => Sys2Proof.Machine.execSamplePreload captured shifted s
  | .extest captured shifted => Sys2Proof.Machine.execExtest captured shifted s
  | .idcode => Sys2Proof.Machine.execIdcode s
  | .clamp shifted => Sys2Proof.Machine.execClamp shifted s
  | .highz shifted => Sys2Proof.Machine.execHighz shifted s
  | .imageCheck j => Sys2Proof.Machine.execImageCheck j s
  | .push p => Sys2Proof.Machine.execPush p s
  | .loadComplete => Sys2Proof.Machine.execLoadComplete s
  | .reboot p => Sys2Proof.Machine.execReboot p s
  | .reload p u => Sys2Proof.Machine.execReload p u s
  | .reloadDone u => Sys2Proof.Machine.execReloadDone u s
  | .scrub es => Sys2Proof.Machine.execScrub es s
  | .csDoubleBitError u => Sys2Proof.Machine.execCsDoubleBitError u s
  | .csSingleBitError u => Sys2Proof.Machine.execCsSingleBitError u s
  | .retainedStoreError u => Sys2Proof.Machine.execRetainedStoreError u s
  | .patchRamError pm => Sys2Proof.Machine.execPatchRamError pm s
  | .modeRequest p target => Sys2Proof.Machine.execModeRequest p target s
  | .calibrationComplete => Sys2Proof.Machine.execCalibrationComplete s
  | .powerGood d => Sys2Proof.Machine.execPowerGood d s
  | .powerGoodTimeout d => Sys2Proof.Machine.execPowerGoodTimeout d s
  | .keepOffWrite p v => Sys2Proof.Machine.execKeepOffWrite p v s
  | .wake src tie => Sys2Proof.Machine.execWake src tie s
  | .pmWake => Sys2Proof.Machine.execPmWake s
  | .pmSafe => Sys2Proof.Machine.execPmSafe s
  | .wakeNEdge => Sys2Proof.Machine.execWakeNEdge s
  | .gpioEdge k => Sys2Proof.Machine.execGpioEdge k s
  | .gpioPulse k => Sys2Proof.Machine.execGpioPulse k s
  | .gpioPulseEnd k => Sys2Proof.Machine.execGpioPulseEnd k s
  | .ilkEdge k low => Sys2Proof.Machine.execIlkEdge k low s
  | .ilkConfigWrite p v => Sys2Proof.Machine.execIlkConfigWrite p v s
  | .safeCauseClear p v => Sys2Proof.Machine.execSafeCauseClear p v s
  | .powerOnReset strap => Sys2Proof.Machine.execPowerOnReset strap s
  | .brownOut => Sys2Proof.Machine.execBrownOut s
  | .coldReset p key => Sys2Proof.Machine.execColdReset p key s
  | .warmReset p key => Sys2Proof.Machine.execWarmReset p key s
  | .poolReset p n => Sys2Proof.Machine.execPoolReset p n s
  | .sedgeReset p => Sys2Proof.Machine.execSedgeReset p s
  | .causewayReset p => Sys2Proof.Machine.execCausewayReset p s
  | .gtimerEnable p g v => Sys2Proof.Machine.execGtimerEnable p g v s
  | .gtimerExpiry g => Sys2Proof.Machine.execGtimerExpiry g s
  | .clockLockLoss d => Sys2Proof.Machine.execClockLockLoss d s
  | .clockRelock d => Sys2Proof.Machine.execClockRelock d s
  | .thermalSample t => Sys2Proof.Machine.execThermalSample t s
  | .pcieLinkUp speed width => Sys2Proof.Machine.execPcieLinkUp speed width s
  | .perstNRelease => Sys2Proof.Machine.execPerstNRelease s

end Sys2Proof.Machine
end

