-- ==== Sys2Proof/Safety.lean ====
section
/-!
DEFINITION. What claims about runs are stated in: the pieces of the state, what a command leaves unchanged, and the
canonical form of the stores.
-/
namespace Sys2Proof.Machine

/-- The pieces of the state: one per field of `State`. -/
inductive Piece
  | pending
  | part
  | regs
  | latches
  | out
  | faultLog
  | freeIdx
  | tm
  | tmPorts
  | tpos
  | ppsStage
  | ic
  | fen
  | segStage
  | chains
  | sbufs
  | markers
  | filters
  | peat
  | dmem
  | imem
  | cores
  | armed
  | cw
  | esqTx
  | esqRx
  | sdg
  | tones
  | lines
  | weights
  | fifos
  | slu
  | dpw
  | runs
  | sqs
  | cqs
  | parts
  | fetches
  | roEver
  | sec
  | pm
  | pages
  | snaps
  | jtag
  | spi
  deriving DecidableEq, Repr

/-- The number of a piece: its place among the fields of `State`. -/
def Piece.index : Piece → Nat
  | .pending => 0
  | .part => 1
  | .regs => 2
  | .latches => 3
  | .out => 4
  | .faultLog => 5
  | .freeIdx => 6
  | .tm => 7
  | .tmPorts => 8
  | .tpos => 9
  | .ppsStage => 10
  | .ic => 11
  | .fen => 12
  | .segStage => 13
  | .chains => 14
  | .sbufs => 15
  | .markers => 16
  | .filters => 17
  | .peat => 18
  | .dmem => 19
  | .imem => 20
  | .cores => 21
  | .armed => 22
  | .cw => 23
  | .esqTx => 24
  | .esqRx => 25
  | .sdg => 26
  | .tones => 27
  | .lines => 28
  | .weights => 29
  | .fifos => 30
  | .slu => 31
  | .dpw => 32
  | .runs => 33
  | .sqs => 34
  | .cqs => 35
  | .parts => 36
  | .fetches => 37
  | .roEver => 38
  | .sec => 39
  | .pm => 40
  | .pages => 41
  | .snaps => 42
  | .jtag => 43
  | .spi => 44

/-- A piece of two states is the same. -/
def Piece.same (s t : State) : Piece → Prop
  | .pending => t.pending = s.pending
  | .part => t.part = s.part
  | .regs => t.regs = s.regs
  | .latches => t.latches = s.latches
  | .out => t.out = s.out
  | .faultLog => t.faultLog = s.faultLog
  | .freeIdx => t.freeIdx = s.freeIdx
  | .tm => t.tm = s.tm
  | .tmPorts => t.tmPorts = s.tmPorts
  | .tpos => t.tpos = s.tpos
  | .ppsStage => t.ppsStage = s.ppsStage
  | .ic => t.ic = s.ic
  | .fen => t.fen = s.fen
  | .segStage => t.segStage = s.segStage
  | .chains => t.chains = s.chains
  | .sbufs => t.sbufs = s.sbufs
  | .markers => t.markers = s.markers
  | .filters => t.filters = s.filters
  | .peat => t.peat = s.peat
  | .dmem => t.dmem = s.dmem
  | .imem => t.imem = s.imem
  | .cores => t.cores = s.cores
  | .armed => t.armed = s.armed
  | .cw => t.cw = s.cw
  | .esqTx => t.esqTx = s.esqTx
  | .esqRx => t.esqRx = s.esqRx
  | .sdg => t.sdg = s.sdg
  | .tones => t.tones = s.tones
  | .lines => t.lines = s.lines
  | .weights => t.weights = s.weights
  | .fifos => t.fifos = s.fifos
  | .slu => t.slu = s.slu
  | .dpw => t.dpw = s.dpw
  | .runs => t.runs = s.runs
  | .sqs => t.sqs = s.sqs
  | .cqs => t.cqs = s.cqs
  | .parts => t.parts = s.parts
  | .fetches => t.fetches = s.fetches
  | .roEver => t.roEver = s.roEver
  | .sec => t.sec = s.sec
  | .pm => t.pm = s.pm
  | .pages => t.pages = s.pages
  | .snaps => t.snaps = s.snaps
  | .jtag => t.jtag = s.jtag
  | .spi => t.spi = s.spi

/-- Nothing but the listed pieces of the state changes. -/
def State.Frame (changed : List Piece) (s t : State) : Prop := ∀ p, p ∉ changed → p.same s t

/-- No register changes but those at the listed BAR0 offsets. -/
def State.OnlyRegs (offs : List Nat) (s t : State) : Prop := ∀ off, off ∉ offs → t.reg off = s.reg off

/-- The offset of a register of the host interrupt controller that changes when a source becomes pending: IC_COUNT, and the
registers IC_PEND_w, IC_RAW_w and IC_DISARMED_x. -/
def icOffset (off : Nat) : Prop := off = 0x2400010 ∨ (0x2400300 ≤ off ∧ off < 0x2400400)

/-- No register changes but those at the listed offsets and those that a pending host interrupt source changes. -/
def State.OnlyRegsIc (offs : List Nat) (s t : State) : Prop :=
  ∀ off, off ∉ offs → ¬ icOffset off → t.reg off = s.reg off

/-- Two sparse stores read the same at every key but the listed ones. -/
def OnlyKeys {α : Type} (d : Nat → α) (keys : List Nat) (m m' : SMap α) : Prop :=
  ∀ k, k ∉ keys → SMap.get d m' k = SMap.get d m k

/-- The command completes from a state: it answers a next state, and that state is as said. -/
def Completes (i : Instr) (s : State) (post : State → Prop) : Prop := ∃ t, exec i s = .next t ∧ post t

/-- Every sparse store of the state has its canonical form: keys strictly rising, and no entry equal to what its key reads
as when it is not listed. -/
structure State.Canonical (s : State) : Prop where
  regs : SMap.wf regReset s.regs = true
  latches : SMap.wf (fun _ => 0) s.latches = true
  tmPorts : SMap.wf (fun _ => {}) s.tmPorts = true
  tpos : SMap.wf (fun _ => {}) s.tpos = true
  ppsStage : SMap.wf (fun _ => 0) s.ppsStage = true
  segStage : SMap.wf (fun _ => 0) s.segStage = true
  chains : SMap.wf (fun _ => {}) s.chains = true
  sbufs : SMap.wf (fun _ => {}) s.sbufs = true
  markers : SMap.wf (fun _ => {}) s.markers = true
  filters : SMap.wf (fun _ => {}) s.filters = true
  peat : SMap.wf blank s.peat = true
  dmem : SMap.wf blank s.dmem = true
  imem : SMap.wf unloaded s.imem = true
  cores : SMap.wf (fun _ => {}) s.cores = true
  armed : SMap.wf (fun _ => []) s.armed = true
  cw : SMap.wf (fun _ => {}) s.cw = true
  esqTx : SMap.wf (fun _ => 0) s.esqTx = true
  esqRx : SMap.wf (fun _ => 0) s.esqRx = true
  tones : SMap.wf (fun _ => {}) s.tones = true
  lines : SMap.wf (fun _ => {}) s.lines = true
  weights : SMap.wf (fun _ => 0) s.weights = true
  fifos : SMap.wf (fun _ => []) s.fifos = true
  slu : SMap.wf (fun _ => {}) s.slu = true
  sqs : SMap.wf (fun _ => {}) s.sqs = true
  cqs : SMap.wf (fun _ => {}) s.cqs = true
  parts : SMap.wf (fun _ => {}) s.parts = true
  pages : SMap.wf (fun _ => 0) s.pages = true
  snaps : SMap.wf (fun _ => {}) s.snaps = true

/-! ### A Reed core -/

/-- A core stands before a bundle that it may issue: ready, not held by DBG_HALT, no bundle half taken, and the bundle lies
inside the loaded ones. -/
def State.canOpen (s : State) (c : Nat) : Bool :=
  s.coreReady c && !s.dbgHalted c && !(s.core c).half && Decidable.decide ((s.core c).post = {}) &&
    Decidable.decide (s.pc c < s.fld (fRC_i_IMG_NBUNDLE (c / 4) (c % 4)))

/-- A core may take a T-slot operation: it joins a bundle whose D-slot leaves nothing to EX1, or opens one. -/
def State.canJoin (s : State) (c : Nat) (long : Bool) : Bool :=
  s.coreReady c && !s.dbgHalted c && Decidable.decide ((s.core c).post = {}) &&
    (if (s.core c).half then !long else Decidable.decide (s.pc c < s.fld (fRC_i_IMG_NBUNDLE (c / 4) (c % 4))))

/-- No delay slot is left and no loop is active. -/
def State.flat (s : State) (c : Nat) : Bool :=
  (s.core c).delay.isNone && (List.range 3).all (fun l => (s.core c).file (idLC l) == 0)

/-- A result of the bundle in progress to a register, in the bank in force, which bundles see from `lat` bundles later on;
g0 discards it (R169, R173). -/
def State.result (s : State) (c lat id v : Nat) : List InFlight :=
  if id = 0 then []
  else [{ bundle := (s.core c).no, due := (s.core c).no + lat, key := bankKey (s.level c) id, val := v % 2 ^ regWidth id }]

/-- The setting of SAT where an operation saturates. -/
def State.saturates (s : State) (c : Nat) (b : Bool) : List InFlight := if b then s.result c 2 idSat 1 else []

/-- The D-slot of a bundle has been taken: its core's record is as given, and nothing else has changed. -/
def State.Opened (s t : State) (c : Nat) (k : Core) : Prop :=
  t.core c = { k with half := true } ∧ (∀ c', c' ≠ c → t.core c' = s.core c') ∧ State.Frame [.cores] s t

/-- A bundle has ended from a record of its core: results that are due are written, the bundle counts, the next bundle is
`next`, and beyond the core's record and the listed registers nothing has changed. -/
def State.Closed (s t : State) (c : Nat) (k : Core) (next : Nat) (offs : List Nat := []) : Prop :=
  t.core c = { k with
    regs := Sys2Proof.Machine.retire k.regs (k.flight.filter (·.due ≤ k.no)), flight := k.flight.filter (k.no < ·.due)
    no := k.no + 1, half := false, post := {} } ∧
  t.pc c = next % 2 ^ 14 ∧ (∀ c', c' ≠ c → t.core c' = s.core c') ∧ State.Frame [.cores, .regs] s t ∧
  State.OnlyRegs (rRC_i_PC (c / 4) (c % 4) :: offs) s t

/-- A D-slot operation has put its results on their way: in format DI the bundle ends with it. -/
def State.DResult (s t : State) (c : Nat) (imm : Bool) (rs : List InFlight) : Prop :=
  let k : Core := { s.core c with flight := (s.core c).flight ++ rs }
  if imm then State.Closed s t c k (s.pc c + 1) else State.Opened s t c k

/-- `e` bits below the sign bit equal it, counted down from the top until the first that differs (R215). -/
def countsRedundant {w : Nat} (x : BitVec w) (e : Nat) : Prop :=
  e < w ∧ (∀ i < e, x.getLsbD (w - 2 - i) = x.msb) ∧ (e + 1 < w → x.getLsbD (w - 2 - e) ≠ x.msb)

/-- The core has stopped on a fault of its bundle: it is FAULTED, and the code is raised. -/
def State.Faulted (s t : State) (c code : Nat) : Prop :=
  t.rcState c = rcFaulted ∧ t.faultLog = s.faultLog ++ [code] ∧ (t.core c).queue = (s.core c).queue ∧
  (t.core c).half = false ∧ (t.core c).flight = [] ∧ t.dmem = s.dmem ∧ t.pc c = s.pc c

/-- The pipeline of a core is in order: only a bundle half taken leaves work to EX1, and one result at most; results to one
register come due in the order of their issue, and none is due more than three bundles after its own. -/
structure Core.Tidy (k : Core) : Prop where
  idle : k.half = false → k.post = {}
  single : k.post.rdft = none ∨ k.post.stRead = none
  ordered : k.flight.Pairwise (fun f g => f.key = g.key → f.due ≤ g.due)
  ahead : ∀ f ∈ k.flight, f.due ≤ k.no + (if k.half && k.post.rdft.isNone && k.post.stRead.isNone then 3 else 2)

/-! ### Faults and flits -/

/-- The fault code has been raised, after what stood in the log before. -/
def State.Raises (s t : State) (code : Nat) : Prop := ∃ l, t.faultLog = s.faultLog ++ l ∧ code ∈ l

/-- A class 0 flit that port p of an ACTIVE link hands to this device, in the order of its source (R300). -/
def State.arrivesC0 (s : State) (p : Nat) (f : Flit) : Bool :=
  s.portActive p && !s.flitOwn f && s.flitHere f &&
    (!s.flag fCW_STATUS_ENABLED || !s.trackedSources.contains f.src ||
      Decidable.decide (SMap.get (fun _ => 0) s.esqRx f.src = 0 ∨ SMap.get (fun _ => 0) s.esqRx f.src = f.seq + 1))

/-- A flit of classes 1–3 that port p accepts and hands to this device (R305). -/
def State.arrives (s : State) (p : Nat) (f : Flit) : Bool :=
  s.portActive p && !s.flitOwn f && s.flitHere f && f.seq == (s.cwPort p).rxExp

/-- Port p has nothing to send and every credit, so that a flit queued there goes at once (R304, R305). -/
def State.clearToSend (s : State) (p : Nat) : Bool :=
  s.portActive p && Decidable.decide ((s.cwPort p).queue = [] ∧ (s.cwPort p).packet = none ∧
    (s.cwPort p).unacked.length < 256 ∧ (s.cwPort p).used = (s.cwPort p).credRx)

/-- Port p has sent one flit of classes 1–3, with its next LSEQ, and nothing else has changed. -/
def State.Sent (w t : State) (p : Nat) (f : Flit) : Prop :=
  t.out = w.out ++ [.flit p (Flit.bits { f with seq := (w.cwPort p).txSeq })] ∧
  (t.cwPort p).unacked = (w.cwPort p).unacked ++ [{ f with seq := (w.cwPort p).txSeq }] ∧
  (t.cwPort p).txSeq = ((w.cwPort p).txSeq + 1) % 1024 ∧ (∀ q, q ≠ p → t.cwPort q = w.cwPort q) ∧
  State.Frame [.cw, .out] w t

/-- The answer to a remote request (R306). -/
def State.rspFlit (s : State) (src : Nat) (loc : Bool) (data : Word) (tag status : Nat) : Flit := {
  cl := 2, kind := 2, dest := src, src := s.nodeId, seq := 0, loc := loc, eop := true, vc := 0,
  payload := rspPayload data tag status }

/-- Port q carries the answer to a request of a node that came in on port p: port p itself where the request was LOCAL, else
the port of an exception entry for that node (R306, R308). -/
def State.answersOn (s : State) (p q src : Nat) (loc : Bool) : Prop :=
  s.clearToSend q = true ∧ if loc = true then q = p
    else s.flag fCW_STATUS_ENABLED = true ∧ s.route src = .port q none false

/-! ### Descriptors -/

/-- The host address of the next record of a completion ring (R326). -/
def State.recordAt (s : State) (p cq : Nat) : Nat :=
  s.reg64 (rBW_Pp_CQr_BASE_L p cq) +
    32 * (s.regN (rBW_Pp_CQr_TAIL p cq) % Nat.max 1 (s.fld (fBW_Pp_CQr_SIZE_ENTRIES p cq)))

/-- A fetched descriptor with an opcode waits to be processed, its record can be written, and no other ring of the partition
has a descriptor in progress. -/
def State.descReady (s : State) (p r opc : Nat) (d : Desc) : Prop :=
  s.bwRuns = true ∧ s.partOn p = true ∧ (s.sq p r).cur = some d ∧ d.opc = opc ∧ d.phase = .fetched ∧
  (s.cq p d.cq).on = true ∧ d.cq < 8 ∧ s.flag (fBW_Pp_CQr_STATUS_ERR p d.cq) = false ∧
  ∀ q < 8, q ≠ r → (s.sq p q).cur = none

/-- The descriptor of a ring has completed from a state with a record: it is written at the ring's next slot unless QUIET keeps
it back, the reserved slot is used or released, and beyond the record nothing has changed. -/
def State.Completed (w t : State) (p r : Nat) (d : Desc) (c : Completion) : Prop :=
  let quiet : Prop := bitOf d.flg 1 = true ∧ c.status = 0
  (∃ l, t.out = w.out ++ l ∧ (¬ quiet → Output.hostWrite (w.recordAt p d.cq) (c.bytes d.seq) ∈ l)) ∧
  (¬ quiet → t.regN (rBW_Pp_CQr_TAIL p d.cq) = (w.regN (rBW_Pp_CQr_TAIL p d.cq) + 1) % 2 ^ 32) ∧
  (quiet → t.regN (rBW_Pp_CQr_TAIL p d.cq) = w.regN (rBW_Pp_CQr_TAIL p d.cq)) ∧
  t.fld (fBW_Pp_CQr_STATUS_RESERVED_SLOTS p d.cq) = w.fld (fBW_Pp_CQr_STATUS_RESERVED_SLOTS p d.cq) - 1 ∧
  (c.status ≠ 4 → t.faultLog = w.faultLog) ∧ t.sq p r = { w.sq p r with cur := none } ∧
  (∀ k, k ≠ 8 * p + r → SMap.get (fun _ => {}) t.sqs k = SMap.get (fun _ => {}) w.sqs k) ∧
  State.Frame [.regs, .out, .ic, .sqs, .faultLog] w t ∧
  State.OnlyRegsIc [rBW_Pp_CQr_STATUS p d.cq, rBW_Pp_COUNT p, rBW_Pp_CQr_TAIL p d.cq, rBW_FAULT] w t

/-- The record of a descriptor that completes with STATUS OK, and of one that is refused. -/
def State.okRecord (s : State) (d : Desc) (steps : Nat) : Completion := { steps := steps, launch := d.began, endT := s.stamp }
def State.refusedRecord (s : State) (d : Desc) (why : Nat) : Completion := {
  status := 2, reason := why, launch := d.began, endT := s.stamp }

/-! ### Host interrupts -/

/-- Source x alone is pending and unmasked, and its PF0 vector can send at once: the controller is enabled and not gated, its
group's hold-off does not run, the vector is armed, and no MSI-X mask holds its message (R352, R356). -/
def State.soleReady (s : State) (x ix : Nat) : Prop :=
  s.flag fIC_STATUS_ENABLED = true ∧ s.flag fIC_GATE_GATE = false ∧ s.ic.holdOff.getLsbD (x / 16) = false ∧ x < 512 ∧
  s.icAsserting x = true ∧ s.icVector x = ix ∧ ix < 256 ∧ s.icDisarmed ix = false ∧ s.msixHeld ix = false ∧
  ∀ y < 512, y ≠ x → s.icAsserting y = false

/-- The message of a vector of source x has been sent: the vector is disarmed, MSGS counts, and the hold-off of its group runs
unless it is 0. -/
def State.Messaged (s t : State) (x ix : Nat) : Prop :=
  t.out = s.out ++ [.msix ix] ∧ t.icDisarmed ix = true ∧
  t.fld fIC_COUNT_MSGS = (s.fld fIC_COUNT_MSGS + 1) % 65536 ∧ t.icPending x = true ∧
  t.ic.holdOff.getLsbD (x / 16) = Decidable.decide (s.fld (fIC_HOLD_g_HOLD (x / 16)) ≠ 0)

/-- The controller sends nothing now: it is disabled, or gated, or no source asserts its vector. -/
def State.icSilent (s : State) : Prop :=
  s.flag fIC_STATUS_ENABLED = false ∨ s.flag fIC_GATE_GATE = true ∨ ∀ x < 512, s.icAsserting x = false

/-! ### Sluice and Dipwell -/

/-- Channel c has entered ZEROING: its target is 0, and the first step moves its output toward 0 by at most FAULT_STEP codes; at
code 0 the channel is in the state `dest` (R369, R371). -/
def State.ZeroEntered (s t : State) (c dest : Nat) : Prop :=
  t.chTarget c = 0 ∧
  ((s.chOut c).natAbs ≤ s.fld (fSLU_CHc_CFG_FAULT_STEP c) → t.chOut c = 0 ∧ t.chState c = dest) ∧
  (s.fld (fSLU_CHc_CFG_FAULT_STEP c) < (s.chOut c).natAbs → t.chState c = chZeroing ∧
    t.chOut c = s.chOut c - (s.chOut c).sign * s.fld (fSLU_CHc_CFG_FAULT_STEP c))

/-- A strobe of load group g has made one transfer (R363, R364, R367 to R369), and triggers the delayed conversions that name the
group (R377). -/
def State.Transferred (s t : State) (g : Nat) : Prop :=
  t.fld (fSLU_Gg_COUNT_LOADS g) = (s.fld (fSLU_Gg_COUNT_LOADS g) + 1) % 65536 ∧
  t.fld (fSLU_Gg_COUNT_IGNORED g) = s.fld (fSLU_Gg_COUNT_IGNORED g) ∧
  (∀ c < 256, t.chOut c = s.chOut c ∧ t.reg (rSLU_CHc_CODE c) = s.reg (rSLU_CHc_CODE c) ∧
    (c / 16 ≠ g → t.chTarget c = s.chTarget c ∧ t.chState c = s.chState c ∧
      t.reg (rSLU_CHc_COUNT c) = s.reg (rSLU_CHc_COUNT c)) ∧
    (c / 16 = g →
      (s.chState c = chOpen → (s.sluCh c).on = true →
        t.chTarget c = s.fldS (fSLU_CHc_CODE_CODE c) ∧ t.chState c = chClosing) ∧
      (s.chState c = chOpen → (s.sluCh c).on = false → t.chTarget c = s.chTarget c ∧ t.chState c = chOpen) ∧
      (s.chState c ∈ [chClosing, chConnected] →
        t.chTarget c = s.fldS (fSLU_CHc_CODE_CODE c) ∧ t.chState c = s.chState c) ∧
      (s.chState c = chRanging → t.chTarget c = s.chTarget c ∧ t.chState c = chRanging ∧
        t.fld (fSLU_CHc_COUNT_RANGE_HELD c) = min (s.fld (fSLU_CHc_COUNT_RANGE_HELD c) + 1) 255) ∧
      (s.chState c ∈ [chZeroing, chFaulted] → t.chTarget c = s.chTarget c ∧ t.chState c = s.chState c))) ∧
  (∀ k < 2,
    let named : Prop := s.fld (fDPW_Cc_DLY_CFG_TRIG k) = 2 ∧ s.fld (fDPW_Cc_DLY_CFG_GROUP k) = g ∧
      s.flag fDPW_STATUS_ENABLED = true
    (named → (s.conv k).cal = false → (s.conv k).dly = none →
      t.conv k = { s.conv k with dly := some (s.fld (fDPW_Cc_DLY_CFG_COUNT k) + 1), dlyDue := false }) ∧
    (named → ((s.conv k).cal = true ∨ (s.conv k).dly ≠ none) → t.conv k = s.conv k ∧
      t.fld (fDPW_Cc_COUNT_DLY_DROP k) = min (s.fld (fDPW_Cc_COUNT_DLY_DROP k) + 1) 255) ∧
    (¬ named → t.conv k = s.conv k ∧ t.reg (rDPW_Cc_COUNT k) = s.reg (rDPW_Cc_COUNT k))) ∧
  t.slu = s.slu ∧ State.Frame [.regs, .dpw, .fen] s t

/-- A conversion of input i has been added to its accumulators (R373). -/
def State.Converted (s t : State) (i : Nat) (d : BitVec 16) : Prop :=
  let n := s.regN (rDPW_ACC_i_COUNT i)
  let held (u : State) (off : Nat) : Int := s.reading i (BitVec.ofNat 16 (u.regN off))
  (n < 0xFFFFFFFF → t.regN (rDPW_ACC_i_COUNT i) = n + 1 ∧
    (t.accSum i : Int) = ((s.accSum i : Int) + s.reading i d) % 2 ^ 48) ∧
  (n = 0xFFFFFFFF → t.regN (rDPW_ACC_i_COUNT i) = n ∧ t.accSum i = s.accSum i) ∧
  (n = 0 → t.regN (rDPW_ACC_i_MIN i) = d.toNat ∧ t.regN (rDPW_ACC_i_MAX i) = d.toNat) ∧
  (n ≠ 0 → held t (rDPW_ACC_i_MIN i) = min (held s (rDPW_ACC_i_MIN i)) (s.reading i d) ∧
    held t (rDPW_ACC_i_MAX i) = max (held s (rDPW_ACC_i_MAX i)) (s.reading i d))

/-- The offsets of the accumulators of input i that a conversion changes. -/
def accOffsets (i : Nat) : List Nat :=
  [rDPW_ACC_i_SUM_L i, rDPW_ACC_i_SUM_H i, rDPW_ACC_i_COUNT i, rDPW_ACC_i_MIN i, rDPW_ACC_i_MAX i]

/-- Converter k has one item due in the next slot, the other none, and the slot earns no credit and no cross-check runs. -/
def State.slotOf (s : State) (k : Nat) (x : SlotItem) : Prop :=
  s.pdOn 9 = true ∧ s.dpwRuns = true ∧ (s.dpw.slots + 1) % 4 ≠ 0 ∧ s.dpw.xchk = false ∧ k < 2 ∧
  s.slotItem k = x ∧ s.slotItem (1 - k) = .none ∧ (s.conv (1 - k)).credit = 0

/-! ### Boot and power -/

/-- No RUN and no descriptor is in progress, and no Sedge session: a change of mode or a unit reset has none of them to end. -/
def State.calm (s : State) : Prop :=
  s.runs = [] ∧ (∀ p r, (s.sq p r).cur = none) ∧ s.fld fSDG_STATUS_STATE = 0

/-- A mode in which no timed output plays and SAFE is entered at once. -/
def State.safeReady (s : State) : Prop :=
  s.calm ∧ s.mode ∈ [modeConfig, modeCalibrate, modeReady] ∧ s.flag fPM_STATUS_TRANSITION = false

/-- SAFE has been entered with a cause (R370, R439, R441): the cause bits are set, the first cause and the entry are recorded, cores
that ran are STOPPED, and every CONNECTED Sluice channel has entered ZEROING. -/
def State.SafeEntered (s t : State) (causes : List Fld) (code : Nat) : Prop :=
  t.mode = modeSafe ∧ t.fld fPM_STATUS_PREV_MODE = s.mode ∧ (∀ f ∈ causes, t.flag f = true) ∧
  t.fld fPM_SAFE_CAUSE_FIRST = (if s.anyCause then s.fld fPM_SAFE_CAUSE_FIRST else code) ∧
  t.fld fPM_SAFE_COUNT_ENTRIES = min (s.fld fPM_SAFE_COUNT_ENTRIES + 1) 65535 ∧ State.Raises s t code ∧
  (∀ c < 256, s.chState c = chConnected → (s.sluCh c).toOpen = false → (s.sluCh c).toFault = false →
    State.ZeroEntered s t c chConnected) ∧
  (∀ n < 16, s.poolPowered n = true → ∀ i < 4, t.rcState (4 * n + i) =
    (if s.rcState (4 * n + i) ∈ [rcRunning, rcHalting, rcHalted] then rcStopped else s.rcState (4 * n + i)))

/-- A wake source has been recorded, and an exit from a sleep mode to `m` has begun (R418, R419). -/
def State.WakeBegins (s t : State) (src m : Nat) : Prop :=
  bitOf (t.regN rPM_WAKE_CAUSE) src = true ∧ t.flag fPM_STATUS_TRANSITION = true ∧ t.mode = s.mode ∧
  t.pm.target = some m ∧ t.pm.todo = ({ s with pm := { s.pm with retry := true } }).pdWanted m

/-- A wake source has been latched while a sleep mode is entered (R419). -/
def State.WakeLatched (s t : State) (src : Nat) : Prop :=
  bitOf (t.regN rPM_WAKE_CAUSE) src = true ∧ t.pm = { s.pm with woken := true } ∧ t.mode = s.mode

end Sys2Proof.Machine

namespace Sys2Proof

/-- The core whose next bundle an operation begins: a D-slot or control-flow operation, or a long T-slot operation (R204). -/
def Instr.opens : Instr → Option (Fin 64)
  | .nop c => some c
  | .add c _ _ _ => some c
  | .sub c _ _ _ => some c
  | .adds c _ _ _ => some c
  | .subs c _ _ _ => some c
  | .and c _ _ _ => some c
  | .or c _ _ _ => some c
  | .xor c _ _ _ => some c
  | .shl c _ _ _ => some c
  | .shr c _ _ _ => some c
  | .sar c _ _ _ => some c
  | .min c _ _ _ => some c
  | .max c _ _ _ => some c
  | .cmp c _ _ => some c
  | .mul c _ _ _ => some c
  | .addi c _ _ _ => some c
  | .shli c _ _ _ => some c
  | .shri c _ _ _ => some c
  | .sari c _ _ _ => some c
  | .cmpi c _ _ => some c
  | .andi c _ _ _ => some c
  | .mov c _ _ => some c
  | .modp c _ _ => some c
  | .exp c _ _ _ => some c
  | .norm c _ _ _ => some c
  | .shc c _ _ _ => some c
  | .ldW c _ _ _ => some c
  | .ldH c _ _ _ => some c
  | .ldHu c _ _ _ => some c
  | .stW c _ _ _ => some c
  | .stH c _ _ _ => some c
  | .ld2 c _ _ _ _ _ _ => some c
  | .ldst c _ _ _ _ _ _ => some c
  | .rddec c _ _ _ => some c
  | .rdft c _ _ => some c
  | .cmac c _ _ _ => some c
  | .cmacj c _ _ _ => some c
  | .cmul c _ _ _ => some c
  | .cmulj c _ _ _ => some c
  | .cmsu c _ _ _ => some c
  | .crnd c _ _ _ => some c
  | .cget c _ _ _ => some c
  | .cput c _ _ _ => some c
  | .cclr c _ => some c
  | .cadd c _ _ _ => some c
  | .bfly c _ _ _ _ _ => some c
  | .bstg c => some c
  | .illegalBundle c => some c
  | .br c _ _ => some c
  | .brr c _ => some c
  | .call c _ _ => some c
  | .callr c _ => some c
  | .ret c _ => some c
  | .loop c _ _ _ => some c
  | .brk c _ _ _ => some c
  | .reti c => some c
  | .halt c => some c
  | .swi c => some c
  | .ien c _ _ => some c
  | .tnop c true => some c
  | .play c _ (.long _ _) => some c
  | .cplay c _ (.long _ _) => some c
  | .frame c _ (.long _ _) => some c
  | .framea c _ (.long _ _) => some c
  | .freq c _ (.long _ _) => some c
  | .freqp c _ (.long _ _) => some c
  | .amp c _ (.long _ _) => some c
  | .win c _ (.long _ _) => some c
  | .mark c _ (.long _ _) => some c
  | .jump c _ (.long _ _) => some c
  | .trig c _ (.long _ _) => some c
  | .wait c (.long _) => some c
  | .sync c (.long _) => some c
  | .fence c true => some c
  | _ => none

end Sys2Proof
end

