-- ==== Sys2Proof/Certificates/Slice0/Obligations.lean ====
section
/-!
DEFINITION. The statements for the provers.

A statement about a command says in its conclusion that the command answers a next state and what that state holds
(`Completes`). Where a command is a register write, the hypothesis `mayWrite` says that its unit carries the write out (R7,
R321, R396, R404, R450).
-/
open Sys2Proof Sys2Proof.Machine


/-! ### Fabric time -/

/-- R42, R43, R53, R63 (02_fabric_time.md): writes of TM_CTRL and of an asymmetry entry. Enabling a root starts its time at
TM_ROOT_INIT, enabling a child begins ACQUIRE, disabling gives IDLE; a new parent port, and a loss of exchanges, put a child in
TRACK into HOLDOVER with FAULT 0x0B02; ASYM_ACK, or a write of the entry in use, confirms the quality. -/
def Obligations.TimeUnitControlMovesServoState : Prop :=
  (∀ (p : Path) (v : Word) (s : State), s.mayWrite p rTM_CTRL = true → s.tm.enabled = false → s.modeOpen = true →
    s.flag fTM_STATUS_REF_LOCK = true → 100000 ≤ s.fld fTM_REF_FREQ_FREQ_KHZ → s.fld fTM_REF_FREQ_FREQ_KHZ ≤ 500000 →
    8 ≤ s.fld fTM_CFG_REMEAS_N → 4 ≤ s.fld fTM_CFG_LOSS_N →
    (v.getLsbD 1 = true → Completes (.tmEnable p v) s fun t =>
      t.tm.enabled = true ∧ t.flag fTM_CTRL_ENABLE = true ∧ t.fld fTM_STATUS_STATE = 1 ∧ t.fld fTM_STATUS_QUALITY = 3 ∧
      t.fld fTM_STATUS_HOPS = 0 ∧ t.fld fTM_ROOT_ROOT_ID = s.fld fCW_NODE_ID ∧
      t.tm.ft = BitVec.ofNat 80 (s.regN rTM_ROOT_INIT_L + 2 ^ 32 * s.regN rTM_ROOT_INIT_M + 2 ^ 64 * s.regN rTM_ROOT_INIT_H) ∧
      t.flag fTM_STATUS_REFUSED = false ∧ t.fld fTM_STATUS_REASON = 0) ∧
    (v.getLsbD 1 = false → s.portPresent (fieldOf v 6 4) = true → Completes (.tmEnable p v) s fun t =>
      t.tm.enabled = true ∧ t.flag fTM_CTRL_ENABLE = true ∧ t.fld fTM_STATUS_STATE = 2 ∧ t.fld fTM_STATUS_QUALITY = 0 ∧
      t.fld fTM_CTRL_PARENT_PORT = fieldOf v 6 4 ∧ t.tm.exchanges = 0 ∧ t.tm.ft = s.tm.ft ∧
      t.flag fTM_STATUS_REFUSED = false ∧ t.fld fTM_STATUS_REASON = 0)) ∧
  (∀ (p : Path) (s : State), s.mayWrite p rTM_CTRL = true → s.tm.enabled = true →
    Completes (.tmDisable p) s fun t =>
      t.tm.enabled = false ∧ t.flag fTM_CTRL_ENABLE = false ∧ t.fld fTM_STATUS_STATE = 0 ∧ t.fld fTM_STATUS_QUALITY = 0 ∧
      t.tm.ft = s.tm.ft) ∧
  (∀ (p : Path) (port : Fin 8) (s : State), s.mayWrite p rTM_CTRL = true → s.tm.enabled = true →
    s.flag fTM_CTRL_ENABLE = true → s.flag fTM_CTRL_ROLE = false → s.fld fTM_STATUS_STATE = 3 →
    s.fld fTM_CTRL_PARENT_PORT ≠ port.val → Completes (.parentPortWrite p port) s fun t =>
      t.fld fTM_CTRL_PARENT_PORT = port.val ∧ t.fld fTM_STATUS_STATE = 4 ∧ t.fld fTM_STATUS_QUALITY = 1 ∧
      t.faultLog = s.faultLog ++ [0x0B02] ∧ t.tm.exchanges = 0 ∧
      t.fld fTM_COUNT_HOLDOVER_COUNT = min (s.fld fTM_COUNT_HOLDOVER_COUNT + 1) 255 ∧ t.tm.ft = s.tm.ft) ∧
  (∀ s : State, s.tm.enabled = true → s.flag fTM_CTRL_ROLE = false → s.fld fTM_STATUS_STATE = 3 →
    Completes .lossTimeout s fun t =>
      t.fld fTM_STATUS_STATE = 4 ∧ t.fld fTM_STATUS_QUALITY = 1 ∧ t.faultLog = s.faultLog ++ [0x0B02] ∧ t.tm.exchanges = 0 ∧
      t.fld fTM_COUNT_HOLDOVER_COUNT = min (s.fld fTM_COUNT_HOLDOVER_COUNT + 1) 255 ∧ t.tm.ft = s.tm.ft) ∧
  (∀ (p : Path) (s : State), s.mayWrite p rTM_CTRL = true → s.tm.enabled = true → s.flag fTM_CTRL_ENABLE = true →
    s.fld fTM_STATUS_STATE = 3 → s.fld fTM_STATUS_QUALITY = 2 → Completes (.asymAck p) s fun t =>
      t.fld fTM_STATUS_QUALITY = 3 ∧ t.fld fTM_STATUS_STATE = 3 ∧ t.tm = s.tm ∧
      t.fen.presented = s.fen.presented ++ [0x312]) ∧
  (∀ (p : Path) (q : Fin 8) (i : Fin 16) (v : Word) (s : State), s.mayWrite p (rTM_ASYMp_i q.val i.val) = true →
    Completes (.asymWrite p q i v) s fun t =>
      t.reg (rTM_ASYMp_i q.val i.val) = v ∧ t.tm = s.tm ∧
      t.fld fTM_STATUS_QUALITY =
        (if s.tm.enabled = true ∧ s.flag fTM_CTRL_ROLE = false ∧ s.fld fTM_CTRL_PARENT_PORT = q.val ∧
            s.fld (fCW_Pp_STATUS_LANES q.val) = i.val ∧ s.fld fTM_STATUS_STATE = 3 ∧ s.fld fTM_STATUS_QUALITY = 2
          then 3 else s.fld fTM_STATUS_QUALITY))

/-- R43, R44, R46, R52 (02_fabric_time.md): what a received TIME flit does. A flit that names another root changes no time; an
exchange on the parent port that is not valid is counted; the valid exchange that completes REMEAS_N in ACQUIRE, in a mode that
allows steps, sets fabric time so that the offset is zero and enters TRACK. The rounding of the step to 2⁻¹⁶ tick is open. -/
def Obligations.TimeFlitMovesTimeOnlyOnValidExchange : Prop :=
  ∀ (q : Fin 8) (f : TimeFlit) (rx : BitVec 80) (s : State), s.portActive q.val = true → s.pdOn 7 = true →
    (s.tm.rootKnown = true → f.rootId.toNat ≠ s.fld fTM_ROOT_ROOT_ID → Completes (.time q f rx) s fun t =>
      t.flag fTM_ROOT_ROOT_MISMATCH = true ∧ t.faultLog = s.faultLog ++ [0x0B04] ∧ t.tm = s.tm ∧
      t.fld fTM_STATUS_STATE = s.fld fTM_STATUS_STATE ∧ t.fld fTM_ROOT_ROOT_ID = s.fld fTM_ROOT_ROOT_ID) ∧
    ((s.tm.rootKnown = true → f.rootId.toNat = s.fld fTM_ROOT_ROOT_ID) → s.tmParentIs q.val = true →
      exchangeOf (s.tmPort q.val) f rx = none → Completes (.time q f rx) s fun t =>
        t.fld fTM_COUNT_FLIT_LOST = min (s.fld fTM_COUNT_FLIT_LOST + 1) 65535 ∧ t.tm.ft = s.tm.ft ∧
        t.tm.exchanges = s.tm.exchanges ∧ t.fld fTM_STATUS_STATE = s.fld fTM_STATUS_STATE) ∧
    ((s.tm.rootKnown = true → f.rootId.toNat = s.fld fTM_ROOT_ROOT_ID) → s.tmParentIs q.val = true →
      s.fld fTM_STATUS_STATE = 2 → s.modeOpen = true → s.fld fTM_CFG_REMEAS_N ≤ s.tm.exchanges + 1 →
      ∀ a b : Int, exchangeOf (s.tmPort q.val) f rx = some (a, b) → Completes (.time q f rx) s fun t =>
        t.tm.ft = s.tm.ft + BitVec.ofInt 80 (-(openQuotient
          ((a - b) * 15625 - s.fldS (fTM_ASYMp_i_ASYM q.val (s.fld (fCW_Pp_STATUS_LANES q.val))) * 16384) 31250)) ∧
        t.fld fTM_STATUS_STATE = 3 ∧ t.fld fTM_STATUS_QUALITY = 2 ∧ t.fld fTM_ROOT_ROOT_ID = f.rootId.toNat ∧
        t.fld fTM_STATUS_HOPS = min 63 (f.hops.toNat + 1) ∧
        t.fld fTM_COUNT_STEP_COUNT = min (s.fld fTM_COUNT_STEP_COUNT + 1) 255 ∧ t.tm.exchanges = 0)

/-- R58, R59, R60, R61, R302 (02_fabric_time.md, 11_causeway.md): PPS captures enter a FIFO of four with FT[9:0] zero and leave it
in the order L, M, H; a time pulse output is enabled under R61, starts its pulses at START + k × PERIOD from t_en + 512 on and
stops when EN is cleared; TIME flits carry the next TSEQ of each trained port. -/
def Obligations.TimeCapturesPulsesAndFlitsFollowFabricTime : Prop :=
  (∀ (falling : Bool) (stamp : BitVec 80) (s : State), s.flag fTM_PPS_CFG_EN = true → s.flag fTM_PPS_CFG_EDGE = falling →
    s.fld fTM_STATUS_STATE ≠ 0 → (∀ u, s.tm.lastPps = some u → 64 * 65536 ≤ (stamp - u).toNat) →
    (s.tm.ppsFifo.length < 4 → Completes (.ppsEdge falling stamp) s fun t =>
      t.tm.ppsFifo = s.tm.ppsFifo ++ [stamp &&& ~~~(0x3FF#80)] ∧ t.fld fTM_PPS_CFG_COUNT = s.tm.ppsFifo.length + 1 ∧
      t.fen.presented = s.fen.presented ++ [0x310] ∧ t.tm.ft = s.tm.ft) ∧
    (4 ≤ s.tm.ppsFifo.length → Completes (.ppsEdge falling stamp) s fun t =>
      t.flag fTM_PPS_CFG_OVERRUN = true ∧ t.tm = s.tm ∧ t.fen = s.fen)) ∧
  (∀ (p : Path) (h : BitVec 80) (l : List (BitVec 80)) (s : State), s.reachable rTM_PPS_L = true →
    s.snapCovers p rTM_PPS_L = false → s.tm.ppsFifo = h :: l → Completes (.ppsRead p 0) s fun t =>
      t.out = s.out ++ [.readData p rTM_PPS_L (h.extractLsb' 0 32)] ∧ t.latched p rTM_PPS_M = h.extractLsb' 32 32 ∧
      t.latched p rTM_PPS_H = (h.extractLsb' 64 16).setWidth 32 ||| 0x80000000 ∧ t.ppsProgress p = 1 ∧ t.tm = s.tm) ∧
  (∀ (p : Path) (s : State), s.reachable rTM_PPS_H = true → s.snapCovers p rTM_PPS_H = false → s.ppsProgress p = 2 →
    Completes (.ppsRead p 2) s fun t => t.tm.ppsFifo = s.tm.ppsFifo.tail ∧ t.tm.ft = s.tm.ft) ∧
  (∀ (p : Path) (n : Fin 8) (v : Word) (s : State), s.mayWrite p (rTM_TPOn_CTRL n.val) = true →
    (s.tpo n.val).enabled = false → s.fld fTM_STATUS_STATE ≠ 0 →
    (16 ≤ s.regN (rTM_TPOn_WIDTH n.val) →
      (s.tpoPeriod n.val = 0 ∨ (32 ≤ s.tpoPeriod n.val ∧ s.regN (rTM_TPOn_WIDTH n.val) < s.tpoPeriod n.val)) →
      Completes (.tpoEnable p n v) s fun t =>
        (t.tpo n.val).enabled = true ∧ (t.tpo n.val).tEn = s.now ∧ t.flag (fTM_TPOn_CTRL_EN n.val) = true ∧
        t.flag (fTM_TPOn_STATUS_ACTIVE n.val) = true ∧ t.flag (fTM_TPOn_STATUS_REFUSED n.val) = false ∧
        (s.tpoPeriod n.val = 0 → s.tpoStart n.val < s.now + 512 → t.flag (fTM_TPOn_STATUS_MISSED n.val) = true)) ∧
    (s.regN (rTM_TPOn_WIDTH n.val) < 16 ∨ (s.tpoPeriod n.val ≠ 0 ∧
        (s.tpoPeriod n.val < 32 ∨ s.tpoPeriod n.val ≤ s.regN (rTM_TPOn_WIDTH n.val))) →
      Completes (.tpoEnable p n v) s fun t =>
        (t.tpo n.val).enabled = false ∧ t.flag (fTM_TPOn_STATUS_REFUSED n.val) = true ∧
        t.fld (fTM_TPOn_STATUS_REASON n.val) = 0x07)) ∧
  (∀ (p : Path) (n : Fin 8) (s : State), s.mayWrite p (rTM_TPOn_CTRL n.val) = true →
    Completes (.tpoDisable p n) s fun t =>
      (t.tpo n.val).enabled = false ∧ t.flag (fTM_TPOn_CTRL_EN n.val) = false ∧
      (t.tpo n.val).pulseEnd = (s.tpo n.val).pulseEnd) ∧
  (∀ (n : Fin 8) (s : State), (s.tpo n.val).enabled = true → s.flag (fTM_TPOn_STATUS_ACTIVE n.val) = true →
    s.fld fTM_STATUS_STATE ≠ 0 → (s.tpo n.val).tEn + 512 ≤ s.now →
    ((s.tpoPeriod n.val = 0 ∧ s.now = s.tpoStart n.val ∧ (s.tpo n.val).fired = false) ∨
      (0 < s.tpoPeriod n.val ∧ ∃ k, s.now = s.tpoStart n.val + k * s.tpoPeriod n.val)) →
    Completes (.tpoPulse n) s fun t =>
      (t.tpo n.val).pulseEnd = s.now + s.regN (rTM_TPOn_WIDTH n.val) ∧
      t.fen.presented = s.fen.presented ++ [0x318 + n.val]) ∧
  (∀ (stamps : Vector (BitVec 80) 8) (s : State), Completes (.timeFlitDue stamps) s fun t => ∀ q : Fin 8,
    if s.portActive q.val = true then
      (t.tmPort q.val).txSeq = (s.tmPort q.val).txSeq + 1 ∧
      (t.tmPort q.val).sent = (((s.tmPort q.val).txSeq, stamps[q]) :: (s.tmPort q.val).sent).take 8
    else t.tmPort q.val = s.tmPort q.val)

/-! ### Drive synthesis -/


/-- R77, R84, R86, R87 (03_drive_synthesis.md): a commit checks the staged words and clears VALID on failure; enabling a
stream buffer sets both positions to 0; clearing EN keeps them and ends the chain of a drive tone that plays the buffer; a
sample read moves RDPOS by one, and a missing sample is an underrun. -/
def Obligations.SegmentCommitsAndStreamBuffers : Prop :=
  (∀ (p : Path) (n : Fin 16) (e : Fin 4096) (s : State), s.mayWrite p (rSEG_e n.val e.val + 28) = true →
    ∀ g : Seg, g = segOfWords (s.staged n.val e.val 0) (s.staged n.val e.val 1) (s.staged n.val e.val 2)
      (s.staged n.val e.val 3) (s.staged n.val e.val 4) (s.staged n.val e.val 5) →
    let sound : Prop := 0x10000 ≤ g.rate ∧ 0 < g.len ∧ (g.stream = false → g.start * 8 + g.len ≤ 1048576) ∧
      g.mkStart ≤ g.len ∧ g.mkStop ≤ g.len ∧ g.type < 2
    let clear : Prop := g.stream = false → ∀ b < 16, (s.sbuf n.val b).enabled = true →
      overlap (g.start * 8) g.len (s.sbRegion n.val b).1 (s.sbRegion n.val b).2 = false
    (sound → clear → Completes (.segmentCommit p n e) s fun t =>
      (∀ j < 7, t.reg (rSEG_e n.val e.val + 4 * j) = s.staged n.val e.val j) ∧
      t.flag (fDRV_STATUS_REFUSED n.val) = false ∧ t.fld (fDRV_STATUS_REASON n.val) = 0 ∧
      t.chains = s.chains ∧ t.peat = s.peat) ∧
    (¬ sound → Completes (.segmentCommit p n e) s fun t =>
      (t.segEntry n.val e.val).valid = false ∧
      (∀ j < 7, j ≠ 5 → t.reg (rSEG_e n.val e.val + 4 * j) = s.staged n.val e.val j) ∧
      t.flag (fDRV_STATUS_REFUSED n.val) = true ∧ t.fld (fDRV_STATUS_REASON n.val) = 0x22) ∧
    (sound → ¬ clear → Completes (.segmentCommit p n e) s fun t =>
      (t.segEntry n.val e.val).valid = false ∧
      t.flag (fDRV_STATUS_REFUSED n.val) = true ∧ t.fld (fDRV_STATUS_REASON n.val) = 0x06)) ∧
  (∀ (p : Path) (n b : Fin 16) (v : Word) (s : State), s.mayWrite p (rPEAT_SBb_CTRL n.val b.val) = true →
    (s.sbuf n.val b.val).enabled = false → s.locked (9 + n.val) = true →
    (s.fld (fPEAT_SBb_CFG_SIZE n.val b.val) = 0 → Completes (.streamBufferEnable p n b v) s fun t =>
      (t.sbuf n.val b.val).enabled = false ∧ t.flag (fPEAT_SBb_CTRL_REFUSED n.val b.val) = true ∧
      t.fld (fPEAT_SBb_CTRL_REASON n.val b.val) = 0x07) ∧
    (0 < s.fld (fPEAT_SBb_CFG_SIZE n.val b.val) → s.fld (fPEAT_SBb_CFG_SIZE n.val b.val) ≤ 16384 →
      (s.sbRegion n.val b.val).1 + (s.sbRegion n.val b.val).2 ≤ 1048576 →
      (∀ b' < 16, b' ≠ b.val → (s.sbuf n.val b').enabled = true →
        overlap (s.sbRegion n.val b.val).1 (s.sbRegion n.val b.val).2 (s.sbRegion n.val b').1 (s.sbRegion n.val b').2 = false) →
      (∀ i < 4096, (s.segEntry n.val i).valid = true → (s.segEntry n.val i).stream = false →
        overlap (s.sbRegion n.val b.val).1 (s.sbRegion n.val b.val).2 ((s.segEntry n.val i).start * 8)
          (s.segEntry n.val i).len = false) →
      Completes (.streamBufferEnable p n b v) s fun t =>
        (t.sbuf n.val b.val).enabled = true ∧ t.flag (fPEAT_SBb_CTRL_EN n.val b.val) = true ∧
        t.flag (fPEAT_SBb_CTRL_REFUSED n.val b.val) = false ∧ t.reg64 (rPEAT_SBb_RDPOS_L n.val b.val) = 0 ∧
        t.reg64 (rPEAT_SBb_WRPOS_L n.val b.val) = 0 ∧ t.peat = s.peat)) ∧
  (∀ (p : Path) (n b : Fin 16) (v : Word) (s : State), s.mayWrite p (rPEAT_SBb_CTRL n.val b.val) = true →
    ((s.sbuf n.val b.val).user = none ∨ ∃ k < 32, (s.sbuf n.val b.val).user = some k) →
    Completes (.streamBufferDisable p n b v) s fun t =>
      (t.sbuf n.val b.val).enabled = false ∧ t.flag (fPEAT_SBb_CTRL_EN n.val b.val) = false ∧
      t.reg64 (rPEAT_SBb_RDPOS_L n.val b.val) = s.reg64 (rPEAT_SBb_RDPOS_L n.val b.val) ∧
      t.reg64 (rPEAT_SBb_WRPOS_L n.val b.val) = s.reg64 (rPEAT_SBb_WRPOS_L n.val b.val) ∧
      t.faultLog = (if (s.sbuf n.val b.val).user = none then s.faultLog else s.faultLog ++ [0x0203]) ∧
      ∀ k, (s.sbuf n.val b.val).user = some k → (t.chain n.val k).active = false) ∧
  (∀ (n : Fin 16) (k : Fin 72) (s : State), k.val < 32 → (s.chain n.val k.val).active = true →
    (s.chain n.val k.val).seg.stream = true → (s.chain n.val k.val).taken < (s.chain n.val k.val).seg.len →
    (s.chain n.val k.val).seg.sbuf < 16 →
    let b := (s.chain n.val k.val).seg.sbuf
    let rd := s.reg64 (rPEAT_SBb_RDPOS_L n.val b)
    (rd < s.reg64 (rPEAT_SBb_WRPOS_L n.val b) → Completes (.streamSampleRead n k) s fun t =>
      t.reg64 (rPEAT_SBb_RDPOS_L n.val b) = rd + 1 ∧ (t.chain n.val k.val).taken = (s.chain n.val k.val).taken + 1 ∧
      t.faultLog = s.faultLog ∧ t.peat = s.peat) ∧
    (s.reg64 (rPEAT_SBb_WRPOS_L n.val b) ≤ rd → s.flag (fPEAT_SBb_CTRL_POLICY n.val b) = false →
      Completes (.streamSampleRead n k) s fun t =>
        t.reg64 (rPEAT_SBb_RDPOS_L n.val b) = (rd + 1) % 2 ^ 64 ∧ t.faultLog = s.faultLog ++ [0x0601] ∧
        t.fld (fPEAT_SBb_COUNT_UNDERRUN n.val b) = min (s.fld (fPEAT_SBb_COUNT_UNDERRUN n.val b) + 1) 65535 ∧
        (t.chain n.val k.val).active = true ∧ (t.chain n.val k.val).muted = (s.chain n.val k.val).muted) ∧
    (s.reg64 (rPEAT_SBb_WRPOS_L n.val b) ≤ rd → s.flag (fPEAT_SBb_CTRL_POLICY n.val b) = true →
      Completes (.streamSampleRead n k) s fun t =>
        t.faultLog = s.faultLog ++ [0x0601] ∧ (t.chain n.val k.val).active = false ∧ (t.chain n.val k.val).muted = true))

/-- R78, R79, R82, R91, R93 (03_drive_synthesis.md): what a drive tone does at the end of a pass, what untimed jump requests do,
and the two marker events. -/
def Obligations.DriveTonePassEndsAndJumpRequests : Prop :=
  (∀ (n : Fin 16) (k : Fin 72) (s : State) (c : Chain), k.val < 32 → c = s.chain n.val k.val → c.active = true →
    c.seg.stream = false → c.jump = none → c.req = none →
    let usable (i : Nat) : Prop := (s.segEntry n.val i).valid = true ∧ (s.segEntry n.val i).type = 0 ∧
      (s.segEntry n.val i).stream = false ∧
      2 ^ 20 ≤ s.fld (fDRV_Tk_ALLOC_ALLOC n.val k.val) * (s.segEntry n.val i).rate
    ((c.passNo < c.seg.loop ∨ c.seg.loop = 0xFFF) → usable c.entry → Completes (.passEnd n k) s fun t =>
      (t.chain n.val k.val).active = true ∧ (t.chain n.val k.val).entry = c.entry ∧
      (t.chain n.val k.val).passNo = c.passNo + 1 ∧ (t.chain n.val k.val).start = c.endsAt ∧ t.faultLog = s.faultLog) ∧
    (c.seg.loop ≤ c.passNo → c.seg.loop ≠ 0xFFF → c.seg.last = true → Completes (.passEnd n k) s fun t =>
      (t.chain n.val k.val).active = false ∧ t.faultLog = s.faultLog ∧ t.regs = s.regs) ∧
    (c.seg.loop ≤ c.passNo → c.seg.loop ≠ 0xFFF → c.seg.last = false → usable c.seg.next →
      Completes (.passEnd n k) s fun t =>
        (t.chain n.val k.val).active = true ∧ (t.chain n.val k.val).entry = c.seg.next ∧
        (t.chain n.val k.val).passNo = 0 ∧ (t.chain n.val k.val).start = c.endsAt ∧ t.faultLog = s.faultLog) ∧
    (c.seg.loop ≤ c.passNo → c.seg.loop ≠ 0xFFF → c.seg.last = false → (s.segEntry n.val c.seg.next).valid = false →
      Completes (.passEnd n k) s fun t =>
        (t.chain n.val k.val).active = false ∧ t.faultLog = s.faultLog ++ [0x0203])) ∧
  (∀ (n : Fin 16) (k : Fin 32) (s : State), (s.chain n.val k.val).active = true → (s.chain n.val k.val).committed = false →
    Completes (.jumpCommitPoint n k) s fun t =>
      (t.chain n.val k.val).committed = true ∧
      (∀ r, (s.chain n.val k.val).req = some r → r.phase = .fresh →
        (t.chain n.val k.val).req = some { r with phase := .armed }) ∧ State.Frame [.chains] s t) ∧
  (∀ (n : Fin 16) (k : Fin 32) (s : State), s.poolLive n.val = true → s.flag (fDRV_Tk_JUMP_CFG_FEN_EN n.val k.val) = true →
    ((s.chain n.val k.val).active = false → Completes (.jumpReq n k) s fun t =>
      t.fld (fDRV_Tk_COUNT_JUMP_IDLE n.val k.val) = min (s.fld (fDRV_Tk_COUNT_JUMP_IDLE n.val k.val) + 1) 255 ∧
      t.chains = s.chains) ∧
    ((s.chain n.val k.val).active = true → (s.chain n.val k.val).began ≤ s.now →
      (s.chain n.val k.val).start ≤ s.now * 65536 →
      Completes (.jumpReq n k) s fun t =>
        (t.chain n.val k.val).req = some {
          target := s.fld (fDRV_Tk_JUMP_CFG_FEN_TGT n.val k.val), arrival := s.now
          phase := if (s.chain n.val k.val).committed = true then .late else .fresh } ∧
        t.fld (fDRV_Tk_COUNT_JUMP_LATE n.val k.val) = (if (s.chain n.val k.val).committed = true
          then min (s.fld (fDRV_Tk_COUNT_JUMP_LATE n.val k.val) + 1) 255
          else s.fld (fDRV_Tk_COUNT_JUMP_LATE n.val k.val)) ∧
        (t.chain n.val k.val).active = true ∧ (t.chain n.val k.val).entry = (s.chain n.val k.val).entry)) ∧
  (∀ (n : Fin 16) (m : Fin 4) (s : State), s.poolLive n.val = true → s.flag (fDRV_STATUS_ENABLED n.val) = true →
    Completes (.markPulse n m) s fun t =>
      (t.marker n.val m.val).fenStart = s.now ∧
      (t.marker n.val m.val).fenEnd = s.now + s.fld (fMK_m_CFG_FEN_WIDTH n.val m.val) ∧
      (t.marker n.val m.val).cmds = (s.marker n.val m.val).cmds ∧ State.Frame [.markers, .fen] s t) ∧
  (∀ (n : Fin 16) (s : State), s.poolLive n.val = true → s.flag (fMK_m_CFG_TRIG_IN n.val 3) = true →
    Completes (.trigInEdge n) s fun t =>
      t.fen.presented = s.fen.presented ++ [0x300 + n.val] ∧ State.Frame [.fen] s t)

/-! ### Read-out and discrimination -/

/-- R71, R88, R92, R93, R94, R96, R104, R108, R112, R114, R134, R141, R143, R157 (03_drive_synthesis.md, 04_flux_channels.md,
05_readout_receivers.md, 06_discrimination.md): the enable checks of a drive, a flux and a read-out unit, what clearing ENABLE
does to chains, markers, filters, windows and armed commands, and the clears of counters, accumulators and histograms. -/
def Obligations.PoolUnitsEnableDisableAndClear : Prop :=
  (∀ (p : Path) (n : Fin 16) (s : State), s.mayWrite p (rDRV_CTRL n.val) = true →
     (s.flag (fDRV_STATUS_ENABLED n.val) = false → s.modeOpen = true → s.locked (9 + n.val) = true →
       (∀ k < 32, s.fld (fDRV_Tk_ALLOC_ALLOC n.val k) ≤ 16) → (∀ m < 4, 16 ≤ s.fld (fMK_m_CFG_FEN_WIDTH n.val m)) →
       (s.allocSum n.val ≤ 384 →
         (∀ k < 32, 0 < s.fld (fDRV_Tk_ALLOC_ALLOC n.val k) → carrierInBand (s.reg48 (rDRV_DACd_CFTW_L n.val (k / 8))) = true ∧
           offsetInBand (s.reg48 (rDRV_Tk_FTW_L n.val k)) = true ∧
           sumInBand (s.reg48 (rDRV_DACd_CFTW_L n.val (k / 8))) (s.reg48 (rDRV_Tk_FTW_L n.val k)) = true) →
         (∀ m < 4, s.fld (fMK_m_DELAY_DELAY n.val m) ≤ 8191) →
         (s.flag (fMK_m_CFG_TRIG_IN n.val 3) = true → s.flag (fMK_m_CFG_SRC_SEG n.val 3) = false ∧
           s.flag (fMK_m_CFG_SRC_CMD n.val 3) = false ∧ s.flag (fMK_m_CFG_SRC_FEN n.val 3) = false) →
         Completes (.drvEnable p n) s fun t =>
           t.flag (fDRV_CTRL_ENABLE n.val) = true ∧ t.flag (fDRV_STATUS_ENABLED n.val) = true ∧
           t.flag (fDRV_STATUS_REFUSED n.val) = false ∧ t.fld (fDRV_STATUS_REASON n.val) = 0) ∧
       (384 < s.allocSum n.val → Completes (.drvEnable p n) s fun t =>
         t.flag (fDRV_CTRL_ENABLE n.val) = true ∧ t.flag (fDRV_STATUS_ENABLED n.val) = false ∧
         t.flag (fDRV_STATUS_REFUSED n.val) = true ∧ t.fld (fDRV_STATUS_REASON n.val) = 0x20)) ∧
     (s.poolHeld n.val = true → Completes (.drvDisable p n) s fun t => t = s) ∧
     (s.poolHeld n.val = false → Completes (.drvDisable p n) s fun t =>
       t.flag (fDRV_CTRL_ENABLE n.val) = false ∧ t.flag (fDRV_STATUS_ENABLED n.val) = false ∧
       (∀ k < 32, (t.chain n.val k).active = false) ∧ (∀ e, 32 ≤ e → e < 72 → t.chain n.val e = s.chain n.val e) ∧
       (∀ m < 4, t.marker n.val m = {}) ∧
       (∀ g < 128, SMap.get (fun _ => []) t.armed (128 * n.val + g) =
         if tgtDrive g = true then [] else SMap.get (fun _ => []) s.armed (128 * n.val + g))) ∧
     Completes (.drvClrCount p n) s fun t =>
       (∀ k < 32, t.reg (rDRV_Tk_COUNT n.val k) = 0) ∧ (∀ d < 4, t.reg (rDRV_DACd_SAT n.val d) = 0) ∧
       State.Frame [.regs] s t ∧
       State.OnlyRegs ((List.range 32).map (rDRV_Tk_COUNT n.val) ++ (List.range 4).map (rDRV_DACd_SAT n.val)) s t) ∧
  (∀ (p : Path) (n : Fin 16) (s : State), s.mayWrite p (rFLX_CTRL n.val) = true →
     (s.flag (fFLX_STATUS_ENABLED n.val) = false → s.modeOpen = true → s.locked (9 + n.val) = true →
       (∀ f < 8, s.fld (fFLX_Cf_ALLOC_ALLOC n.val f) ≤ 16 ∧ s.fld (fFLX_Cf_DELAY_MBZ n.val f) = 0) →
       s.allocSum n.val ≤ 384 →
       ((∀ f < 8, ∀ i < 4, s.flag (fFLX_Cf_IIRs_CTRL_EN n.val f i) = true →
           (s.fldS (fFLX_Cf_IIRs_P_P n.val f i)).natAbs ≤ 1073740800) →
         Completes (.flxEnable p n) s fun t =>
           t.flag (fFLX_CTRL_ENABLE n.val) = true ∧ t.flag (fFLX_STATUS_ENABLED n.val) = true ∧
           t.flag (fFLX_STATUS_REFUSED n.val) = false ∧ t.fld (fFLX_STATUS_REASON n.val) = 0) ∧
       (∀ f < 8, ∀ i < 4, s.flag (fFLX_Cf_IIRs_CTRL_EN n.val f i) = true →
         1073740800 < (s.fldS (fFLX_Cf_IIRs_P_P n.val f i)).natAbs →
         (∀ f' < 8, ∀ i' < 4, 4 * f' + i' < 4 * f + i → s.flag (fFLX_Cf_IIRs_CTRL_EN n.val f' i') = true →
           (s.fldS (fFLX_Cf_IIRs_P_P n.val f' i')).natAbs ≤ 1073740800) →
         Completes (.flxEnable p n) s fun t =>
           t.flag (fFLX_STATUS_ENABLED n.val) = false ∧ t.flag (fFLX_STATUS_REFUSED n.val) = true ∧
           t.fld (fFLX_STATUS_REASON n.val) = 0x30 ∧ t.fld (fFLX_STATUS_STAGE_ID n.val) = 4 * f + i)) ∧
     (s.poolHeld n.val = true → Completes (.flxDisable p n) s fun t => t = s) ∧
     (s.poolHeld n.val = false → Completes (.flxDisable p n) s fun t =>
       t.flag (fFLX_CTRL_ENABLE n.val) = false ∧ t.flag (fFLX_STATUS_ENABLED n.val) = false ∧
       (∀ f < 8, (t.chain n.val (64 + f)).active = false ∧
         t.filter n.val f = { upTo := (s.now + 3) / 4 * 4 }) ∧
       (∀ e < 64, t.chain n.val e = s.chain n.val e) ∧
       (∀ g < 128, SMap.get (fun _ => []) t.armed (128 * n.val + g) =
         if tgtFlux g = true then [] else SMap.get (fun _ => []) s.armed (128 * n.val + g))) ∧
     Completes (.flxClrCount p n) s fun t =>
       ∀ f < 8, t.reg (rFLX_Cf_SAT n.val f) = 0 ∧ t.reg (rFLX_Cf_COUNT n.val f) = 0) ∧
  ((∀ (p : Path) (n : Fin 16) (s : State), s.mayWrite p (rRO_CTRL n.val) = true →
     (s.flag (fRO_STATUS_ENABLED n.val) = false → s.roCheck n.val = [] → Completes (.roEnable p n) s fun t =>
       t.flag (fRO_CTRL_ENABLE n.val) = true ∧ t.flag (fRO_STATUS_ENABLED n.val) = true ∧
       t.flag (fRO_STATUS_REFUSED n.val) = false ∧ t.fld (fRO_STATUS_REASON n.val) = 0) ∧
     (s.flag (fRO_STATUS_ENABLED n.val) = false → s.modeOpen = false → Completes (.roEnable p n) s fun t =>
       t.flag (fRO_STATUS_ENABLED n.val) = false ∧ t.flag (fRO_STATUS_REFUSED n.val) = true ∧
       t.fld (fRO_STATUS_REASON n.val) = 0x02) ∧
     (s.poolHeld n.val = true → Completes (.roDisable p n) s fun t => t = s) ∧
     (s.poolHeld n.val = false → Completes (.roDisable p n) s fun t =>
       t.flag (fRO_CTRL_ENABLE n.val) = false ∧ t.flag (fRO_STATUS_ENABLED n.val) = false ∧
       (∀ e, 32 ≤ e → e < 64 → (t.chain n.val e).active = false) ∧
       (∀ e < 32, t.chain n.val e = s.chain n.val e) ∧
       (∀ k < 32, (t.tone n.val k).win = none ∧ (t.tone n.val k).seqs = [] ∧ (t.tone n.val k).more = [] ∧
         (t.tone n.val k).inj = none) ∧ t.weights = s.weights) ∧
     Completes (.roClrCount p n) s fun t =>
       (∀ k < 32, t.reg (rRO_Tk_COUNT n.val k) = 0) ∧
       (∀ l < 2, t.reg (rRO_Ll_TX_SAT n.val l) = 0 ∧ t.reg (rRO_Ll_ADC_SAT n.val l) = 0 ∧
         t.reg (rRO_Ll_CAL_COUNT n.val l) = 0) ∧ State.Frame [.regs] s t) ∧
   (∀ (p : Path) (n : Fin 16) (k : Fin 32) (s : State),
     (s.mayWrite p (rRO_Tk_ACC_CTRL n.val k.val) = true → Completes (.accClr p n k) s fun t =>
       t.regN (rRO_Tk_SHOTS n.val k.val) = 0 ∧ (t.tone n.val k.val).sumI = 0 ∧ (t.tone n.val k.val).sumQ = 0 ∧
       (t.tone n.val k.val).sqI = 0 ∧ (t.tone n.val k.val).sqQ = 0 ∧ (t.tone n.val k.val).bins = [] ∧
       (t.tone n.val k.val).win = (s.tone n.val k.val).win ∧ State.Frame [.regs, .tones] s t ∧
       State.OnlyRegs [rRO_Tk_SHOTS n.val k.val] s t) ∧
     (s.mayWrite p (rRO_Tk_TRK_CFG n.val k.val) = true → Completes (.histClr p n k) s fun t =>
       (∀ b < 256, t.reg (rRO_Tk_TRK_HIST_b n.val k.val b) = 0) ∧ State.Frame [.regs] s t ∧
       State.OnlyRegs ((List.range 256).map (rRO_Tk_TRK_HIST_b n.val k.val)) s t)))

/-- R122, R126, R127, R140, R160 (05_readout_receivers.md, 06_discrimination.md): a timed window opens at T + 32 × WIN_DELAY with
its repetitions behind it, and an injected request takes its natural open time, waits for the busy end, or is dropped. -/
def Obligations.WindowsOpenAtTheirTimes : Prop :=
  (∀ (n : Fin 16) (k : Fin 32) (q : WinSeq) (l : List WinSeq) (s : State), s.winMode n.val = true →
    (s.tone n.val k.val).seqs = q :: l → (s.tone n.val k.val).win = none → (s.tone n.val k.val).more = [] →
    (s.tone n.val k.val).inj = none →
    (s.fgCovers n.val (k.val / 16) q.time = false → Completes (.windowOpen n k) s fun t =>
      (∃ w, (t.tone n.val k.val).win = some w ∧ w.opened = q.first ∧ w.inj = false ∧ w.samples = [] ∧
        w.shot = (s.tone n.val k.val).count ∧ w.theta = s.thetaApp n.val k.val) ∧
      (t.tone n.val k.val).seqs = l ∧
      (t.tone n.val k.val).more = (List.range (s.fld (fRO_Tk_WIN_REP_REP n.val k.val))).map
        (fun i => q.first + 32 * s.fld (fRO_Tk_WIN_REP_PERIOD n.val k.val) * (i + 1)) ∧
      (t.tone n.val k.val).count = (s.tone n.val k.val).count + 1 ∧
      t.flag (fDN_SLOT_s_VALID (32 * n.val + k.val)) =
        (if s.flag (fRO_Tk_DISC_CFG_INV_ON_OPEN n.val k.val) = true ∧ s.flag (fRO_Tk_DISC_CFG_DEC_EN n.val k.val) = true
          then false else s.flag (fDN_SLOT_s_VALID (32 * n.val + k.val))) ∧
      t.fld (fDN_SLOT_s_SEQ (32 * n.val + k.val)) = s.fld (fDN_SLOT_s_SEQ (32 * n.val + k.val))) ∧
    (s.fgCovers n.val (k.val / 16) q.time = true → Completes (.windowOpen n k) s fun t =>
      (t.tone n.val k.val).win = none ∧ (t.tone n.val k.val).seqs = l ∧ t.faultLog = s.faultLog ++ [0x0304] ∧
      t.fld (fRO_Tk_COUNT_WIN_FAULT n.val k.val) = min (s.fld (fRO_Tk_COUNT_WIN_FAULT n.val k.val) + 1) 255)) ∧
  (∀ (n : Fin 16) (k : Fin 32) (s : State), s.poolLive n.val = true → s.flag (fRO_Tk_INJ_FEN_EN n.val k.val) = true →
    let r := s.tone n.val k.val
    let nat := (s.now + 39) / 8 * 8 + 32 * s.fld (fRO_Tk_WIN_DELAY_WIN_DELAY n.val k.val)
    (s.winMode n.val = true → s.fgBusy n.val (k.val / 16) = false → r.inj = none → r.seqs = [] →
      (s.busyEnd n.val k.val ≤ nat → Completes (.windowStart n k) s fun t =>
        (t.tone n.val k.val).inj = some (nat, nat) ∧ (t.tone n.val k.val).win = r.win ∧ t.regs = s.regs) ∧
      (nat < s.busyEnd n.val k.val →
        s.busyEnd n.val k.val - nat ≤ 32 * s.fld (fRO_Tk_INJ_INJ_WAIT n.val k.val) → Completes (.windowStart n k) s fun t =>
          (t.tone n.val k.val).inj = some (nat, s.busyEnd n.val k.val) ∧ (t.tone n.val k.val).win = r.win ∧
          t.fld (fRO_Tk_COUNT_INJ_WAITED n.val k.val) = min (s.fld (fRO_Tk_COUNT_INJ_WAITED n.val k.val) + 1) 255) ∧
      (nat < s.busyEnd n.val k.val →
        32 * s.fld (fRO_Tk_INJ_INJ_WAIT n.val k.val) < s.busyEnd n.val k.val - nat → Completes (.windowStart n k) s fun t =>
          t.tones = s.tones ∧
          t.fld (fRO_Tk_COUNT_INJ_DROP n.val k.val) = min (s.fld (fRO_Tk_COUNT_INJ_DROP n.val k.val) + 1) 65535)) ∧
    (s.winMode n.val = false ∨ s.fgBusy n.val (k.val / 16) = true ∨ r.inj ≠ none → Completes (.windowStart n k) s fun t =>
      t.tones = s.tones ∧
      t.fld (fRO_Tk_COUNT_INJ_DROP n.val k.val) = min (s.fld (fRO_Tk_COUNT_INJ_DROP n.val k.val) + 1) 65535))

/-- R145, R146, R148 to R152, R159 (06_discrimination.md): a full window assigns its state from the distances and writes its
slot with the next SEQ; in a sequential mode the first sample at which Λ − θ_app leaves the band decides, and SEQ_EARLY_CLOSE
closes the window; the transmit ramp ends the chain. -/
def Obligations.WindowsDecideStatesAndSlots : Prop :=
  (∀ (n : Fin 16) (k : Fin 32) (xs : List (BitVec 18 × BitVec 18)) (w : Win) (s : State),
    (s.tone n.val k.val).win = some w → s.sequential n.val k.val = false → w.decided = none →
    w.samples.length + xs.length = s.fld (fRO_Tk_WIN_LEN_LEN n.val k.val) →
    let a := s.sums n.val k.val 0 {} (w.samples.reverse ++ xs.map (fun x => (x.1.toInt, x.2.toInt)))
    let d (i : Nat) : Int := s.distance n.val k.val i a.wI.1 a.wQ.1
    let lines := s.fld (fRO_Tk_DISC_CFG_NLINES n.val k.val)
    let state : Nat := if lines = 0 then 3
      else if (lines = 2 ∧ 0 ≤ d 1) ∨ (lines = 3 ∧ 0 ≤ d 1 ∧ 0 ≤ d 2) then 2
      else if s.thetaApp n.val k.val ≤ d 0 then 1 else 0
    let m := 32 * n.val + k.val
    Completes (.windowEnd n k xs) s fun t =>
      (t.tone n.val k.val).win = none ∧ t.fld (fRO_Tk_DISC_STATUS_STATE n.val k.val) = state ∧
      (s.flag (fRO_Tk_DISC_CFG_DEC_EN n.val k.val) = true → state < 3 →
        t.fld (fDN_SLOT_s_STATE m) = state ∧ t.flag (fDN_SLOT_s_VALID m) = true ∧
        t.fld (fDN_SLOT_s_SEQ m) = (s.fld (fDN_SLOT_s_SEQ m) + 1) % 16) ∧
      (s.flag (fRO_Tk_DISC_CFG_DEC_EN n.val k.val) = false ∨ state = 3 → t.reg (rDN_SLOT_s m) = s.reg (rDN_SLOT_s m))) ∧
  (∀ (n : Fin 16) (k : Fin 32) (x : BitVec 18 × BitVec 18) (w : Win) (s : State),
    (s.tone n.val k.val).win = some w → s.sequential n.val k.val = true → w.decided = none →
    w.samples.length + 1 < s.fld (fRO_Tk_WIN_LEN_LEN n.val k.val) →
    s.fld (fRO_Tk_DISC_CFG_MIN_N n.val k.val) ≤ w.samples.length + 1 →
    s.flag (fRO_Tk_DISC_CFG_DEC_EN n.val k.val) = true → 0 < s.regN (rRO_Tk_SEQ_THR n.val k.val) →
    let y := s.weighted n.val k.val w.samples.length (x.1.toInt, x.2.toInt)
    let lam := w.lam + s.fldS (fRO_Tk_LINEi_AB_A n.val 0 k.val) * y.1 + s.fldS (fRO_Tk_LINEi_AB_B n.val 0 k.val) * y.2 -
      s.fldS (fRO_Tk_SEQ_BIAS_BETA n.val k.val) * 2 ^ 14
    let edge : Int := s.regN (rRO_Tk_SEQ_THR n.val k.val) * 2 ^ 21
    let m := 32 * n.val + k.val
    ∀ state : Nat, (state = 1 ∧ edge ≤ lam - w.theta * 2 ^ 21) ∨ (state = 0 ∧ lam - w.theta * 2 ^ 21 ≤ -edge) →
    Completes (.sequentialDecision n k [x]) s fun t =>
      t.fld (fDN_SLOT_s_STATE m) = state ∧ t.flag (fDN_SLOT_s_VALID m) = true ∧
      t.fld (fDN_SLOT_s_SEQ m) = (s.fld (fDN_SLOT_s_SEQ m) + 1) % 16 ∧
      (s.fld (fRO_Tk_DISC_CFG_SEQ n.val k.val) = 1 → ∃ w', (t.tone n.val k.val).win = some w' ∧
        w'.decided = some (state, lam - w.theta * 2 ^ 21) ∧ w'.opened = w.opened ∧
        w'.samples.length = w.samples.length + 1) ∧
      (s.fld (fRO_Tk_DISC_CFG_SEQ n.val k.val) = 2 → (t.tone n.val k.val).win = none ∧
        t.fld (fRO_Tk_DISC_STATUS_STATE n.val k.val) = state)) ∧
  (∀ (n : Fin 16) (k : Fin 32) (e : Nat) (s : State), (s.chain n.val (32 + k.val)).active = true →
    (s.chain n.val (32 + k.val)).rampDown = some e → Completes (.earlyCloseRamp n k) s fun t =>
      (t.chain n.val (32 + k.val)).active = false ∧ (∀ j < 32, t.chain n.val j = s.chain n.val j) ∧ t.tones = s.tones)

/-- R118, R136 to R139 (05_readout_receivers.md): over-range, swap steps and their deferral, the calibration freeze and its
expiry, and foreground calibration. -/
def Obligations.AdcCalibrationSwapsFreezesAndForeground : Prop :=
  ∀ (n : Fin 16) (l : Fin 2) (s : State),
    (s.poolLive n.val = true → s.mode ∈ [modeReady, modeRun, modeDrain, modeDiag] →
      s.poolCalibrated n.val = true → s.flag (fRO_Ll_CAL_STATUS_FROZEN n.val l.val) = false →
      (s.roLine n.val l.val).begun = false → Completes (.swapStep n l) s fun t =>
        if s.lineBusy n.val l.val = true then
          t.flag (fRO_Ll_CAL_STATUS_DEFERRING n.val l.val) = true ∧
          t.fld (fRO_Ll_CAL_STATUS_SPARE n.val l.val) = s.fld (fRO_Ll_CAL_STATUS_SPARE n.val l.val)
        else
          t.flag (fRO_Ll_CAL_STATUS_DEFERRING n.val l.val) = false ∧
          t.fld (fRO_Ll_CAL_STATUS_SPARE n.val l.val) = (s.fld (fRO_Ll_CAL_STATUS_SPARE n.val l.val) + 1) % 17) ∧
    (s.flag (fRO_Ll_CAL_STATUS_DEFERRING n.val l.val) = true → Completes (.swapDeferralTimeout n l) s fun t =>
      (t.roLine n.val l.val).force = true ∧ State.Frame [.lines] s t) ∧
    (∀ (p : Path) (v : Word), s.mayWrite p (rRO_Ll_CAL_CFG n.val l.val) = true → Completes (.calFreeze p n l v) s fun t =>
      t.flag (fRO_Ll_CAL_STATUS_FROZEN n.val l.val) = v.getLsbD 8 ∧
      t.flag (fRO_Ll_CAL_CFG_FREEZE n.val l.val) = v.getLsbD 8 ∧
      (s.flag (fRO_Ll_CAL_STATUS_FROZEN n.val l.val) = false → v.getLsbD 8 = true →
        t.flag (fRO_Ll_CAL_STATUS_DEFERRING n.val l.val) = false ∧ (t.roLine n.val l.val).force = false)) ∧
    (s.flag (fRO_Ll_CAL_STATUS_FROZEN n.val l.val) = true →
      (s.flag (fRO_Ll_CAL_CFG_FREEZE_HARD n.val l.val) = false → Completes (.freezeExpiry n l) s fun t =>
        t.flag (fRO_Ll_CAL_CFG_FREEZE n.val l.val) = false ∧ t.flag (fRO_Ll_CAL_STATUS_FROZEN n.val l.val) = false ∧
        t.flag (fRO_Ll_CAL_STATUS_FREEZE_EXPIRED n.val l.val) = true ∧ t.faultLog = s.faultLog) ∧
      (s.flag (fRO_Ll_CAL_CFG_FREEZE_HARD n.val l.val) = true → (s.roLine n.val l.val).expired = false →
        Completes (.freezeExpiry n l) s fun t =>
          t.flag (fRO_Ll_CAL_STATUS_FROZEN n.val l.val) = true ∧ t.flag (fRO_Ll_CAL_STATUS_DRIFT n.val l.val) = true ∧
          t.faultLog = s.faultLog ++ [0x0303] ∧ (t.roLine n.val l.val).expired = true)) ∧
    (∀ p : Path, s.mayWrite p (rRO_Ll_FGCAL n.val l.val) = true →
      (s.fgBusy n.val l.val = false → s.mode ∈ [modeReady, modeRun, modeCalibrate, modeDiag] →
        Completes (.fgcalStart p n l) s fun t =>
          t.fgBusy n.val l.val = true ∧ t.flag (fRO_Ll_FGCAL_DONE n.val l.val) = false ∧
          t.flag (fRO_Ll_FGCAL_REFUSED n.val l.val) = false ∧ (t.roLine n.val l.val).fgFrom = some s.now) ∧
      (s.fgBusy n.val l.val = true ∨ s.mode ∉ [modeReady, modeRun, modeCalibrate, modeDiag] →
        Completes (.fgcalStart p n l) s fun t =>
          t.flag (fRO_Ll_FGCAL_REFUSED n.val l.val) = true ∧ t.fld (fRO_Ll_FGCAL_REASON n.val l.val) = 0x02 ∧
          t.fgBusy n.val l.val = s.fgBusy n.val l.val ∧ t.lines = s.lines)) ∧
    (s.fgBusy n.val l.val = true → s.lineOwes n.val l.val = false → Completes (.fgcalBegin n l) s fun t =>
      (t.roLine n.val l.val).begun = true ∧ State.Frame [.lines] s t) ∧
    (s.fgBusy n.val l.val = true → (s.roLine n.val l.val).begun = true → Completes (.fgcalDone n l) s fun t =>
      t.flag (fRO_Ll_FGCAL_DONE n.val l.val) = true ∧ t.fgBusy n.val l.val = false ∧
      (t.roLine n.val l.val).fgTo = some s.now ∧ (t.roLine n.val l.val).begun = false ∧
      State.Frame [.regs, .lines] s t) ∧
    (s.poolLive n.val = true → Completes (.adcOverRange n l) s fun t =>
      t.faultLog = s.faultLog ++ [0x0301] ∧
      t.regN (rRO_Ll_ADC_SAT n.val l.val) = min (s.regN (rRO_Ll_ADC_SAT n.val l.val) + 1) (2 ^ 32 - 1) ∧
      ∀ j < 16, ∀ w, (s.tone n.val (16 * l.val + j)).win = some w →
        (t.tone n.val (16 * l.val + j)).win = some { w with overRange := true })

/-! ### Reed cores: the D-slot -/

/-- R169, R173, R213, R214, R220 (07_reed_core_architecture.md, 08_reed_core_isa.md): the operations of layout R that format DI
also has. Each puts its result on the way to d, and a saturating one sets SAT when it saturates; nothing else of the machine
changes but that a format DI bundle ends. -/
def Obligations.ReedArithmeticPutsResults : Prop :=
  ∀ (c : Fin 64) (d a : Fin 32) (b : Src) (s : State), s.canOpen c.val = true →
    (Src.isImm b = true → s.flat c.val = true) →
    let x := s.g c.val a.val
    let y := match b with
      | .reg r => s.g c.val r.val
      | .imm w => w
    let out (v : Word) (t : State) : Prop := State.DResult s t c.val (Src.isImm b) (s.result c.val 2 d.val v.toNat)
    let sat (z : Int) (t : State) : Prop := State.DResult s t c.val (Src.isImm b)
      (s.result c.val 2 d.val (BitVec.ofInt 32 (max (-2 ^ 31) (min (2 ^ 31 - 1) z))).toNat ++
        s.saturates c.val (decide (z < -2 ^ 31 ∨ 2 ^ 31 ≤ z)))
    Completes (.add c d a b) s (out (x + y)) ∧
    Completes (.sub c d a b) s (out (x - y)) ∧
    Completes (.adds c d a b) s (sat (x.toInt + y.toInt)) ∧
    Completes (.subs c d a b) s (sat (x.toInt - y.toInt)) ∧
    Completes (.and c d a b) s (out (x &&& y)) ∧
    Completes (.or c d a b) s (out (x ||| y)) ∧
    Completes (.xor c d a b) s (out (x ^^^ y)) ∧
    Completes (.shl c d a b) s (out (x <<< (y.toNat % 32))) ∧
    Completes (.shr c d a b) s (out (x >>> (y.toNat % 32))) ∧
    Completes (.sar c d a b) s (out (x.sshiftRight (y.toNat % 32))) ∧
    Completes (.min c d a b) s (out (BitVec.ofInt 32 (min x.toInt y.toInt))) ∧
    Completes (.max c d a b) s (out (BitVec.ofInt 32 (max x.toInt y.toInt))) ∧
    Completes (.mul c d a b) s (fun t => State.DResult s t c.val (Src.isImm b)
      (s.result c.val 3 d.val (BitVec.ofInt 32 ((x.setWidth 16).toInt * (y.setWidth 16).toInt)).toNat)) ∧
    Completes (.cmp c a b) s (fun t => State.DResult s t c.val (Src.isImm b)
      (s.result c.val 2 0x90 (bit ((x - y).getLsbD 31)) ++ s.result c.val 2 0x91 (bit (decide (x = y))) ++
        s.result c.val 2 0x92 (bit (decide (x.toInt - y.toInt < -2 ^ 31 ∨ 2 ^ 31 ≤ x.toInt - y.toInt))) ++
        s.result c.val 2 0x93 (bit (decide (y.toNat ≤ x.toNat)))))

/-- R169, R173, R212 to R215 (08_reed_core_isa.md): the operations of layout I, EXP, NORM and SHC. A shift distance of 32 or
more is an illegal bundle. -/
def Obligations.ReedImmediateShiftAndNormaliseOperations : Prop :=
  ∀ (c : Fin 64) (d a : Fin 32) (v : BitVec 14) (s : State), s.canOpen c.val = true →
    let x := s.g c.val a.val
    let y := v.signExtend 32
    let out (w : Word) (t : State) : Prop := State.DResult s t c.val false (s.result c.val 2 d.val w.toNat)
    Completes (.addi c d a v) s (out (x + y)) ∧
    Completes (.andi c d a v) s (out (x &&& y)) ∧
    Completes (.cmpi c a v) s (fun t => State.DResult s t c.val false
      (s.result c.val 2 0x90 (bit ((x - y).getLsbD 31)) ++ s.result c.val 2 0x91 (bit (decide (x = y))) ++
        s.result c.val 2 0x92 (bit (decide (x.toInt - y.toInt < -2 ^ 31 ∨ 2 ^ 31 ≤ x.toInt - y.toInt))) ++
        s.result c.val 2 0x93 (bit (decide (y.toNat ≤ x.toNat))))) ∧
    (v.toNat < 32 → Completes (.shli c d a v) s (out (x <<< v.toNat)) ∧
      Completes (.shri c d a v) s (out (x >>> v.toNat)) ∧ Completes (.sari c d a v) s (out (x.sshiftRight v.toNat))) ∧
    (32 ≤ v.toNat → ∀ i ∈ [Instr.shli c d a v, Instr.shri c d a v, Instr.sari c d a v],
      Completes i s fun t => State.Faulted s t c.val 0x0502) ∧
    (∀ e, countsRedundant x e → Completes (.exp c d a false) s (out (BitVec.ofNat 32 e)) ∧
      Completes (.norm c d a false) s (out (x <<< e))) ∧
    (∀ e f, countsRedundant (x.extractLsb' 0 16) e → countsRedundant (x.extractLsb' 16 16) f →
      Completes (.exp c d a true) s (out (BitVec.ofNat 32 (min e f))) ∧
      Completes (.norm c d a true) s
        (out (((x.extractLsb' 16 16) <<< (min e f)) ++ ((x.extractLsb' 0 16) <<< (min e f))))) ∧
    (∀ b : Fin 32,
      let k : Int := ((s.g c.val b.val).extractLsb' 0 5).toInt
      let i := (x.extractLsb' 0 16).toInt
      let q := (x.extractLsb' 16 16).toInt
      let shifted (h : Int) : Int := if 0 ≤ k then h * 2 ^ k.toNat else (h + 2 ^ ((-k).toNat - 1)) / 2 ^ (-k).toNat
      let kept (h : Int) : BitVec 16 := BitVec.ofInt 16 (max (-2 ^ 15) (min (2 ^ 15 - 1) h))
      let out_ (h : Int) : Bool := decide (h < -2 ^ 15 ∨ 2 ^ 15 ≤ h)
      Completes (.shc c d a b) s fun t => State.DResult s t c.val false
        (s.result c.val 2 d.val (kept (shifted q) ++ kept (shifted i)).toNat ++
          s.saturates c.val (out_ (shifted i) || out_ (shifted q))))

/-- R187, R205, R213, R218, R219, R222 (07_reed_core_architecture.md, 08_reed_core_isa.md): NOP, MOV, MODP, RDDEC and RDFT, and
what makes a MOV or a bundle illegal. A read of the fabric time is taken when its bundle ends. -/
def Obligations.ReedMovesAndReads : Prop :=
  ∀ (c : Fin 64) (s : State), s.canOpen c.val = true →
    Completes (.nop c) s (fun t => State.DResult s t c.val false []) ∧
    Completes (.illegalBundle c) s (fun t => State.Faulted s t c.val 0x0502) ∧
    (∀ dst : Fin 128,
      let out (imm : Bool) (w : Word) (t : State) : Prop := State.DResult s t c.val imm
        (if dst.val = 0x61 then
          s.result c.val 2 0x94 (bit (w.getLsbD 0)) ++ s.result c.val 2 0x93 (bit (w.getLsbD 1)) ++
            s.result c.val 2 0x92 (bit (w.getLsbD 2)) ++ s.result c.val 2 0x91 (bit (w.getLsbD 3)) ++
            s.result c.val 2 0x90 (bit (w.getLsbD 4))
        else s.result c.val 2 dst.val w.toNat)
      (idWritable dst.val = true →
        (∀ w : Word, s.flat c.val = true → Completes (.mov c dst (.imm w)) s (out true w)) ∧
        (∀ src : Fin 128, src.val < 0x20 ∨ (0x40 ≤ src.val ∧ src.val < 0x48) ∨ (0x50 ≤ src.val ∧ src.val ≤ 0x60) →
          Completes (.mov c dst (.id src)) s (out false (BitVec.ofNat 32 (s.rd c.val src.val)))) ∧
        (∀ src : Fin 128, 0x48 ≤ src.val → src.val < 0x50 →
          Completes (.mov c dst (.id src)) s (out false ((BitVec.ofNat 16 (s.rd c.val src.val)).signExtend 32))) ∧
        (∀ src : Fin 128, 0x68 ≤ src.val → src.val < 0x71 → s.flat c.val = true →
          Completes (.mov c dst (.id src)) s (out false (BitVec.ofNat 32 (s.rd c.val src.val)))) ∧
        Completes (.mov c dst (.id 0x61)) s (out false (BitVec.ofNat 32 (s.rd c.val 0x94 + 2 * s.rd c.val 0x93 +
          4 * s.rd c.val 0x92 + 8 * s.rd c.val 0x91 + 16 * s.rd c.val 0x90))) ∧
        Completes (.mov c dst (.id 0x62)) s (fun t =>
          State.Opened s t c.val { s.core c.val with post := { stRead := some dst.val } }) ∧
        Completes (.mov c dst (.id 0x63)) s (out false (s.core c.val).stHi) ∧
        Completes (.mov c dst (.id 0x64)) s (out false (BitVec.ofNat 32 (s.level c.val)))) ∧
      (idWritable dst.val = false → ∀ w, Completes (.mov c dst (.imm w)) s fun t => State.Faulted s t c.val 0x0502) ∧
      (∀ src : Fin 128, idWritable dst.val = false ∨ idListed src.val = false →
        Completes (.mov c dst (.id src)) s fun t => State.Faulted s t c.val 0x0502)) ∧
    (∀ pd mx : Fin 8,
      let p := s.rd c.val (0x40 + pd.val)
      let b := s.rd c.val (0x50 + pd.val)
      let l := s.rd c.val (0x58 + pd.val)
      let m : Int := (BitVec.ofNat 16 (s.rd c.val (0x48 + mx.val))).toInt
      (l = 0 → Completes (.modp c pd mx) s fun t => State.DResult s t c.val false
        (s.result c.val 2 (0x40 + pd.val) (((p : Int) + m) % 65536).toNat)) ∧
      (0 < l → b + l ≤ 65536 → Completes (.modp c pd mx) s fun t => State.DResult s t c.val false
        (s.result c.val 2 (0x40 + pd.val) ((b : Int) + ((p : Int) + m - b) % l).toNat)) ∧
      (0 < l → 65536 ≤ (b : Int) + ((p : Int) + m - b) % l → Completes (.modp c pd mx) s fun t =>
        State.Opened s t c.val { s.core c.val with post := { fault := true } })) ∧
    (∀ (d a : Fin 32) (v : BitVec 10), Completes (.rddec c d a v) s fun t => State.DResult s t c.val false
      (s.result c.val 3 d.val (s.slotWord (((s.g c.val a.val).toNat + v.toNat) % 1024)).toNat)) ∧
    (∀ d : Fin 32, Completes (.rdft c d true) s (fun t => State.DResult s t c.val false
        (s.result c.val 3 d.val (s.core c.val).ftHi.toNat)) ∧
      Completes (.rdft c d false) s fun t => State.Opened s t c.val { s.core c.val with post := { rdft := some d.val } })

/-- R175, R213, R221, R222, R224, R225 (07_reed_core_architecture.md, 08_reed_core_isa.md): loads and stores of layout M. The
address mode gives the address and the pointer's new value; a load reads its bytes little-endian; a store waits for the end of
its bundle; a misaligned access, or one outside data memory, faults the bundle when it ends. -/
def Obligations.ReedLoadsAndStores : Prop :=
  ∀ (c : Fin 64) (g : Fin 32) (x : Fin 8) (am : AddrMode) (s : State), s.canOpen c.val = true →
    let p := s.rd c.val (0x40 + x.val)
    let m : Int := (BitVec.ofNat 16 (s.rd c.val (0x48 + x.val))).toInt
    let moved (delta : Int) : Nat :=
      if s.rd c.val (0x58 + x.val) = 0 then (((p : Int) + delta) % 65536).toNat
      else ((s.rd c.val (0x50 + x.val) : Int) +
        ((p : Int) + delta - s.rd c.val (0x50 + x.val)) % s.rd c.val (0x58 + x.val)).toNat
    let address (size : Nat) : Nat := match am with
      | .offs v => moved (v.toInt * size)
      | _ => p
    let pointer (size : Nat) : List Nat := match am with
      | .ind => []
      | .offs _ => []
      | .postm br => [if br = true then ((BitVec.ofNat 16 p).reverse +
          (BitVec.ofNat 16 (s.rd c.val (0x48 + x.val))).reverse).reverse.toNat else moved m]
      | .posti v => [moved (v.toInt * size)]
    let good (size : Nat) : Prop := address size % size = 0 ∧ address size < 65536 ∧ ∀ v ∈ pointer size, v < 65536
    let ptr (size : Nat) : List InFlight := (pointer size).flatMap (s.result c.val 2 (0x40 + x.val))
    let load (size : Nat) (v : Nat → Word) (t : State) : Prop := State.DResult s t c.val false
      (s.result c.val 3 g.val (v (s.dmem.readLe (65536 * c.val + address size) size)).toNat ++ ptr size)
    let store (size : Nat) (t : State) : Prop := State.Opened s t c.val { s.core c.val with
      flight := (s.core c.val).flight ++ ptr size
      post := { store := some (address size, size, (s.g c.val g.val).toNat % 2 ^ (8 * size)) } }
    (am ≠ .postm true → good 4 → Completes (.ldW c g x am) s (load 4 (BitVec.ofNat 32))) ∧
    (am ≠ .postm true → good 2 → Completes (.ldH c g x am) s (load 2 (fun v => (BitVec.ofNat 16 v).signExtend 32))) ∧
    (am ≠ .postm true → good 2 → Completes (.ldHu c g x am) s (load 2 (BitVec.ofNat 32))) ∧
    (am = .postm true → ∀ i ∈ [Instr.ldW c g x am, Instr.ldH c g x am, Instr.ldHu c g x am],
      Completes i s fun t => State.Faulted s t c.val 0x0502) ∧
    (good 4 → Completes (.stW c g x am) s (store 4)) ∧
    (good 2 → Completes (.stH c g x am) s (store 2)) ∧
    (∀ j ∈ [(Instr.stW c g x am, 4), (Instr.stH c g x am, 2)], ¬ good j.2 → Completes j.1 s fun t =>
      State.Opened s t c.val { s.core c.val with post := { fault := true } }) ∧
    (∀ j ∈ [(Instr.ldW c g x am, 4), (Instr.ldH c g x am, 2), (Instr.ldHu c g x am, 2)], am ≠ .postm true → ¬ good j.2 →
      Completes j.1 s fun t => State.Opened s t c.val { s.core c.val with post := { fault := true } })

/-- R175, R221, R225 (07_reed_core_architecture.md, 08_reed_core_isa.md): the end of a bundle carries out its store, to exactly
its bytes, or its fault; LD2 and LDST make two accesses, and LDST reads before its bundle stores. -/
def Obligations.ReedBundleEndsStoreAndDualAccesses : Prop :=
  (∀ (c : Fin 64) (a size v : Nat) (s : State), s.coreReady c.val = true → s.dbgHalted c.val = false →
    (s.core c.val).half = true → s.flat c.val = true →
    ((s.core c.val).post = { store := some (a, size, v) } → Completes (.tnop c false) s fun t =>
      t.dmem.readLe (65536 * c.val + a) size = v % 2 ^ (8 * size) ∧
      (∀ x, x < 65536 * c.val + a ∨ 65536 * c.val + a + size ≤ x → t.dmem.read x = s.dmem.read x) ∧
      (t.core c.val).no = (s.core c.val).no + 1 ∧ (t.core c.val).half = false ∧ t.pc c.val = (s.pc c.val + 1) % 2 ^ 14 ∧
      State.Frame [.cores, .regs, .dmem] s t ∧ State.OnlyRegs [rRC_i_PC (c.val / 4) (c.val % 4)] s t) ∧
    (∀ d, (s.core c.val).post = { rdft := some d } → Completes (.tnop c false) s fun t =>
      (t.core c.val).ftHi = BitVec.ofNat 32 ((s.now / 16 * 16 + 32) / 2 ^ 32) ∧
      (d ≠ 0 → (t.core c.val).newest (bankKey (s.level c.val) d) = (s.now / 16 * 16 + 32) % 2 ^ regWidth d) ∧
      State.Frame [.cores, .regs] s t) ∧
    (∀ d, (s.core c.val).post = { stRead := some d } → d ≠ 0 → d ≠ 0x61 → Completes (.tnop c false) s fun t =>
      (t.core c.val).stHi = (s.core c.val).st.extractLsb' 32 32 ∧
      (t.core c.val).newest (bankKey (s.level c.val) d) = s.schedule c.val % 2 ^ regWidth d ∧
      State.Frame [.cores, .regs] s t) ∧
    ((s.core c.val).post.fault = true → Completes (.tnop c false) s fun t => State.Faulted s t c.val 0x0503)) ∧
  (∀ (c : Fin 64) (g1 g2 : Fin 32) (pa pb : Fin 8) (ma mb : Bool) (s : State), s.canOpen c.val = true →
    let a := s.rd c.val (0x40 + pa.val)
    let b := s.rd c.val (0x40 + pb.val)
    let word (v : Nat) : Nat := s.dmem.readLe (65536 * c.val + v) 4 % 2 ^ 32
    let moved (x : Fin 8) : Nat :=
      let sum : Int := (s.rd c.val (0x40 + x.val) : Int) + (BitVec.ofNat 16 (s.rd c.val (0x48 + x.val))).toInt
      let base : Int := s.rd c.val (0x50 + x.val)
      if s.rd c.val (0x58 + x.val) = 0 then (sum % 65536).toNat else (base + (sum - base) % s.rd c.val (0x58 + x.val)).toNat
    let pointers : List InFlight := (if ma = true then s.result c.val 2 (0x40 + pa.val) (moved pa) else []) ++
      (if mb = true then s.result c.val 2 (0x40 + pb.val) (moved pb) else [])
    let good : Prop := a % 4 = 0 ∧ b % 4 = 0 ∧ a < 65536 ∧ b < 65536 ∧ (ma = true → moved pa < 65536) ∧
      (mb = true → moved pb < 65536)
    let twice : Prop := pa = pb ∧ ma = true ∧ mb = true
    (¬ twice → g1 ≠ g2 → good → Completes (.ld2 c g1 g2 pa pb ma mb) s fun t => State.DResult s t c.val false
      (s.result c.val 3 g1.val (word a) ++ s.result c.val 3 g2.val (word b) ++ pointers)) ∧
    (¬ twice → good → Completes (.ldst c g1 g2 pa pb ma mb) s fun t => State.Opened s t c.val { s.core c.val with
      flight := (s.core c.val).flight ++ (s.result c.val 3 g1.val (word a) ++ pointers)
      post := { store := some (b, 4, (s.g c.val g2.val).toNat) } }) ∧
    (twice ∨ g1 = g2 → Completes (.ld2 c g1 g2 pa pb ma mb) s fun t => State.Faulted s t c.val 0x0502) ∧
    (twice → Completes (.ldst c g1 g2 pa pb ma mb) s fun t => State.Faulted s t c.val 0x0502) ∧
    (¬ twice → ¬ good → Completes (.ldst c g1 g2 pa pb ma mb) s fun t =>
      State.Opened s t c.val { s.core c.val with post := { fault := true } }))

/-- R169, R216, R217 (08_reed_core_isa.md): the accumulator and butterfly operations. A complex multiply forms its product
exactly; one that accumulates adds to what every earlier bundle leaves; a half outside its range saturates and sets SAT. -/
def Obligations.ReedComplexAndButterflyOperations : Prop :=
  ∀ (c : Fin 64) (cd : Fin 8) (a b : Fin 32) (s : State), s.canOpen c.val = true →
    let halfI (g : Fin 32) : Int := ((s.g c.val g.val).extractLsb' 0 16).toInt
    let halfQ (g : Fin 32) : Int := ((s.g c.val g.val).extractLsb' 16 16).toInt
    let kept (w : Nat) (v : Int) : BitVec w := BitVec.ofInt w (max (-2 ^ (w - 1)) (min (2 ^ (w - 1) - 1) v))
    let excess (w : Nat) (v : Int) : Bool := decide (v < -2 ^ (w - 1) ∨ 2 ^ (w - 1) ≤ v)
    let acc (lat : Nat) (re im : Int) (t : State) : Prop := State.DResult s t c.val false
      (s.result c.val lat (0x80 + 2 * cd.val) (kept 40 re).toNat ++ s.result c.val lat (0x81 + 2 * cd.val) (kept 40 im).toNat ++
        s.saturates c.val (excess 40 re || excess 40 im))
    let last (id : Nat) : Int := (BitVec.ofNat 40 ((s.core c.val).newest (bankKey (s.level c.val) id))).toInt
    let seen (id : Nat) : Int := (BitVec.ofNat 40 (s.rd c.val id)).toInt
    let re := halfI a * halfI b - halfQ a * halfQ b
    let im := halfI a * halfQ b + halfQ a * halfI b
    let reJ := halfI a * halfI b + halfQ a * halfQ b
    let imJ := -(halfI a * halfQ b) + halfQ a * halfI b
    Completes (.cmul c cd a b) s (acc 3 re im) ∧
    Completes (.cmulj c cd a b) s (acc 3 reJ imJ) ∧
    Completes (.cmac c cd a b) s (acc 3 (last (0x80 + 2 * cd.val) + re) (last (0x81 + 2 * cd.val) + im)) ∧
    Completes (.cmacj c cd a b) s (acc 3 (last (0x80 + 2 * cd.val) + reJ) (last (0x81 + 2 * cd.val) + imJ)) ∧
    Completes (.cmsu c cd a b) s (acc 3 (last (0x80 + 2 * cd.val) - re) (last (0x81 + 2 * cd.val) - im)) ∧
    Completes (.cclr c cd) s (acc 2 0 0) ∧
    (∀ x y : Fin 8, Completes (.cadd c cd x y) s
      (acc 2 (seen (0x80 + 2 * x.val) + seen (0x80 + 2 * y.val)) (seen (0x81 + 2 * x.val) + seen (0x81 + 2 * y.val)))) ∧
    (∀ (g sh : Fin 32),
      let rounded (v : Int) : Int := if sh.val = 0 then v else (v + 2 ^ (sh.val - 1)) / 2 ^ sh.val
      let r := rounded (seen (0x80 + 2 * cd.val))
      let i := rounded (seen (0x81 + 2 * cd.val))
      Completes (.crnd c g cd sh) s fun t => State.DResult s t c.val false
        (s.result c.val 2 g.val (kept 16 i ++ kept 16 r).toNat ++ s.saturates c.val (excess 16 r || excess 16 i))) ∧
    (∀ g : Fin 32,
      let re40 := BitVec.ofNat 40 (s.rd c.val (0x80 + 2 * cd.val))
      let im40 := BitVec.ofNat 40 (s.rd c.val (0x81 + 2 * cd.val))
      Completes (.cget c g cd 0) s (fun t => State.DResult s t c.val false
        (s.result c.val 2 g.val (re40.setWidth 32).toNat)) ∧
      Completes (.cget c g cd 1) s (fun t => State.DResult s t c.val false
        (s.result c.val 2 g.val (im40.setWidth 32).toNat)) ∧
      (s.rd c.val (0x80 + 2 * cd.val) < 2 ^ 40 → s.rd c.val (0x81 + 2 * cd.val) < 2 ^ 40 → Completes (.cget c g cd 2) s
        fun t => State.DResult s t c.val false
          (s.result c.val 2 g.val ((im40.extractLsb' 32 8) ++ (re40.extractLsb' 32 8)).toNat)) ∧
      (∀ i ∈ [Instr.cget c g cd 3, Instr.cput c g cd 3], Completes i s fun t => State.Faulted s t c.val 0x0502) ∧
      let lastRe := BitVec.ofNat 40 ((s.core c.val).newest (bankKey (s.level c.val) (0x80 + 2 * cd.val)))
      let lastIm := BitVec.ofNat 40 ((s.core c.val).newest (bankKey (s.level c.val) (0x81 + 2 * cd.val)))
      let w := s.g c.val g.val
      Completes (.cput c g cd 0) s (fun t => State.DResult s t c.val false
        (s.result c.val 2 (0x80 + 2 * cd.val) ((lastRe.extractLsb' 32 8) ++ w).toNat)) ∧
      Completes (.cput c g cd 1) s (fun t => State.DResult s t c.val false
        (s.result c.val 2 (0x81 + 2 * cd.val) ((lastIm.extractLsb' 32 8) ++ w).toNat)) ∧
      Completes (.cput c g cd 2) s (fun t => State.DResult s t c.val false
        (s.result c.val 2 (0x80 + 2 * cd.val) ((w.extractLsb' 0 8) ++ (lastRe.setWidth 32)).toNat ++
          s.result c.val 2 (0x81 + 2 * cd.val) ((w.extractLsb' 8 8) ++ (lastIm.setWidth 32)).toNat))) ∧
    (∀ (d w : Fin 32) (sc : Fin 4), d.val % 2 = 0 → sc.val < 3 →
      let k := if sc.val = 0 then 0 else if sc.val = 1 then 1 else s.rd c.val 0x93
      let tr := halfI w * halfI b - halfQ w * halfQ b
      let ti := halfI w * halfQ b + halfQ w * halfI b
      let out_ (v : Int) : Int := (v + 2 ^ (14 + k)) / 2 ^ (15 + k)
      let ui := out_ (halfI a * 2 ^ 15 + tr)
      let uq := out_ (halfQ a * 2 ^ 15 + ti)
      let vi := out_ (halfI a * 2 ^ 15 - tr)
      let vq := out_ (halfQ a * 2 ^ 15 - ti)
      Completes (.bfly c d a b w sc) s fun t => State.DResult s t c.val false
        (s.result c.val 3 d.val (kept 16 uq ++ kept 16 ui).toNat ++ s.result c.val 3 (d.val + 1) (kept 16 vq ++ kept 16 vi).toNat ++
          s.saturates c.val (excess 16 ui || excess 16 uq || excess 16 vi || excess 16 vq) ++
          (if [ui, uq, vi, vq].any (fun h => decide (8192 ≤ h.natAbs)) then s.result c.val 2 0x92 1 else []))) ∧
    (∀ d w : Fin 32, ∀ sc : Fin 4, d.val % 2 = 1 ∨ sc.val = 3 →
      Completes (.bfly c d a b w sc) s fun t => State.Faulted s t c.val 0x0502) ∧
    Completes (.bstg c) s (fun t => State.DResult s t c.val false
      (s.result c.val 2 0x93 (s.rd c.val 0x92) ++ s.result c.val 2 0x92 0 ++
        s.result c.val 2 0x60 (min 31 (s.rd c.val 0x60 + s.rd c.val 0x92))))

/-! ### Reed cores: control flow -/

/-- R169, R171, R226 to R228, R231 (07_reed_core_architecture.md, 08_reed_core_isa.md): branches, calls and returns. The condition
is taken from the flags and GA as control flow sees them; the transfer waits for the two delay slots; an unused GA that is not 0, a
place in a delay slot and a place near the end of an active loop make the bundle illegal. -/
def Obligations.ReedBranchesCallsAndReturns : Prop :=
  ∀ (c : Fin 64) (k : Cond) (tgt : Fin 16384) (s : State), s.canOpen c.val = true →
    let file (id : Nat) : Nat := (s.core c.val).file (bankKey (s.level c.val) id)
    let n := decide (file 0x90 = 1)
    let z := decide (file 0x91 = 1)
    let v := decide (file 0x92 = 1)
    let cy := decide (file 0x93 = 1)
    let holds : Bool := [true, z, !z, n, !n, v, !v, cy, !cy, n != v, n == v, !z && (n == v), z || (n != v),
      decide (file k.ga.val = 0), decide (file k.ga.val ≠ 0), decide (file 0x94 = 1)].getD k.cond.val false
    let legal : Prop := k.cond.val = 13 ∨ k.cond.val = 14 ∨ k.ga.val = 0
    let goes (x : Nat) (call : Bool) (t : State) : Prop := State.Closed s t c.val { s.core c.val with delay := some {
      left := 2, target := if holds = true then some x else none
      link := if holds && call then some (bankKey (s.level c.val) 31, s.pc c.val + 3) else none } } (s.pc c.val + 1)
    ((s.core c.val).delay = none → s.nearLoopEnd c.val = false →
      (legal → Completes (.br c k tgt) s (goes tgt.val false) ∧ Completes (.call c k tgt) s (goes tgt.val true) ∧
        Completes (.ret c k) s (goes (file 31 % 2 ^ 14) false)) ∧
      Completes (.brr c k) s (goes (file k.ga.val % 2 ^ 14) false) ∧
      Completes (.callr c k) s (goes (file k.ga.val % 2 ^ 14) true)) ∧
    (¬ legal → ∀ i ∈ [Instr.br c k tgt, Instr.call c k tgt, Instr.ret c k, Instr.brk c 0 k tgt],
      Completes i s fun t => State.Faulted s t c.val 0x0502) ∧
    ((s.core c.val).delay ≠ none ∨ s.nearLoopEnd c.val = true →
      ∀ i ∈ [Instr.br c k tgt, Instr.brr c k, Instr.call c k tgt, Instr.callr c k, Instr.ret c k, Instr.loop c 0 (.inl 1) tgt,
        Instr.brk c 0 k tgt, Instr.reti c, Instr.halt c, Instr.swi c, Instr.ien c 3 true],
      Completes i s fun t => State.Faulted s t c.val 0x0502)

/-- R191, R192, R199, R228 to R230 (07_reed_core_architecture.md, 08_reed_core_isa.md): LOOP and BRK set the loop registers, RETI
returns to the interrupted level, HALT stops issue after its delay slots, SWI sets source 8 pending, and IEN writes the level
enables. -/
def Obligations.ReedLoopReturnHaltAndInterruptOperations : Prop :=
  ∀ (c : Fin 64) (s : State), s.canOpen c.val = true → (s.core c.val).delay = none → s.nearLoopEnd c.val = false →
    let n := c.val / 4
    let i := c.val % 4
    let pc := s.pc c.val
    let loops (d : Delay) (f : Nat → Nat) (t : State) : Prop := ∃ regs : SMap Nat,
      State.Closed s t c.val { s.core c.val with regs := regs, delay := some d } (pc + 1) ∧
      ∀ key, SMap.get (fun _ => 0) regs key = f key
    (∀ (lv : Fin 3) (count : BitVec 16 ⊕ Fin 32) (tgt : Fin 16384), pc + 3 ≤ tgt.val →
      let lc : Nat := match count with
        | .inl v => v.toNat
        | .inr g => (s.core c.val).file (bankKey (s.level c.val) g.val) % 2 ^ 16
      Completes (.loop c lv.castSucc count tgt) s (loops
        { left := 2, target := if lc = 0 then some (tgt.val + 1) else none }
        (fun key => if key = idLS lv.val then pc + 3 else if key = idLE lv.val then tgt.val else if key = idLC lv.val then lc
          else (s.core c.val).file key))) ∧
    (∀ (lv : Fin 4) (count : BitVec 16 ⊕ Fin 32) (tgt : Fin 16384), lv.val = 3 ∨ tgt.val < pc + 3 →
      Completes (.loop c lv count tgt) s fun t => State.Faulted s t c.val 0x0502) ∧
    (∀ (lv : Fin 3) (k : Cond) (tgt : Fin 16384), k.cond.val = 13 ∨ k.cond.val = 14 ∨ k.ga.val = 0 →
      (s.condHolds c.val k = true → Completes (.brk c lv.castSucc k tgt) s (loops { left := 2, target := some tgt.val }
        (fun key => if key ∈ ((List.range 3).filter (fun l => decide (lv.val ≤ l))).map idLC then 0 else (s.core c.val).file key))) ∧
      (s.condHolds c.val k = false → Completes (.brk c lv.castSucc k tgt) s fun t =>
        State.Closed s t c.val { s.core c.val with delay := some { left := 2 } } (pc + 1))) ∧
    (∀ (k : Cond) (tgt : Fin 16384), Completes (.brk c 3 k tgt) s fun t => State.Faulted s t c.val 0x0502) ∧
    (s.level c.val = 1 → Completes (.reti c) s fun t => State.Closed s t c.val { s.core c.val with
      delay := some { left := 2, target := some (s.fld (fRC_i_ELR_ELR1 n i)), cl := some 0 } } (pc + 1)) ∧
    (s.level c.val = 2 → Completes (.reti c) s fun t => State.Closed s t c.val { s.core c.val with
      delay := some { left := 2, target := some (s.fld (fRC_i_ELR_ELR2 n i)), cl := some (s.core c.val).below } } (pc + 1)) ∧
    (s.level c.val = 0 → Completes (.reti c) s fun t => State.Faulted s t c.val 0x0502) ∧
    Completes (.halt c) s (fun t =>
      State.Closed s t c.val { s.core c.val with delay := some { left := 2, halt := true } } (pc + 1) ∧
      t.rcState c.val = s.rcState c.val) ∧
    Completes (.swi c) s (fun t =>
      State.Closed s t c.val { s.core c.val with delay := some { left := 2 } } (pc + 1) [rRC_i_IRQ_PEND n i] ∧
      ∀ j < 11, bitOf (t.fld (fRC_i_IRQ_PEND_PEND n i)) j = (bitOf (s.fld (fRC_i_IRQ_PEND_PEND n i)) j || j == 8)) ∧
    (∀ (m : Fin 4) (rc : Bool), Completes (.ien c m rc) s fun t =>
      State.Closed s t c.val { s.core c.val with delay := some { left := 2 } } (pc + 1) [rRC_i_IRQ_CTRL n i] ∧
      t.flag (fRC_i_IRQ_CTRL_IE1 n i) = (if m.val % 2 = 1 then rc else s.flag (fRC_i_IRQ_CTRL_IE1 n i)) ∧
      t.flag (fRC_i_IRQ_CTRL_IE2 n i) = (if 2 ≤ m.val then rc else s.flag (fRC_i_IRQ_CTRL_IE2 n i)) ∧
      t.flag (fRC_i_IRQ_CTRL_TIMER_ARM n i) = s.flag (fRC_i_IRQ_CTRL_TIMER_ARM n i))

/-- R171, R192, R199, R228 to R230 (07_reed_core_architecture.md, 08_reed_core_isa.md): the end of a bundle. In a delay slot the
count goes down; after the last, a transfer goes to its target, a call writes g31, HALT gives HALTED or, while the timed queue holds
commands, HALTING, and RETI takes its level or the next eligible handler. At the end of an active loop the count goes down and the
body begins again. -/
def Obligations.ReedDelaySlotsAndZeroOverheadLoops : Prop :=
  ∀ (c : Fin 64) (s : State), s.coreReady c.val = true → s.dbgHalted c.val = false → (s.core c.val).half = true →
    (s.core c.val).post = {} → (s.core c.val).flight = [] →
    let pc := s.pc c.val
    let k := s.core c.val
    ((∀ l < 3, k.file (idLC l) = 0 ∨ k.file (idLE l) ≠ pc) →
      (k.delay = none → Completes (.tnop c false) s fun t => State.Closed s t c.val k (pc + 1)) ∧
      (∀ d, k.delay = some d → 1 < d.left → Completes (.tnop c false) s fun t =>
        State.Closed s t c.val { k with delay := some { d with left := d.left - 1 } } (pc + 1)) ∧
      (∀ d, k.delay = some d → d.left ≤ 1 → d.cl = none → d.halt = false → d.link = none →
        Completes (.tnop c false) s fun t => State.Closed s t c.val { k with delay := none } (d.target.getD (pc + 1))) ∧
      (∀ d key v, k.delay = some d → d.left ≤ 1 → d.cl = none → d.halt = false → d.link = some (key, v) →
        Completes (.tnop c false) s fun t =>
          (t.core c.val).file key = v ∧ (∀ key', key' ≠ key → (t.core c.val).file key' = k.file key') ∧
          (t.core c.val).delay = none ∧ t.pc c.val = d.target.getD (pc + 1) % 2 ^ 14) ∧
      (∀ d, k.delay = some d → d.left ≤ 1 → d.cl = none → d.halt = true → d.link = none →
        Completes (.tnop c false) s fun t =>
          t.rcState c.val = (if k.queue = [] then rcHalted else rcHalting) ∧ (t.core c.val).queue = k.queue) ∧
      (∀ d l, k.delay = some d → d.left ≤ 1 → d.cl = some l → l < 4 → d.halt = false → d.link = none →
        (s.irqSelect c.val l = none → Completes (.tnop c false) s fun t =>
          t.level c.val = l ∧ t.pc c.val = d.target.getD (pc + 1) % 2 ^ 14 ∧ (t.core c.val).delay = none) ∧
        (∀ src, s.irqSelect c.val l = some src → Completes (.tnop c false) s fun t =>
          t.level c.val = s.irqLevel c.val src ∧
          t.pc c.val = (s.fld (fRC_i_IMG_VBASE (c.val / 4) (c.val % 4)) + 4 * src) % 2 ^ 14 ∧
          bitOf (t.fld (fRC_i_IRQ_PEND_PEND (c.val / 4) (c.val % 4))) src = false))) ∧
    (∀ l < 3, k.delay = none → k.file (idLE l) = pc → 0 < k.file (idLC l) →
      (∀ l' < 3, l' ≠ l → k.file (idLC l') = 0 ∨ k.file (idLE l') ≠ pc) →
      Completes (.tnop c false) s fun t =>
        t.pc c.val = (if k.file (idLC l) = 1 then pc + 1 else k.file (idLS l)) % 2 ^ 14 ∧
        (t.core c.val).file (idLC l) = k.file (idLC l) - 1 ∧
        (∀ key, key ≠ idLC l → (t.core c.val).file key = k.file key) ∧ (t.core c.val).no = k.no + 1)

/-- R168, R171, R204 (07_reed_core_architecture.md, 08_reed_core_isa.md): an operation that begins a bundle ends the bundle before
it, whose T-slot was not given, as a TNOP in that T-slot would. That a bundle may come without its T-slot is the model's choice
(assumption log, row 13). -/
def Obligations.ReedNewBundleEndsTheOneBefore : Prop :=
  ∀ (c : Fin 64) (s t : State) (i : Instr), (s.core c.val).half = true → exec (.tnop c false) s = .next t →
    i.opens = some c →
    exec i s = exec i t

/-- R189 to R192, R188 (07_reed_core_architecture.md): interrupt entry takes the eligible source of the highest level and, among
those, the lowest number: the return address and level are saved, its pending bit clears, and the core continues at its vector;
with no eligible source nothing happens. The timer, IRQ tasks and the mailbox set their sources pending. -/
def Obligations.ReedInterruptEntryAndSources : Prop :=
  (∀ (c : Fin 64) (s : State), s.coreReady c.val = true → s.dbgHalted c.val = false → (s.core c.val).half = false →
    (s.core c.val).delay = none →
    let n := c.val / 4
    let i := c.val % 4
    let taken (src : Nat) : Prop := s.irqEligible c.val (s.level c.val) src = true ∧
      ∀ j < 11, j ≠ src → s.irqEligible c.val (s.level c.val) j = true →
        s.irqLevel c.val j < s.irqLevel c.val src ∨ (s.irqLevel c.val j = s.irqLevel c.val src ∧ src < j)
    (∀ src < 11, taken src → Completes (.interruptEntry c) s fun t =>
      t.level c.val = s.irqLevel c.val src ∧
      t.fld (if s.irqLevel c.val src = 2 then fRC_i_ELR_ELR2 n i else fRC_i_ELR_ELR1 n i) = s.pc c.val ∧
      (s.irqLevel c.val src = 2 → (t.core c.val).below = s.level c.val) ∧
      (∀ j < 11, bitOf (t.fld (fRC_i_IRQ_PEND_PEND n i)) j = (bitOf (s.fld (fRC_i_IRQ_PEND_PEND n i)) j && j != src)) ∧
      t.pc c.val = (s.fld (fRC_i_IMG_VBASE n i) + 4 * src) % 2 ^ 14 ∧
      (t.core c.val).queue = (s.core c.val).queue ∧ (∀ c', c' ≠ c.val → t.core c' = s.core c') ∧
      State.Frame [.cores, .regs] s t ∧
      State.OnlyRegs [rRC_i_IRQ_PEND n i, rRC_i_ELR n i, rRC_i_STATUS n i, rRC_i_PC n i] s t) ∧
    ((∀ src < 11, s.irqEligible c.val (s.level c.val) src = false) → Completes (.interruptEntry c) s fun t => t = s)) ∧
  (∀ (c : Fin 64) (s : State),
    let f := fRC_i_IRQ_PEND_PEND (c.val / 4) (c.val % 4)
    let pends (src : Nat) (t : State) : Prop := ∀ j < 11, bitOf (t.fld f) j = (bitOf (s.fld f) j || j == src)
    (s.poolLive (c.val / 4) = true → s.flag (fRC_i_IRQ_CTRL_TIMER_ARM (c.val / 4) (c.val % 4)) = true →
      Completes (.coreTimer c) s fun t => pends 1 t ∧
        t.flag (fRC_i_IRQ_CTRL_TIMER_ARM (c.val / 4) (c.val % 4)) = false ∧ State.Frame [.regs] s t ∧
        State.OnlyRegs [f.off, rRC_i_IRQ_CTRL (c.val / 4) (c.val % 4)] s t) ∧
    (∀ j : Fin 4, s.poolLive (c.val / 4) = true → Completes (.irq c j) s fun t =>
      pends (4 + j.val) t ∧ State.Frame [.regs, .fen] s t ∧ State.OnlyRegs [f.off] s t) ∧
    (∀ (p : Path) (v : Word), s.mayWrite p (rRC_i_MAILBOX (c.val / 4) (c.val % 4)) = true →
      Completes (.mailbox p c v) s fun t => pends 0 t ∧ t.reg (rRC_i_MAILBOX (c.val / 4) (c.val % 4)) = v ∧
        State.Frame [.regs] s t ∧ State.OnlyRegs [f.off, rRC_i_MAILBOX (c.val / 4) (c.val % 4)] s t))

/-! ### Reed cores: the T-slot, delivery and commits -/

/-- R177, R178, R205 to R208 (07_reed_core_architecture.md, 08_reed_core_isa.md): a timed command enters the timed queue with its
time st + o, its operands, its bundle index and the next command number; a full queue holds its bundle; a target outside the legal
set, or a register that is not aligned, makes the bundle illegal. -/
def Obligations.ReedTimedCommandsEnterTheQueue : Prop :=
  ∀ (c : Fin 64) (tgt : Fin 128) (x : TArg) (s : State) (i : Instr) (top align : Nat) (targets : List (Nat × Nat)),
    (i, top, align, targets) ∈ [
      (Instr.play c tgt x, 1, 1, [(0x00, 0x48)]),
      (Instr.cplay c tgt x, 2, 2, [(0x00, 0x48)]),
      (Instr.frame c tgt x, 3, 1, [(0x00, 0x40)]),
      (Instr.framea c tgt x, 4, 1, [(0x00, 0x40)]),
      (Instr.freq c tgt x, 5, 2, [(0x00, 0x40), (0x48, 0x4E)]),
      (Instr.freqp c tgt x, 6, 4, [(0x00, 0x40), (0x48, 0x4E)]),
      (Instr.amp c tgt x, 7, 1, [(0x00, 0x48)]),
      (Instr.win c tgt x, 8, 1, [(0x20, 0x21)]),
      (Instr.mark c tgt x, 9, 1, [(0x50, 0x54)]),
      (Instr.jump c tgt x, 10, 1, [(0x00, 0x48)]),
      (Instr.trig c tgt x, 11, 1, [(0x58, 0x5C)])] →
    let gs : Nat := match x with
      | .short g _ => g.val
      | .long g _ => 24 + g.val
    let off : Nat := match x with
      | .short _ o => o.toNat
      | .long _ o => o.toNat
    let long : Bool := match x with
      | .short _ _ => false
      | .long _ _ => true
    let n := c.val / 4
    let j := c.val % 4
    let k := s.core c.val
    let legal : Prop := (∃ r ∈ targets, r.1 ≤ tgt.val ∧ tgt.val < r.2) ∧ gs % align = 0
    let carries (t : TCmd) : Prop := t.top = top ∧ t.tgt = tgt.val ∧ t.time = (s.schedule c.val + off) % 2 ^ 64 ∧
      t.pc = s.pc c.val ∧ t.core = c.val ∧ t.a = s.g c.val gs ∧ (2 ≤ align → t.b = s.g c.val (gs + 1)) ∧
      (align = 4 → t.c = s.g c.val (gs + 2) ∧ t.d = s.g c.val (gs + 3))
    s.canJoin c.val long = true →
      (legal → s.flat c.val = true → k.queue.length < 64 → Completes i s fun t => ∃ cmd : TCmd, carries cmd ∧
        cmd.seq = s.reg (rRC_i_CMDSEQ n j) ∧
        State.Closed s t c.val { k with queue := k.queue ++ [cmd] } (s.pc c.val + 1)
          [rRC_i_CMDSEQ n j, rRC_i_STATUS n j, rRC_i_TQ n j] ∧
        t.reg (rRC_i_CMDSEQ n j) = s.reg (rRC_i_CMDSEQ n j) + 1 ∧
        t.fld (fRC_i_STATUS_QLEVEL n j) = k.queue.length + 1 ∧
        t.fld (fRC_i_TQ_MAXLEVEL n j) = max (s.fld (fRC_i_TQ_MAXLEVEL n j)) (k.queue.length + 1) ∧
        t.rcState c.val = s.rcState c.val ∧ t.level c.val = s.level c.val) ∧
      (legal → 64 ≤ k.queue.length → Completes i s fun t => ∃ cmd : TCmd, carries cmd ∧
        t.core c.val = { k with held := some cmd } ∧ (∀ c', c' ≠ c.val → t.core c' = s.core c') ∧
        State.Frame [.cores] s t) ∧
      (¬ legal → Completes i s fun t => State.Faulted s t c.val 0x0502)

/-- R177, R181, R211 (07_reed_core_architecture.md, 08_reed_core_isa.md): TNOP, WAIT, SYNC and FENCE. WAIT adds to the schedule
time, SYNC takes the time of DE; a FENCE whose condition is not met holds its bundle, and its release lets the bundle go on. -/
def Obligations.ReedScheduleTimeAndFence : Prop :=
  ∀ (c : Fin 64) (s : State),
    let k := s.core c.val
    let met : Prop := k.queue = [] ∧ k.lastT < s.now
    (∀ long : Bool, s.canJoin c.val long = true → s.flat c.val = true →
      Completes (.tnop c long) s (fun t => State.Closed s t c.val k (s.pc c.val + 1)) ∧
      (met → Completes (.fence c long) s fun t => State.Closed s t c.val k (s.pc c.val + 1)) ∧
      (¬ met → Completes (.fence c long) s fun t =>
        t.core c.val = { k with fence := true } ∧ (∀ c', c' ≠ c.val → t.core c' = s.core c') ∧ State.Frame [.cores] s t)) ∧
    (∀ o : TOff,
      let off : Nat := match o with
        | .short v => v.toNat
        | .long v => v.toNat
      let long : Bool := match o with
        | .short _ => false
        | .long _ => true
      s.canJoin c.val long = true → s.flat c.val = true →
        Completes (.wait c o) s (fun t =>
          State.Closed s t c.val { k with st := k.st + BitVec.ofNat 64 off } (s.pc c.val + 1)) ∧
        Completes (.sync c o) s (fun t =>
          State.Closed s t c.val { k with st := BitVec.ofNat 64 (s.now / 16 * 16 + off) } (s.pc c.val + 1))) ∧
    (k.fence = true → k.queue = [] → s.poolLive (c.val / 4) = true → k.post = {} → s.flat c.val = true →
      Completes (.fenceRelease c) s fun t => State.Closed s t c.val { k with fence := false } (s.pc c.val + 1)) ∧
    (k.fence = false ∨ k.queue ≠ [] → Completes (.fenceRelease c) s fun t => t = s)

/-- R182 (07_reed_core_architecture.md): the delivery of a command for a unit that is not enabled. -/
def Obligations.ReedCommandForDisabledUnitIsDiscarded : Prop :=
  ∀ (c : Fin 64) (x : TCmd) (rest : List TCmd) (s : State),
    let n := c.val / 4
    let i := c.val % 4
    (s.core c.val).queue = x :: rest → (s.core c.val).held = none → s.poolLive n = true →
    ((x.tgt < 0x20 ∨ (0x48 ≤ x.tgt ∧ x.tgt < 0x4C)) ∧ s.flag (fDRV_STATUS_ENABLED n) = false) ∨
      (((0x20 ≤ x.tgt ∧ x.tgt < 0x40) ∨ (0x4C ≤ x.tgt ∧ x.tgt < 0x4E)) ∧ s.flag (fRO_STATUS_ENABLED n) = false) ∨
      ((0x40 ≤ x.tgt ∧ x.tgt < 0x48) ∧ s.flag (fFLX_STATUS_ENABLED n) = false) →
    Completes (.commandDelivery c) s fun t =>
      (t.core c.val).queue = rest ∧ t.armed = s.armed ∧ t.faultLog = s.faultLog ++ [0x0505] ∧
      t.fld (fRC_i_COUNT_B_DISABLED n i) = min (s.fld (fRC_i_COUNT_B_DISABLED n i) + 1) 255 ∧
      t.fld (fRC_i_COUNT_A_LATE n i) = s.fld (fRC_i_COUNT_A_LATE n i) ∧
      t.runs = s.runs.map (fun r =>
        if r.active && r.hasPool n then { r with marks := r.marks ++ [(x.time, 0x0505)] } else r)

/-- R178 to R181, R184, R188, R211 (07_reed_core_architecture.md, 08_reed_core_isa.md): the delivery of the head of the timed queue
for an enabled unit: late it is discarded with FAULT 0x0501; a full buffer keeps it; else it enters every armed buffer it names,
an EXACT CPLAY with the decision that its slot holds. A bundle held by the full queue then enters its command. -/
def Obligations.ReedCommandDelivery : Prop :=
  ∀ (c : Fin 64) (x : TCmd) (rest : List TCmd) (s : State),
    let n := c.val / 4
    let i := c.val % 4
    let k := s.core c.val
    k.queue = x :: rest → s.poolLive n = true → s.targetOff n x.tgt = false →
    let buffers : List Nat := if x.top = 8 then ((List.range 32).filter (fun k => x.a.getLsbD k)).map (0x60 + ·)
      else if 0x58 ≤ x.tgt then [0x58] else [x.tgt]
    let early : Prop := s.now / 16 * 16 + 768 ≤ x.time
    let room : Prop := ∀ b ∈ buffers, (s.armedAt n b).length < 16
    (¬ early → k.held = none → Completes (.commandDelivery c) s fun t =>
      (t.core c.val).queue = rest ∧ t.armed = s.armed ∧ t.faultLog = s.faultLog ++ [0x0501] ∧
      t.fld (fRC_i_COUNT_A_LATE n i) = min (s.fld (fRC_i_COUNT_A_LATE n i) + 1) 65535 ∧
      bitOf (t.fld (fRC_i_IRQ_PEND_PEND n i)) 9 = true ∧ t.rcState c.val = (if rest = [] ∧ s.rcState c.val = rcHalting then
        rcHalted else s.rcState c.val) ∧
      t.runs = s.runs.map (fun r =>
        if r.active && r.hasPool n then { r with marks := r.marks ++ [(x.time, 0x0501)] } else r)) ∧
    (early → ¬ room → Completes (.commandDelivery c) s fun t => t = s) ∧
    (early → room → k.held = none → rest.length < 128 → Completes (.commandDelivery c) s fun t =>
      (t.core c.val).queue = rest ∧ (t.core c.val).lastT = max k.lastT x.time ∧ t.faultLog = s.faultLog ∧
      (∀ b, b ∉ buffers → t.armedAt n b = s.armedAt n b) ∧
      (∀ b ∈ buffers, ∃ a : Armed, t.armedAt n b = s.armedAt n b ++ [a] ∧ a.cmd = x ∧
        ((x.top ≠ 2 ∨ x.b.getLsbD 12 = true) → a.captured = none) ∧
        (x.top = 2 → x.b.getLsbD 12 = false →
          let v := s.slot (fieldOf x.b 9 0)
          a.captured = if v.2.1 = true ∧ v.2.2 = fieldOf x.b 19 16 then some v.1 else none)) ∧
      t.fld (fRC_i_STATUS_QLEVEL n i) = rest.length ∧
      (bitOf (t.fld (fRC_i_IRQ_PEND_PEND n i)) 3 = (bitOf (s.fld (fRC_i_IRQ_PEND_PEND n i)) 3 ||
        (rest.length == s.fld (fRC_i_TQ_LOWMARK n i)))) ∧
      t.rcState c.val = (if rest = [] ∧ s.rcState c.val = rcHalting then rcHalted else s.rcState c.val)) ∧
    (early → room → rest.length = 63 → k.post = {} → s.flat c.val = true → ∀ h, k.held = some h →
      Completes (.commandDelivery c) s fun t =>
        (t.core c.val).queue = rest ++ [{ h with seq := s.reg (rRC_i_CMDSEQ n i) }] ∧ (t.core c.val).held = none ∧
        (t.core c.val).no = k.no + 1 ∧ t.pc c.val = (s.pc c.val + 1) % 2 ^ 14 ∧
        t.reg (rRC_i_CMDSEQ n i) = s.reg (rRC_i_CMDSEQ n i) + 1)

/-- R70, R74, R75, R91, R105, R122, R179 to R181, R200, R210 (03_drive_synthesis.md, 05_readout_receivers.md,
07_reed_core_architecture.md): a committed command leaves its armed buffer, is recorded as the last commit, and acts: FRAME and
FRAMEA, AMP, FREQ, MARK, WIN and TRIG. -/
def Obligations.ReedCommandCommitActs : Prop :=
  ∀ (n : Fin 16) (b : Fin 128) (a : Armed) (rest : List Armed) (s : State), s.poolLive n.val = true →
    s.armedAt n.val b.val = a :: rest → (∀ y ∈ rest, a.cmd.time < y.cmd.time) → a.cmd.core / 4 = n.val →
    a.cmd.time < 2 ^ 64 → (s.core a.cmd.core).lastCommit = none →
    let x := a.cmd
    let i := x.core % 4
    let ftw := x.a.toNat + 2 ^ 32 * (x.b.toNat % 2 ^ 16)
    let post (t : State) : Prop := t.armedAt n.val b.val = rest ∧ t.reg (rRC_i_LAST_COMMIT_SEQ n.val i) = x.seq ∧
      t.reg64 (rRC_i_LAST_COMMIT_L n.val i) = x.time ∧ t.faultLog = s.faultLog
    (x.top = 3 → x.tgt < 0x40 → Completes (.commandCommit n b) s fun t => post t ∧ t.reg (frameReg n.val x.tgt) = x.a ∧
      t.chains = s.chains) ∧
    (x.top = 4 → x.tgt < 0x40 → Completes (.commandCommit n b) s fun t => post t ∧
      t.reg (frameReg n.val x.tgt) = s.reg (frameReg n.val x.tgt) + x.a ∧ t.chains = s.chains) ∧
    (x.top = 7 → x.tgt < 0x20 → Completes (.commandCommit n b) s fun t => post t ∧
      t.fld (fDRV_Tk_AMP_AMP n.val x.tgt) = fieldOf x.a 17 0 ∧ t.chains = s.chains) ∧
    (x.top = 5 → x.tgt < 0x20 → s.engAlloc n.val x.tgt = 0 ∨ s.toneInBand n.val x.tgt ftw = true → Completes (.commandCommit n b) s fun t => post t ∧
      t.reg48 (rDRV_Tk_FTW_L n.val x.tgt) = ftw ∧
      t.reg48 (rDRV_Tk_POFF_L n.val x.tgt) = s.reg48 (rDRV_Tk_POFF_L n.val x.tgt)) ∧
    (x.top = 6 → x.tgt < 0x20 → s.engAlloc n.val x.tgt = 0 ∨ s.toneInBand n.val x.tgt ftw = true → Completes (.commandCommit n b) s fun t => post t ∧
      t.reg48 (rDRV_Tk_FTW_L n.val x.tgt) = ftw ∧
      t.reg48 (rDRV_Tk_POFF_L n.val x.tgt) = x.c.toNat + 2 ^ 32 * (x.d.toNat % 2 ^ 16)) ∧
    (x.top = 8 → 0x60 ≤ b.val → x.time % 8 = 0 → Completes (.commandCommit n b) s fun t => post t ∧
      (t.tone n.val (b.val - 0x60)).seqs = (s.tone n.val (b.val - 0x60)).seqs ++ [WinSeq.mk x.time
        (x.time + 32 * s.fld (fRO_Tk_WIN_DELAY_WIN_DELAY n.val (b.val - 0x60)))]) ∧
    (∀ m < 4, x.top = 9 → x.tgt = 0x50 + m → s.flag (fMK_m_CFG_SRC_CMD n.val m) = true →
      Completes (.commandCommit n b) s fun t => post t ∧
        (t.marker n.val m).cmds = (s.marker n.val m).cmds ++ [(x.time + s.fld (fMK_m_DELAY_DELAY n.val m),
          if fieldOf x.a 1 0 = 3 then 0 else fieldOf x.a 1 0, max 16 (fieldOf x.a 31 16))]) ∧
    (∀ j < 4, x.top = 11 → x.tgt = 0x58 + j → Completes (.commandCommit n b) s fun t => post t ∧
      t.fen.presented = s.fen.presented ++ [0x200 + 4 * x.core + j])

/-- R74, R77, R79, R183 to R186 (03_drive_synthesis.md, 07_reed_core_architecture.md): a PLAY starts its chain at T; a CPLAY plays
A or B by the captured state, and its default, with FAULT 0x0504 that marks no shot, when it has captured nothing; a NONE leaves the
chain in progress. Stated for drive tones and entries that the tone plays. -/
def Obligations.ReedPlaysAndConditionalPlays : Prop :=
  ∀ (n : Fin 16) (b : Fin 32) (a : Armed) (s : State), s.poolLive n.val = true →
    s.armedAt n.val b.val = [a] → a.cmd.core / 4 = n.val → a.cmd.tgt = b.val → (s.chain n.val b.val).active = false →
    (s.chain n.val b.val).muted = false →
    let x := a.cmd
    let usable (e : Nat) : Prop := (s.segEntry n.val e).valid = true ∧ (s.segEntry n.val e).type = 0 ∧
      (s.segEntry n.val e).stream = false ∧
      2 ^ 20 ≤ s.fld (fDRV_Tk_ALLOC_ALLOC n.val b.val) * (s.segEntry n.val e).rate
    let plays (e : Nat) (t : State) : Prop := (t.chain n.val b.val).active = true ∧ (t.chain n.val b.val).entry = e ∧
      (t.chain n.val b.val).start = x.time * 65536 ∧ (t.chain n.val b.val).began = x.time ∧
      (t.chain n.val b.val).passNo = 0 ∧ t.armedAt n.val b.val = []
    let eA := fieldOf x.a 11 0
    let eB := fieldOf x.a 27 16
    (x.top = 1 → usable eA → Completes (.commandCommit n ⟨b.val, by omega⟩) s fun t => plays eA t ∧ t.faultLog = s.faultLog) ∧
    (x.top = 1 → (s.segEntry n.val eA).valid = false → Completes (.commandCommit n ⟨b.val, by omega⟩) s fun t =>
      (t.chain n.val b.val).active = false ∧ t.faultLog = s.faultLog ++ [0x0203]) ∧
    (x.top = 2 → x.b.getLsbD 12 = false →
      (a.captured = some 0 → x.a.getLsbD 12 = false → usable eA → Completes (.commandCommit n ⟨b.val, by omega⟩) s
        fun t => plays eA t ∧ t.faultLog = s.faultLog) ∧
      (a.captured = some 1 → x.a.getLsbD 28 = false → usable eB → Completes (.commandCommit n ⟨b.val, by omega⟩) s
        fun t => plays eB t ∧ t.faultLog = s.faultLog) ∧
      (a.captured = some 0 → x.a.getLsbD 12 = true → Completes (.commandCommit n ⟨b.val, by omega⟩) s
        fun t => t.chains = s.chains ∧ t.faultLog = s.faultLog) ∧
      (a.captured = none → fieldOf x.b 25 24 = 1 → x.a.getLsbD 28 = false → usable eB →
        Completes (.commandCommit n ⟨b.val, by omega⟩) s fun t => plays eB t ∧ t.faultLog = s.faultLog ++ [0x0504] ∧
          t.fld (fRC_i_COUNT_A_MISSING n.val (x.core % 4)) = min (s.fld (fRC_i_COUNT_A_MISSING n.val (x.core % 4)) + 1) 65535 ∧
          bitOf (t.fld (fRC_i_IRQ_PEND_PEND n.val (x.core % 4))) 10 = true ∧
          t.runs.map (·.marks) = s.runs.map (·.marks)))

/-- R81 (03_drive_synthesis.md): a CUT that follows another on the same tone within 128 ticks. -/
def Obligations.SecondCutWithin128TicksIsDiscarded : Prop :=
  ∀ (n : Fin 16) (b : Fin 32) (a : Armed) (t0 : Nat) (s : State), s.poolLive n.val = true → s.armedAt n.val b.val = [a] →
    a.cmd.core / 4 = n.val → a.cmd.tgt = b.val → a.cmd.top = 10 → a.cmd.a.getLsbD 16 = true →
    (s.chain n.val b.val).muted = false → (s.chain n.val b.val).lastCut = some t0 → a.cmd.time < t0 + 128 →
    Completes (.commandCommit n ⟨b.val, by omega⟩) s fun t =>
      t.chains = s.chains ∧ t.faultLog = s.faultLog ++ [0x0204] ∧
      ∀ (j : Nat) (r : Run), s.runs[j]? = some r → r.active = true → r.hasPool n.val = true →
        ∃ r' : Run, t.runs[j]? = some r' ∧ r'.marks = r.marks ++ [(a.cmd.time, 0x0204)]

/-! ### Sedge -/

/-- R249, R251, R255, R258, R259 (09_sedge_decoder.md): the enable check, START and the round at which the session begins, FLUSH,
STOP, FRAME_CLR and the clear of the UNTRUSTED record. -/
def Obligations.SedgeSessionsBeginAndEnd : Prop :=
  (∀ (p : Path) (s : State), s.mayWrite p rSDG_CTRL = true →
    (s.flag fSDG_STATUS_ENABLED = false → s.sdgCheck = [] → Completes (.sdgEnable p) s fun t =>
      t.flag fSDG_CTRL_ENABLE = true ∧ t.flag fSDG_STATUS_ENABLED = true ∧ t.flag fSDG_STATUS_REFUSED = false ∧
      t.fld fSDG_STATUS_REASON = 0 ∧ t.sdg = s.sdg) ∧
    (s.flag fSDG_STATUS_ENABLED = false → s.mode ∉ [modeConfig, modeReady, modeDiag] →
      (∀ m < 512, s.flag (fSDG_MAP_s_EN m) = true → s.poolPresent (m / 32) = true) → Completes (.sdgEnable p) s fun t =>
        t.flag fSDG_STATUS_ENABLED = false ∧ t.flag fSDG_STATUS_REFUSED = true ∧ t.fld fSDG_STATUS_REASON = 0x02) ∧
    (s.flag fSDG_STATUS_ENABLED = true → s.fld fSDG_STATUS_STATE ∈ [0, 1] →
      s.mode ∈ [modeReady, modeRun, modeDrain, modeDiag] → 0 < s.regN rSDG_ROUND_P →
      Completes (.start p) s fun t => t.fld fSDG_STATUS_STATE = 1 ∧ ∃ r0, t.sdg.start = some r0 ∧
        s.now + 512 ≤ s.reg64 rSDG_ROUND_T0_L + s.regN rSDG_SKEW + r0 * s.regN rSDG_ROUND_P ∧
        ∀ r < r0, s.reg64 rSDG_ROUND_T0_L + s.regN rSDG_SKEW + r * s.regN rSDG_ROUND_P < s.now + 512) ∧
    (s.fld fSDG_STATUS_STATE ∈ [2, 3] → Completes (.start p) s fun t => t = s) ∧
    (s.fld fSDG_STATUS_STATE = 2 →
      (s.windowLo ≤ s.regN rSDG_FLUSH_ROUND → s.sdgUncommitted ≤ s.regN rSDG_FLUSH_ROUND → Completes (.flush p) s fun t =>
        t.fld fSDG_STATUS_STATE = 3 ∧ t.sdg = { s.sdg with flush := some (s.regN rSDG_FLUSH_ROUND) }) ∧
      (s.regN rSDG_FLUSH_ROUND < s.sdgUncommitted → Completes (.flush p) s fun t =>
        t.fld fSDG_STATUS_STATE = 1 ∧ t.sdg.flush = none ∧ t.faultLog = s.faultLog) ∧
      (s.sdgUncommitted < s.sdg.round → s.flag fSDG_UNTRUSTED_FLAG = false → s.sdg.round < 2 ^ 32 →
        Completes (.stop p) s fun t => t.fld fSDG_STATUS_STATE = 0 ∧ t.flag fSDG_UNTRUSTED_FLAG = true ∧
          t.regN rSDG_UNTR_FIRST = s.sdgUncommitted ∧ t.regN rSDG_UNTR_LAST = s.sdg.round - 1 ∧
          ∀ q < 512, t.reg (rSDG_FRAME_q q) = s.reg (rSDG_FRAME_q q)) ∧
      (s.sdg.round ≤ s.sdgUncommitted → Completes (.stop p) s fun t => t.fld fSDG_STATUS_STATE = 0 ∧
        t.flag fSDG_UNTRUSTED_FLAG = s.flag fSDG_UNTRUSTED_FLAG ∧ t.faultLog = s.faultLog)) ∧
    Completes (.frameClr p) s (fun t =>
      (∀ q < 512, t.reg (rSDG_FRAME_q q) = 0) ∧ t.reg64 rSDG_OBS_L = 0 ∧ t.flag fSDG_UNTRUSTED_FLAG = false ∧
      t.reg rSDG_UNTR_FIRST = 0 ∧ t.reg rSDG_UNTR_LAST = 0 ∧ t.sdg = s.sdg)) ∧
  (∀ (p : Path) (s : State), s.mayWrite p rSDG_UNTRUSTED = true → Completes (.untrustedClear p) s fun t =>
    t.flag fSDG_UNTRUSTED_FLAG = false ∧ t.reg rSDG_UNTR_FIRST = 0 ∧ t.reg rSDG_UNTR_LAST = 0 ∧
    (∀ q < 512, t.reg (rSDG_FRAME_q q) = s.reg (rSDG_FRAME_q q)) ∧ t.sdg = s.sdg) ∧
  (∀ (r0 : Nat) (g : Graph) (s : State), s.fld fSDG_STATUS_STATE = 1 → s.sdg.start = some r0 → s.sdg.graph = some g →
    Completes .sessionBegin s fun t =>
      t.fld fSDG_STATUS_STATE = 2 ∧ t.sdg.first = r0 ∧ t.sdg.round = r0 ∧ t.sdg.window = 0 ∧ t.sdg.base = r0 ∧
      t.sdg.start = none ∧ t.regN rSDG_FIRST_ROUND = r0 % 2 ^ 32 ∧ t.regN rSDG_ROUND_COMMITTED = 0xFFFFFFFF ∧
      (∀ d, d ∈ t.sdg.prev ↔ d < g.init.length ∧ g.init.getD d false = true) ∧ t.sdg.graph = some g)

/-- R235, R236, R242, R250, R252, R253 (09_sedge_decoder.md): a round closes with the detection events m XOR m of the round before,
a missing measurement repeating the last value; unmeasured mapped detectors raise FAULT 0x0702 once; a neighbour's timeout opens
the seam for the round, and the sixteenth in a row makes it SILENT; HELLO goes to a neighbour that is not LINKED. Stated for
graphs without neighbours and within the backlog limit where it says so. -/
def Obligations.SedgeRoundsCloseAndTimeOut : Prop :=
  (∀ (g : Graph) (s : State), s.sdg.graph = some g → s.fld fSDG_STATUS_STATE = 2 → s.sdg.flush = none →
    s.sdgNeighbours = [] → s.sdg.round < 2 ^ 24 →
    s.sdg.round ≤ s.windowLo + s.fld fSDG_CFG_W - 1 + s.fld fSDG_CFG_BACKLOG_MAX →
    let r := s.sdg.round
    let m (d : Nat) : Bool := match s.sdg.meas.find? (fun e => e.1 == d) with
      | some e => e.2
      | none => s.sdg.prev.contains d
    let missing : List Nat := ((List.range 1024).flatMap s.mapReach).filter (fun d => s.sdg.meas.all (fun e => e.1 != d))
    Completes .roundClose s fun t =>
      t.sdg.round = r + 1 ∧ t.regN rSDG_ROUND_CLOSED = r ∧ t.sdg.meas = [] ∧ t.sdg.writes = [] ∧
      (∀ d, d ∈ t.sdg.prev ↔ d < g.init.length ∧ m d = true) ∧
      (∃ ev : List Nat, t.sdg.events = s.sdg.events ++ [(r, ev)] ∧
        ∀ d, d ∈ ev ↔ d < g.init.length ∧ m d ≠ s.sdg.prev.contains d) ∧
      t.fld (fSDG_LOG_i_ROUND (r % 64)) = r ∧ t.flag (fSDG_LOG_i_MISSING (r % 64)) = decide (missing ≠ []) ∧
      t.fld fSDG_COUNT_A_MISSING = min (s.fld fSDG_COUNT_A_MISSING + missing.length) 16777215 ∧
      t.faultLog = (if missing = [] then s.faultLog else s.faultLog ++ [0x0702]) ∧
      t.fld fSDG_STATUS_STATE = 2 ∧ t.flag fSDG_UNTRUSTED_FLAG = s.flag fSDG_UNTRUSTED_FLAG) ∧
  (∀ (k : Fin 6) (r : Word) (s : State), s.fld fSDG_STATUS_STATE ∈ [2, 3] → s.sdg.first ≤ r.toNat → r.toNat < s.sdg.round → s.nbReady k.val r.toNat = false → r.toNat < 2 ^ 24 →
    Completes (.boundaryTimeout k r) s fun t =>
      t.nbReady k.val r.toNat = true ∧ t.sdg.silent = s.sdg.silent.set k.val (s.sdg.silent.getD k.val 0 + 1) ∧
      t.fld (fSDG_NBk_DISAGREE_TIMEOUT k.val) = min (s.fld (fSDG_NBk_DISAGREE_TIMEOUT k.val) + 1) 65535 ∧
      (s.fld (fSDG_LOG_i_ROUND (r.toNat % 64)) = r.toNat → t.flag (fSDG_LOG_i_SEAM_OPEN (r.toNat % 64)) = true) ∧
      (s.sdg.silent.getD k.val 0 < 15 → t.fld (fSDG_NBk_STATUS_STATE k.val) = s.fld (fSDG_NBk_STATUS_STATE k.val) ∧
        t.faultLog = s.faultLog) ∧
      (15 ≤ s.sdg.silent.getD k.val 0 → t.fld (fSDG_NBk_STATUS_STATE k.val) = 4 ∧
        t.faultLog = s.faultLog ++ [0x0704])) ∧
  (∀ (k node q : Nat) (s : State), s.fld fSDG_STATUS_STATE ∈ [1, 2, 3] → s.sdgNeighbours = [(k, node)] →
    s.fld (fSDG_NBk_STATUS_STATE k) ∈ [1, 3, 4] → s.route node = .port q none false → s.portActive q = true →
    s.flag fCW_STATUS_ENABLED = true → (s.cwPort q).queue = [] → (s.cwPort q).packet = none →
    (s.cwPort q).unacked.length < 256 → (s.cwPort q).used = (s.cwPort q).credRx →
    Completes .helloDue s fun t => ∃ f : Flit, f.cl = 1 ∧ f.kind = 0 ∧ f.dest = node ∧ f.src = s.nodeId ∧
      f.seq = (s.cwPort q).txSeq ∧ f.payload = s.sdgHello k node ∧ t.out = s.out ++ [.flit q f.bits] ∧
      (t.cwPort q).unacked = (s.cwPort q).unacked ++ [f] ∧ State.Frame [.out, .cw] s t)

/-- R245 to R247, R249, R255 (09_sedge_decoder.md): a commit applies each correction edge of its region once: every edge that is
local or owned toggles its frame entry by its Pauli and XORs its observables, but an edge that crosses into the next window, whose
upper endpoint is carried instead. ROUND_COMMITTED, the commit's tick and the Fen event follow; the commit at the flush round ends
the session. The correction is that of R244 and R245 as the model computes it. -/
def Obligations.SedgeCommitAppliesCorrectionOnce : Prop :=
  ∀ (g : Graph) (s : State), s.sdg.graph = some g → s.fld fSDG_STATUS_STATE ∈ [2, 3] → s.sedgePowered = true →
    let lo := s.windowLo
    let top := s.windowTop.1
    let final := s.windowTop.2
    s.roundReady top = true →
    let hi := if final = true then top else lo + s.fld fSDG_CFG_C - 1
    let count := (top + 1 - lo) * (g.nd + ((List.range 6).map (fun k => (g.seamRemote k).length)).sum) + 1
    let correction := (decodeWindow (g.windowEdges lo top) (s.windowDefects lo top) count).1
    let region := correction.filter (fun e => decide (lo ≤ e.round ∧ e.round ≤ hi))
    let crosses (e : WEdge) : Bool := decide (e.edge.btype = 1 ∧ e.round = hi ∧ final = false)
    let applied := region.filter (fun e => !crosses e && (decide (e.edge.btype < 3) || e.edge.own))
    let toggles (q : Nat) (paulis : List Nat) : Bool :=
      decide (applied.countP (fun e => e.edge.frame % 512 == q && paulis.contains e.edge.pauli) % 2 = 1)
    Completes .commit s fun t =>
      t.regN rSDG_ROUND_COMMITTED = hi % 2 ^ 32 ∧ t.reg64 rSDG_LAST_COMMIT_T_L = s.now ∧
      (∀ q < 512, t.flag (fSDG_FRAME_q_X q) = xor (s.flag (fSDG_FRAME_q_X q)) (toggles q [1, 3]) ∧
        t.flag (fSDG_FRAME_q_Z q) = xor (s.flag (fSDG_FRAME_q_Z q)) (toggles q [2, 3])) ∧
      t.reg64 rSDG_OBS_L = (applied.foldl (fun o e => o ^^^ e.edge.obs) (s.reg64 rSDG_OBS_L)) % 2 ^ 64 ∧
      t.fen.presented = s.fen.presented ++ [0x321] ∧ t.sdg.window = s.sdg.window + 1 ∧
      (final = false → t.fld fSDG_STATUS_STATE = s.fld fSDG_STATUS_STATE ∧
        ∀ d, d ∈ t.sdg.carry ↔ (region.filter crosses).countP (fun e => e.edge.b == d) % 2 = 1) ∧
      (final = true → t.fld fSDG_STATUS_STATE = 1 ∧ t.sdg.carry = [] ∧ t.sdg.flush = none)

/-! ### Fen and the Decision Network -/

/-- R264, R266 to R268, R272, R263 (10_fen_and_decisions.md): an event of a source is accepted by the idle enabled channel that
selects it, which sets its flag, advances the counters that watch it, activates its task inputs and re-arms; during re-arm one
event is held and more set FEN_OVR; the end of the re-arm accepts a held event; a channel that accepts too often in 1 µs is disabled
with FAULT 0x0801; a relay's task presents the relay's source. -/
def Obligations.FenChannelsAcceptHoldAndActivate : Prop :=
  (∀ (x : Fin 1024) (c : Nat) (s : State), c < 256 → s.chOn c = true → s.fld (fFEN_CH_c_SRC c) = x.val →
    (∀ d < 256, d ≠ c → s.chOn d = true → s.fld (fFEN_CH_c_SRC d) ≠ x.val) →
    (bitOf s.fen.rearm c = false → ∀ i < 1024, s.tiOn i = true → s.fld (fFEN_TI_i_CH i) = c →
      (∀ j < 1024, j ≠ i → s.tiOn j = true → s.fld (fFEN_TI_i_CH j) ≠ c) →
      s.taskLive (s.fld (fFEN_TI_i_TASK i)) = true → (∀ a ∈ s.fen.acts, a.2 ≠ s.fld (fFEN_TI_i_TASK i)) →
      Completes (.fenEvent x) s fun t =>
        bitOf (t.regN (rFEN_FLAG_w (c / 32))) (c % 32) = true ∧ bitOf t.fen.rearm c = true ∧
        t.fen.acts = s.fen.acts ++ [(i, s.fld (fFEN_TI_i_TASK i))] ∧ t.fen.presented = s.fen.presented.erase x.val ∧
        (∀ j < 16, t.fld (fFEN_CNT_j_COUNT j) =
          if s.flag (fFEN_CNT_j_CFG_EN j) = true ∧ s.fld (fFEN_CNT_j_CFG_CH j) = c
          then (s.fld (fFEN_CNT_j_COUNT j) + 1) % 2 ^ 32 else s.fld (fFEN_CNT_j_COUNT j)) ∧
        t.acceptances c = s.acceptances c + 1) ∧
    (bitOf s.fen.rearm c = false → ∀ i < 1024, s.tiOn i = true → s.fld (fFEN_TI_i_CH i) = c →
      (∀ j < 1024, j ≠ i → s.tiOn j = true → s.fld (fFEN_TI_i_CH j) ≠ c) →
      s.taskLive (s.fld (fFEN_TI_i_TASK i)) = false → Completes (.fenEvent x) s fun t =>
        bitOf (t.regN (rFEN_FLAG_w (c / 32))) (c % 32) = true ∧ t.fen.acts = s.fen.acts ∧
        t.fld (fFEN_TI_i_COUNT_DROP i) = min (s.fld (fFEN_TI_i_COUNT_DROP i) + 1) 255) ∧
    (bitOf s.fen.rearm c = true → bitOf s.fen.held c = false → Completes (.fenEvent x) s fun t =>
      bitOf t.fen.held c = true ∧ t.fen.acts = s.fen.acts ∧ State.Frame [.fen] s t) ∧
    (bitOf s.fen.rearm c = true → bitOf s.fen.held c = true → Completes (.fenEvent x) s fun t =>
      bitOf (t.regN (rFEN_OVR_w (c / 32))) (c % 32) = true ∧ t.fen.acts = s.fen.acts ∧
      State.Frame [.fen, .regs] s t ∧ State.OnlyRegs [rFEN_OVR_w (c / 32)] s t)) ∧
  (∀ (c : Fin 256) (s : State), bitOf s.fen.rearm c.val = true →
    (bitOf s.fen.held c.val = false → Completes (.rearmEnd c) s fun t =>
      bitOf t.fen.rearm c.val = false ∧ t.fen.acts = s.fen.acts ∧ State.Frame [.fen] s t) ∧
    (bitOf s.fen.held c.val = true → s.chOn c.val = true → Completes (.rearmEnd c) s fun t =>
      bitOf t.fen.rearm c.val = true ∧ bitOf t.fen.held c.val = false ∧
      bitOf (t.regN (rFEN_FLAG_w (c.val / 32))) (c.val % 32) = true ∧ t.acceptances c.val = s.acceptances c.val + 1)) ∧
  (∀ (c : Fin 256) (s : State),
    (s.acceptances c.val ≤ s.fld fFEN_LOOP_CFG_LOOP_MAX → Completes (.loopInterval c) s fun t =>
      t.acceptances c.val = 0 ∧ t.chOn c.val = s.chOn c.val ∧ State.Frame [.fen] s t) ∧
    (s.fld fFEN_LOOP_CFG_LOOP_MAX < s.acceptances c.val → Completes (.loopInterval c) s fun t =>
      t.acceptances c.val = 0 ∧ t.chOn c.val = false ∧ t.flag (fFEN_CH_c_EN c.val) = false ∧
      bitOf (t.regN (rFEN_LOOPTRIP_w (c.val / 32))) (c.val % 32) = true ∧ t.faultLog = s.faultLog ++ [0x0801])) ∧
  (∀ (r : Fin 32) (s : State), Completes (.relay r) s fun t =>
    t.fen.presented = s.fen.presented ++ [0x340 + r.val] ∧
    t.fen.acts.length = s.fen.acts.length - (if s.fen.acts.any (fun a => a.2 == 0x820 + r.val) = true then 1 else 0) ∧
    State.Frame [.fen] s t)


/-- R268 to R271, R273, R275, R278, R280 (10_fen_and_decisions.md): the writes that enable a channel, a task input and a counter,
and FEN_SWEV, with what the enable check takes and refuses; the enable check of the Decision Network, and IMP_CLR, which sets
every imported slot to VALID = 0, STATE = 0 and SEQ = 0 and leaves the local slots. -/
def Obligations.FenAndDecisionNetworkConfiguration : Prop :=
  ((∀ (p : Path) (c : Fin 256) (v : Word) (s : State), s.mayWrite p (rFEN_CH_c c.val) = true → s.chOn c.val = false →
     let w : Word := (v ||| 1) &&& 0x0F03FF3F
     let x := fieldOf w 17 8
     let ours : Prop := s.mayChannel p c.val = true ∧
       (fieldOf w 27 24 = fieldOf (s.reg (rFEN_CH_c c.val)) 27 24 ∨ Path.masterFen p = true)
     (ours → sourceListed x = true → s.sourcePresent x = true → x < 0x340 ∨ 0x360 ≤ x →
       Completes (.fenChannelEnable p c v) s fun t =>
         t.reg (rFEN_CH_c c.val) = w ∧ t.chOn c.val = true ∧ t.flag fFEN_STATUS_REFUSED = false ∧
         bitOf t.fen.rearm c.val = false ∧ ∀ d < 256, d ≠ c.val → t.chOn d = s.chOn d) ∧
     (ours → sourceListed x = false → Completes (.fenChannelEnable p c v) s fun t =>
       t.chOn c.val = false ∧ t.flag fFEN_STATUS_REFUSED = true ∧ t.fld fFEN_STATUS_REASON = 0x07 ∧
       t.fld fFEN_STATUS_ITEM = c.val) ∧
     (¬ ours → Completes (.fenChannelEnable p c v) s fun t =>
       t.reg (rFEN_CH_c c.val) = s.reg (rFEN_CH_c c.val) ∧ t.fen = s.fen ∧
       t.fld fFEN_SEC_LOG_COUNT = min (s.fld fFEN_SEC_LOG_COUNT + 1) 65535 ∧
       t.fld fFEN_SEC_ADDR_OFFSET = 0x1000 + 4 * c.val ∧ t.fld fFEN_SEC_ADDR_REQ = Path.requester p)) ∧
   (∀ (p : Path) (i : Fin 1024) (v : Word) (s : State), s.mayWrite p (rFEN_TI_i i.val) = true → s.tiOn i.val = false →
     let w : Word := (v ||| 1) &&& 0xFFFFFF01
     let c := fieldOf w 15 8
     let k := fieldOf w 27 16
     let owner := fieldOf w 30 28
     s.mayTask p i.val = true ∧ (fieldOf w 31 28 = fieldOf (s.reg (rFEN_TI_i i.val)) 31 28 ∨ Path.masterFen p = true) →
     taskListed k = true → s.taskPresent k = true →
     let secure : Prop := w.getLsbD 31 = true ∨ s.flag (fFEN_CH_c_SEC c) = false
     let sole : Prop := ∀ j < 1024, j ≠ i.val → s.tiOn j = true → s.fld (fFEN_TI_i_TASK j) = k →
       s.fld (fFEN_TI_i_OWNER j) = owner
     let loopFree : Prop := s.chOn c = true → s.fld (fFEN_CH_c_SRC c) < 0x340 ∨ 0x360 ≤ s.fld (fFEN_CH_c_SRC c)
     (s.fld (fFEN_CH_c_OWNER c) = owner → secure → sole → loopFree →
       Completes (.fenTaskInputEnable p i v) s fun t =>
         t.reg (rFEN_TI_i i.val) = w ∧ t.tiOn i.val = true ∧ t.flag fFEN_STATUS_REFUSED = false ∧
         ∀ j < 1024, j ≠ i.val → t.tiOn j = s.tiOn j) ∧
     (s.fld (fFEN_CH_c_OWNER c) ≠ owner → Completes (.fenTaskInputEnable p i v) s fun t =>
       t.tiOn i.val = false ∧ t.flag fFEN_STATUS_REFUSED = true ∧ t.fld fFEN_STATUS_REASON = 0x04) ∧
     (s.fld (fFEN_CH_c_OWNER c) = owner → ¬ secure → Completes (.fenTaskInputEnable p i v) s fun t =>
       t.tiOn i.val = false ∧ t.fld fFEN_STATUS_REASON = 0x05) ∧
     (s.fld (fFEN_CH_c_OWNER c) = owner → secure → ¬ sole → loopFree → Completes (.fenTaskInputEnable p i v) s
       fun t => t.tiOn i.val = false ∧ t.fld fFEN_STATUS_REASON = 0x81)) ∧
   (∀ (p : Path) (j : Fin 16) (v : Word) (s : State), s.mayWrite p (rFEN_CNT_j_CFG j.val) = true →
     let both : Prop := s.mayChannel p (s.fld (fFEN_CNT_j_CFG_CH j.val)) = true ∧ s.mayChannel p (fieldOf v 7 0) = true
     (both → Completes (.fenCounterConfig p j v) s fun t =>
       t.fld (fFEN_CNT_j_CFG_CH j.val) = fieldOf v 7 0 ∧ t.flag (fFEN_CNT_j_CFG_EN j.val) = v.getLsbD 8 ∧
       t.fld (fFEN_CNT_j_COUNT j.val) = (if v.getLsbD 8 = true then 0 else s.fld (fFEN_CNT_j_COUNT j.val)) ∧
       State.Frame [.regs] s t ∧ State.OnlyRegs [rFEN_CNT_j_CFG j.val, rFEN_CNT_j j.val] s t) ∧
     (¬ both → Completes (.fenCounterConfig p j v) s fun t =>
       t.reg (rFEN_CNT_j_CFG j.val) = s.reg (rFEN_CNT_j_CFG j.val) ∧
       t.fld fFEN_SEC_LOG_COUNT = min (s.fld fFEN_SEC_LOG_COUNT + 1) 65535)) ∧
   (∀ (p : Path) (k : Fin 16) (s : State), s.mayWrite p rFEN_SWEV = true → Completes (.swev p k) s fun t =>
     t.fen.presented = s.fen.presented ++ [0x370 + k.val] ∧ State.Frame [.fen] s t)) ∧
  ((∀ (p : Path) (s : State), s.mayWrite p rDN_CTRL = true → s.flag fDN_STATUS_ENABLED = false →
     (s.mode ∈ [modeConfig, modeReady, modeDiag] → (∀ e < 1024, s.expOn e = false) →
       (∀ q < 8, s.portPresent q = true → s.flag (fCW_Pp_CTRL_ENABLE q) = true → s.budgetOk q = true) →
       Completes (.dnEnable p) s fun t =>
         t.flag fDN_CTRL_ENABLE = true ∧ t.flag fDN_STATUS_ENABLED = true ∧ t.flag fDN_STATUS_REFUSED = false ∧
         t.fld fDN_STATUS_REASON = 0) ∧
     (s.mode ∉ [modeConfig, modeReady, modeDiag] → (∀ e < 1024, s.expOn e = false) → Completes (.dnEnable p) s fun t =>
       t.flag fDN_STATUS_ENABLED = false ∧ t.flag fDN_STATUS_REFUSED = true ∧ t.fld fDN_STATUS_REASON = 0x02)) ∧
   (∀ (p : Path) (s : State), s.mayWrite p rDN_CTRL = true → Completes (.impClr p) s fun t =>
     (∀ j < 512, t.reg (rDN_SLOT_s (512 + j)) = 0) ∧ State.Frame [.regs] s t ∧
     State.OnlyRegs ((List.range 512).map (fun j => rDN_SLOT_s (512 + j))) s t))

/-! ### Causeway -/

/-- R285 to R290, R305, R315, R316 (11_causeway.md): a port's enable check, disable, reset and forced retrain; the training states
that TS words, timeouts and retries move it through; a lane in use that is lost; and a port that goes down and discards its retry
state. The order of training is that of R286; agreement on the mask in CONFIG is R285's choice. -/
def Obligations.CausewayPortsTrainAndRetrain : Prop :=
  (∀ (p : Path) (q : Fin 8) (v : Word) (s : State), s.mayWrite p (rCW_Pp_CTRL q.val) = true →
    (s.cwState q.val = 0 → s.modeOpen = true → s.locked 5 = true → s.locked 6 = true → s.csReady (1 + q.val) = true →
      s.fld (fCW_Pp_CFG_LANE_EN q.val) ≠ 0 → s.fld (fCW_Pp_CFG_TRAIN_TO q.val) ≠ 0 →
      s.fld (fCW_Pp_CFG_DOWN_TIME q.val) ≠ 0 → s.flag fCW_STATUS_DUP_SEEN = false →
      (s.laneMapOk q.val = true → Completes (.portEnable p q v) s fun t =>
        t.flag (fCW_Pp_CTRL_ENABLE q.val) = true ∧ t.cwState q.val = 1 ∧ t.flag (fCW_Pp_STATUS_REFUSED q.val) = false ∧
        t.fld (fCW_Pp_STATUS_REASON q.val) = 0 ∧ (t.cwPort q.val).lanesSeen = 0 ∧
        (t.cwPort q.val).unacked = (s.cwPort q.val).unacked) ∧
      (s.laneMapOk q.val = false → Completes (.portEnable p q v) s fun t =>
        t.cwState q.val = 0 ∧ t.flag (fCW_Pp_STATUS_REFUSED q.val) = true ∧
        t.fld (fCW_Pp_STATUS_REASON q.val) = 0xA0 ∧ t.fld fCW_STATUS_ITEM = q.val ∧ t.cw = s.cw)) ∧
    (s.cwState q.val ≠ 0 → Completes (.portDisable p q v) s fun t =>
      t.flag (fCW_Pp_CTRL_ENABLE q.val) = false ∧ t.cwState q.val = 0 ∧ t.fld (fCW_Pp_STATUS_LANES q.val) = 0 ∧
      (t.cwPort q.val).unacked = [] ∧ (t.cwPort q.val).queue = [] ∧ (t.cwPort q.val).c0 = [] ∧
      (t.cwPort q.val).rst = true ∧ (t.cwPort q.val).txSeq = 0 ∧ (t.cwPort q.val).rxExp = 0 ∧
      t.fld (fCW_Pp_COUNT_C_LOST q.val) =
        min (s.fld (fCW_Pp_COUNT_C_LOST q.val) + (s.cwPort q.val).unacked.length) 4095 ∧
      ((s.cwPort q.val).unacked ≠ [] → State.Raises s t 0x0908)) ∧
    Completes (.portReset p q) s (fun t =>
      t.reg (rCW_Pp_COUNT_A q.val) = 0 ∧ t.reg (rCW_Pp_COUNT_B q.val) = 0 ∧ t.reg (rCW_Pp_COUNT_C q.val) = 0 ∧
      t.cwState q.val = (if s.cwState q.val = 0 then 0 else 1) ∧
      (s.cwState q.val ≠ 0 → (t.cwPort q.val).unacked = [] ∧ (t.cwPort q.val).queue = [] ∧ (t.cwPort q.val).c0 = []) ∧
      t.flag (fCW_Pp_CTRL_ENABLE q.val) = s.flag (fCW_Pp_CTRL_ENABLE q.val)) ∧
    (s.cwState q.val = 5 → Completes (.retrain p q) s fun t =>
      t.cwState q.val = 6 ∧ State.Raises s t 0x0902 ∧
      t.fld (fCW_Pp_COUNT_B_RETRAIN q.val) = min (s.fld (fCW_Pp_COUNT_B_RETRAIN q.val) + 1) 255 ∧
      (t.cwPort q.val).unacked = (s.cwPort q.val).unacked ∧ (t.cwPort q.val).txSeq = (s.cwPort q.val).txSeq) ∧
    (s.cwState q.val ≠ 5 → Completes (.retrain p q) s fun t => t = s)) ∧
  (∀ (q : Fin 8) (lane : Fin 4) (s : State),
    (s.cwState q.val = 5 → bitOf (s.fld (fCW_Pp_STATUS_LANES q.val)) lane.val = true →
      Completes (.laneLoss q lane) s fun t => t.cwState q.val = 6 ∧ State.Raises s t 0x0902) ∧
    (bitOf (s.fld (fCW_Pp_STATUS_LANES q.val)) lane.val = false → Completes (.laneLoss q lane) s fun t => t = s)) ∧
  (∀ (q : Fin 8) (w : BitVec 64) (ready : Bool) (s : State), s.portPowered q.val = true →
    (tsValid w = false → Completes (.tsWord q w ready) s fun t => t = s) ∧
    (tsValid w = true →
      (∀ st next : Nat, (st, next) ∈ [(1, 2), (6, 2), (2, 3), (3, 4)] → s.cwState q.val = st →
        Completes (.tsWord q w ready) s fun t => t.cwState q.val = (if ready = true then next else st) ∧
          (st = 3 → (t.cwPort q.val).lanesSeen = (s.cwPort q.val).lanesSeen ||| 2 ^ sliceNat w 20 19) ∧
          (sliceNat w 18 16 < 4 → (t.cwPort q.val).partnerLanes = sliceNat w 24 21) ∧ t.faultLog = s.faultLog) ∧
      (s.cwState q.val = 5 → sliceNat w 18 16 ≠ 4 → Completes (.tsWord q w ready) s fun t =>
        t.cwState q.val = 6 ∧ State.Raises s t 0x0902) ∧
      (s.cwState q.val = 4 → sliceNat w 18 16 = 4 →
        (s.flag fCW_CTRL_ENABLE = true → w.getLsbD 46 = true → sliceNat w 38 25 = s.nodeId →
          Completes (.tsWord q w ready) s fun t =>
            t.cwState q.val = 7 ∧ t.flag fCW_STATUS_DUP_SEEN = true ∧ t.faultLog = s.faultLog ++ [0x0905]) ∧
        (s.flag fCW_CTRL_ENABLE = false ∨ w.getLsbD 46 = false ∨ sliceNat w 38 25 ≠ s.nodeId →
          w.getLsbD 47 = false →
          let mask := laneChoice (s.cwUsable q.val)
          (mask = 0 ∨ sliceNat w 24 21 ≠ mask → Completes (.tsWord q w ready) s fun t =>
            t.cwState q.val = 4 ∧ (t.cwPort q.val).good = 0 ∧ t.fld (fCW_Pp_PARTNER_NODE_ID q.val) = sliceNat w 38 25) ∧
          (mask ≠ 0 → sliceNat w 24 21 = mask → ready = true → (s.cwPort q.val).good = 15 →
            (s.cwPort q.val).c0 = [] → (s.cwPort q.val).timeWait = none → (s.cwPort q.val).queue = [] →
            Completes (.tsWord q w ready) s fun t =>
              t.cwState q.val = 5 ∧ t.fld (fCW_Pp_STATUS_LANES q.val) = mask ∧
              t.flag (fCW_Pp_STATUS_DEGRADED q.val) = decide (mask ≠ 15) ∧
              t.flag (fCW_Pp_STATUS_DOWN q.val) = false ∧
              t.fld (fCW_Pp_POL_TOKENS q.val) = s.fld (fCW_Pp_POL_DEPTH q.val) ∧ (t.cwPort q.val).rst = false))))) ∧
  (∀ (q : Fin 8) (s : State),
    (s.cwState q.val ∈ [1, 2, 3, 4, 6] → Completes (.trainTimeout q) s fun t =>
      t.cwState q.val = 7 ∧ t.faultLog = s.faultLog ∧ t.cw = s.cw) ∧
    (s.cwState q.val ∈ [0, 5, 7] → Completes (.trainTimeout q) s fun t => t = s) ∧
    (s.cwState q.val = 7 → s.flag (fCW_Pp_CFG_AUTO q.val) = true → Completes (.trainRetry q) s fun t =>
      t.cwState q.val = 1 ∧ (t.cwPort q.val).lanesSeen = 0 ∧ t.faultLog = s.faultLog) ∧
    (s.cwState q.val ≠ 7 ∨ s.flag (fCW_Pp_CFG_AUTO q.val) = false → Completes (.trainRetry q) s fun t => t = s) ∧
    (s.cwState q.val ∉ [0, 5] → Completes (.portDown q) s fun t =>
      t.flag (fCW_Pp_STATUS_DOWN q.val) = true ∧ t.cwState q.val = s.cwState q.val ∧ State.Raises s t 0x0901 ∧
      (t.cwPort q.val).unacked = [] ∧ (t.cwPort q.val).rst = true) ∧
    (s.cwState q.val ∈ [0, 5] → Completes (.portDown q) s fun t => t = s))

/-- R284, R291 to R300, R308, R289 (11_causeway.md): class 0 traffic. An accepted decision item writes its imported slot; a gap in
the end-to-end sequence invalidates the source's entries; a flit for another device is queued at its transmit port or dropped; a
DECISION flit takes a token or waits; the bucket fills to DEPTH; ALIGN is deferred while class 0 waits with a token; a failed CRC,
a reserved kind and this device's own node ID as source are recorded. -/
def Obligations.CausewayClassZeroTraffic : Prop :=
  (∀ (q : Fin 8) (h : Hdr) (x : BitVec 192) (s : State),
    let f := flitOf 0 1 h x
    let src := h.src.toNat
    let j := sliceNat x 12 4
    let expected (t : State) : Nat := SMap.get (fun _ => 0) t.esqRx src
    (s.portActive q.val = true → s.flitOwn f = false → s.flitHere f = true → sliceNat x 3 0 = 1 →
      (s.flag fCW_STATUS_ENABLED = true → s.impFrom j src = true → Completes (.decision q h x) s fun t =>
        t.fld (fDN_SLOT_s_STATE (512 + j)) = sliceNat x 14 13 ∧ t.flag (fDN_SLOT_s_VALID (512 + j)) = true ∧
        t.fld (fDN_SLOT_s_SEQ (512 + j)) = sliceNat x 18 15 ∧
        t.fld fDN_COUNT_A_IMPORTED = (s.fld fDN_COUNT_A_IMPORTED + 1) % 65536 ∧
        expected t = (h.seq.toNat + 1) % 1024 + 1 ∧
        (expected s = 0 ∨ expected s = h.seq.toNat + 1 → t.fld fCW_GAP_COUNT_GAPS = s.fld fCW_GAP_COUNT_GAPS ∧
          ∀ i < 512, i ≠ j → t.reg (rDN_SLOT_s (512 + i)) = s.reg (rDN_SLOT_s (512 + i))) ∧
        (expected s ≠ 0 → expected s ≠ h.seq.toNat + 1 →
          t.fld fCW_GAP_COUNT_GAPS = min (s.fld fCW_GAP_COUNT_GAPS + 1) 4095 ∧ State.Raises s t 0x0904 ∧
          ∀ i < 512, i ≠ j → s.impFrom i src = true → t.flag (fDN_SLOT_s_VALID (512 + i)) = false)) ∧
      (s.arrivesC0 q.val f = true → s.flag fCW_STATUS_ENABLED = false ∨ s.impFrom j src = false →
        Completes (.decision q h x) s fun t =>
          t.fld fCW_GAP_COUNT_IMP_REJECT = min (s.fld fCW_GAP_COUNT_IMP_REJECT + 1) 4095 ∧
          State.Frame [.regs, .esqRx] s t ∧ State.OnlyRegs [rCW_GAP_COUNT] s t)) ∧
    (s.portActive q.val = true → s.flitOwn f = false → s.flitHere f = false →
      (∀ (o : Nat) (d : Option Nat) (up : Bool), s.route h.dest.toNat = .port o d up → s.portActive o = true →
        s.flag fCW_STATUS_ENABLED = true →
        (s.cwPort o).c0.countP (fun e => match e with
          | .transit _ => true
          | _ => false) < 16 → Completes (.decision q h x) s fun t =>
          (t.cwPort o).c0 = (s.cwPort o).c0 ++ [.transit f] ∧ State.Frame [.cw] s t) ∧
      (∀ (o : Nat) (d : Option Nat) (up : Bool), s.route h.dest.toNat = .port o d up → s.portActive o = false → o < 8 →
        Completes (.decision q h x) s fun t =>
          t.fld (fCW_Pp_COUNT_A_C0_DROP o) = min (s.fld (fCW_Pp_COUNT_A_C0_DROP o) + 1) 65535 ∧
          t.faultLog = s.faultLog ++ [0x0906] ∧ t.cw = s.cw) ∧
      (s.route h.dest.toNat = .drop → Completes (.decision q h x) s fun t =>
        t.faultLog = s.faultLog ++ [0x0906] ∧ t.cw = s.cw)) ∧
    (s.portActive q.val = true → s.flitOwn f = true → Completes (.decision q h x) s fun t =>
      t.cwState q.val = 7 ∧ t.flag fCW_STATUS_DUP_SEEN = true ∧ State.Raises s t 0x0905 ∧
      ∀ i < 512, t.reg (rDN_SLOT_s (512 + i)) = s.reg (rDN_SLOT_s (512 + i)))) ∧
  (∀ (q : Fin 8) (s : State), s.portActive q.val = true →
    let r := s.cwPort q.val
    let tokens := s.fld (fCW_Pp_POL_TOKENS q.val)
    (r.timeWait = none → r.alignDue = false → 0 < tokens →
      (∀ f : Flit, r.c0 = [.transit f] → f.kind = 1 → Completes (.decisionFlitSend q) s fun t =>
        t.out = s.out ++ [.flit q.val f.bits] ∧ (t.cwPort q.val).c0 = [] ∧
        t.fld (fCW_Pp_POL_TOKENS q.val) = tokens - 1 ∧ t.esqTx = s.esqTx) ∧
      (∀ (i : DecItem) (is : List DecItem), r.c0 = (i :: is).map C0Entry.item → is.length < 10 →
        (∀ x ∈ is, x.dest = i.dest) → Completes (.decisionFlitSend q) s fun t =>
          t.out = s.out ++ [.flit q.val (Flit.bits {
            cl := 0, kind := 1, dest := i.dest, src := s.nodeId, seq := SMap.get (fun _ => 0) s.esqTx i.dest, loc := false
            eop := true, vc := 0, payload := decisionPayload (i :: is) })] ∧
          SMap.get (fun _ => 0) t.esqTx i.dest = (SMap.get (fun _ => 0) s.esqTx i.dest + 1) % 1024 ∧
          (t.cwPort q.val).c0 = [] ∧ t.fld (fCW_Pp_POL_TOKENS q.val) = tokens - 1)) ∧
    (tokens = 0 → r.c0.any C0Entry.isDecision = true → r.c0Waited = false → Completes (.decisionFlitSend q) s fun t =>
      t.fld (fCW_Pp_COUNT_C_POL_WAIT q.val) = min (s.fld (fCW_Pp_COUNT_C_POL_WAIT q.val) + 1) 4095 ∧
      (t.cwPort q.val).c0 = r.c0 ∧ (r.lastPol = none → t.faultLog = s.faultLog ++ [0x0907])) ∧
    (r.c0 = [] → r.alignDue = false →
      (r.timeWait = none → Completes (.policerToken q) s fun t =>
        t.fld (fCW_Pp_POL_TOKENS q.val) = min (tokens + 1) (s.fld (fCW_Pp_POL_DEPTH q.val)) ∧ State.Frame [.regs] s t ∧
        State.OnlyRegs [rCW_Pp_POL q.val] s t) ∧
      (∀ b, r.timeWait = some b → tokens = 0 → 0 < s.fld (fCW_Pp_POL_DEPTH q.val) →
        Completes (.policerToken q) s fun t =>
          t.out = s.out ++ [.flit q.val b] ∧ t.fld (fCW_Pp_POL_TOKENS q.val) = 0 ∧ (t.cwPort q.val).timeWait = none)) ∧
    (r.c0 = [] ∨ tokens = 0 → Completes (.alignDue q) s fun t =>
      t.out = s.out ++ [.align q.val] ∧ State.Frame [.out] s t) ∧
    (r.c0 ≠ [] → tokens ≠ 0 → Completes (.alignDue q) s fun t =>
      (t.cwPort q.val).alignDue = true ∧ State.Frame [.cw] s t) ∧
    Completes (.flitCrcFail q) s (fun t =>
      t.fld (fCW_Pp_COUNT_A_CRC_DROP q.val) = min (s.fld (fCW_Pp_COUNT_A_CRC_DROP q.val) + 1) 65535 ∧
      t.faultLog = s.faultLog ++ [0x0903] ∧ t.cw = s.cw ∧
      State.OnlyRegsIc [rCW_Pp_COUNT_A q.val] s t) ∧
    ∀ (cl : BitVec 3) (kind : BitVec 4), reservedKind cl.toNat kind.toNat = true →
      Completes (.badKind q cl kind) s fun t =>
        t.fld (fCW_Pp_COUNT_C_BAD_KIND q.val) = min (s.fld (fCW_Pp_COUNT_C_BAD_KIND q.val) + 1) 255 ∧
        State.Frame [.regs] s t ∧ State.OnlyRegs [rCW_Pp_COUNT_C q.val] s t)

/-- R301, R252, R253, R242 (11_causeway.md, 09_sedge_decoder.md): Sedge messages for this device. SEAM_EVENTS of an open round are
kept as its ghosts and those of a ready round are counted LATE; the last SEAM_COMMIT of a region is compared with this device's own
correction; a matching HELLO links its neighbour and a differing one makes it MISMATCH with FAULT 0x0704; while Sedge is disabled
all are discarded and counted. -/
def Obligations.SeamMessagesReachSedge : Prop :=
  ∀ (q : Fin 8) (h : Hdr) (x : BitVec 188) (s : State), s.sedgePowered = true →
    let src := h.src.toNat
    let round := sliceNat x 31 0
    let runs : Prop := s.fld fSDG_STATUS_STATE ∈ [2, 3]
    (s.arrivesC0 q.val (flitOf 0 2 h (sedgePayload 1 x)) = true → s.flag fSDG_STATUS_ENABLED = false →
      Completes (.seamEvents q h x) s fun t =>
        t.fld fCW_GAP_COUNT_SEDGE_DISCARD = min (s.fld fCW_GAP_COUNT_SEDGE_DISCARD + 1) 255 ∧ t.sdg = s.sdg ∧
        t.faultLog = s.faultLog) ∧
    (s.flag fSDG_STATUS_ENABLED = true → ∀ k, s.sdgNeighbourOf src = some k → k < 6 →
      (runs → s.arrivesC0 q.val (flitOf 0 2 h (sedgePayload 1 x)) = true →
        (round < s.sdgUncommitted ∨ (round < s.sdg.round ∧ s.nbReady k round = true) →
          Completes (.seamEvents q h x) s fun t =>
            t.fld (fSDG_NBk_STATUS_LATE k) = min (s.fld (fSDG_NBk_STATUS_LATE k) + 1) 255 ∧ t.sdg = s.sdg) ∧
        (s.sdgUncommitted ≤ round → s.sdg.round ≤ round ∨ s.nbReady k round = false →
          (∀ e ∈ s.sdg.ghosts, e.1 = k → e.2.1 ≠ round) → Completes (.seamEvents q h x) s fun t =>
            (∃ hits : List Nat, t.sdg.ghosts = s.sdg.ghosts ++ [(k, round, [sliceNat x 33 32], hits)] ∧
              ∀ i, i ∈ hits ↔ ∃ b < 128, bitOf (sliceNat x 161 34) b = true ∧ i = 128 * sliceNat x 33 32 + b) ∧
            t.sdg.silent = s.sdg.silent.set k 0 ∧ t.regs = s.regs)) ∧
      (runs → s.arrivesC0 q.val (flitOf 0 2 h (sedgePayload 2 x)) = true →
        (∀ e ∈ s.sdg.partSeam, e.1 = k → e.2.1 ≠ round) →
        let entries := (List.range (min (sliceNat x 36 33) 8)).map
          (fun i => (sliceNat x (46 + 16 * i) (37 + 16 * i), sliceNat x (51 + 16 * i) (47 + 16 * i)))
        (sliceNat x 32 32 = 0 → Completes (.seamCommit q h x) s fun t =>
          t.sdg = { s.sdg with partSeam := s.sdg.partSeam ++ [(k, round, entries)] } ∧ t.regs = s.regs) ∧
        (sliceNat x 32 32 = 1 → (∀ e ∈ s.sdg.theirSeam, e.1 = k → e.2.1 ≠ round) →
          ((∀ e ∈ s.sdg.ownSeam, e.1 = k → e.2.1 ≠ round) → Completes (.seamCommit q h x) s fun t =>
            t.sdg = { s.sdg with theirSeam := s.sdg.theirSeam ++ [(k, round, entries)] } ∧ t.regs = s.regs) ∧
          (∀ mine, s.sdg.ownSeam = [(k, round, mine)] → Completes (.seamCommit q h x) s fun t =>
            t.sdg = { s.sdg with ownSeam := [] } ∧
            t.fld (fSDG_NBk_DISAGREE_DISAGREE k) = min (s.fld (fSDG_NBk_DISAGREE_DISAGREE k) +
              (mine.countP (fun e => !entries.contains e) + entries.countP (fun e => !mine.contains e))) 65535 ∧
            ∀ n < 512, t.reg (rSDG_FRAME_q n) = s.reg (rSDG_FRAME_q n)))) ∧
      (s.arrives q.val (flitOf 1 0 h (sedgePayload 4 x)) = true → s.fld (fSDG_NBk_STATUS_STATE k) ∈ [1, 3, 4] →
        (sedgePayload 4 x = s.sdgHello k src → Completes (.hello q h x) s fun t =>
          t.fld (fSDG_NBk_STATUS_STATE k) = 2 ∧ t.sdg.silent = s.sdg.silent.set k 0 ∧ t.faultLog = s.faultLog ∧
          (t.nbLinkedFor k s.sdg.round = true ↔ runs ∨ s.sdg.start.getD 0 ≤ s.sdg.round)) ∧
        (sedgePayload 4 x ≠ s.sdgHello k src → Completes (.hello q h x) s fun t =>
          t.fld (fSDG_NBk_STATUS_STATE k) = 3 ∧ t.sdg = s.sdg ∧ t.faultLog = s.faultLog ++
            (if s.fld (fSDG_NBk_STATUS_STATE k) = 3 then [] else [0x0704]))))

/-- R254 (09_sedge_decoder.md): receiving ROUND_STATUS. -/
def Obligations.RoundStatusMarksTheLog : Prop :=
  ∀ (q : Fin 8) (h : Hdr) (x : BitVec 188) (k : Nat) (s : State), s.sedgePowered = true →
    s.flag fSDG_STATUS_ENABLED = true → s.sdgNeighbourOf h.src.toNat = some k → k < 6 →
    s.arrives q.val (flitOf 1 0 h (sedgePayload 3 x)) = true →
    let named (r : Nat) : Prop := sliceNat x 31 0 ≤ r ∧ r ≤ sliceNat x 63 32
    Completes (.roundStatus q h x) s fun t =>
      (∀ i < 64, t.flag (fSDG_LOG_i_NB_UNTRUSTED i) = true ↔
        s.flag (fSDG_LOG_i_NB_UNTRUSTED i) = true ∨ ∃ r, s.sdgHeld i = some r ∧ named r) ∧
      t.fld (fSDG_NBk_STATUS_NB_UNTR k) = min (s.fld (fSDG_NBk_STATUS_NB_UNTR k) + 1) 255 ∧
      t.faultLog = s.faultLog ++ [0x0703] ∧
      (∀ i < 64, t.flag (fSDG_LOG_i_UNTRUSTED i) = s.flag (fSDG_LOG_i_UNTRUSTED i)) ∧
      t.reg rSDG_UNTRUSTED = s.reg rSDG_UNTRUSTED ∧ t.sdg = s.sdg ∧
      ∀ n < 512, t.reg (rSDG_FRAME_q n) = s.reg (rSDG_FRAME_q n)

/-- R303 to R305, R290 (11_causeway.md): an acknowledgement releases the flits up to it and takes the credits; a NAK, or 4 µs
without progress, replays every unacknowledged flit in order, and the eighth replay in a row retrains the port; an ACK outside the
window is ignored and counted; a LINK flit reports what was accepted. -/
def Obligations.CausewayRetryReplaysInOrder : Prop :=
  ∀ (q : Fin 8) (s : State), s.portActive q.val = true →
    let r := s.cwPort q.val
    let port : Nat := q.val
    (∀ l : LinkFlit, l.ackValid = true → r.queue = [] →
      let cred := (List.range 6).map (fun i => sliceNat l.cred (8 * i + 7) (8 * i))
      (∀ (a b : List Flit) (f : Flit), r.unacked = a ++ f :: b → f.seq = l.ack.toNat →
        (∀ g ∈ a, g.seq ≠ l.ack.toNat) →
        (l.nak = false ∨ b = [] → Completes (.link q l) s fun t =>
          t.cwPort port = { r with unacked := b, replays := 0, credRx := cred } ∧ State.Frame [.cw] s t) ∧
        (l.nak = true → b ≠ [] → Completes (.link q l) s fun t =>
          t.out = s.out ++ b.map (fun g => .flit port g.bits) ∧ (t.cwPort port).unacked = b ∧
          (t.cwPort port).credRx = cred ∧ (t.cwPort port).replays = 1 ∧
          t.fld (fCW_Pp_COUNT_B_REPLAY port) = min (s.fld (fCW_Pp_COUNT_B_REPLAY port) + 1) 65535)) ∧
      (∀ (f : Flit) (b : List Flit), r.unacked = f :: b → (∀ g ∈ r.unacked, g.seq ≠ l.ack.toNat) →
        (l.ack.toNat + 1) % 1024 ≠ f.seq → Completes (.link q l) s fun t =>
          t.cwPort port = { r with credRx := cred } ∧
          t.fld (fCW_Pp_COUNT_C_BAD_KIND port) = min (s.fld (fCW_Pp_COUNT_C_BAD_KIND port) + 1) 255 ∧
          t.out = s.out)) ∧
    (r.unacked = [] → Completes (.replayTimeout q) s fun t => t = s) ∧
    (r.unacked ≠ [] → r.replays < 7 → Completes (.replayTimeout q) s fun t =>
      t.out = s.out ++ r.unacked.map (fun g => .flit port g.bits) ∧ t.cwPort port = { r with replays := r.replays + 1 } ∧
      t.fld (fCW_Pp_COUNT_B_REPLAY port) = min (s.fld (fCW_Pp_COUNT_B_REPLAY port) + 1) 65535 ∧ t.cwState port = 5) ∧
    (r.unacked ≠ [] → 7 ≤ r.replays → Completes (.replayTimeout q) s fun t =>
      t.cwState port = 6 ∧ (t.cwPort port).unacked = r.unacked ∧ (t.cwPort port).replays = 0 ∧ State.Raises s t 0x0902) ∧
    Completes (.linkDue q) s fun t =>
      t.out = s.out ++ [.flit port (linkFlitBits ((r.rxExp + 1023) % 1024) r.rxAny r.nakDue r.freed)] ∧
      t.cwPort port = { r with nakDue := false } ∧
      t.fld (fCW_Pp_COUNT_B_NAK port) =
        (if r.nakDue = true then min (s.fld (fCW_Pp_COUNT_B_NAK port) + 1) 255 else s.fld (fCW_Pp_COUNT_B_NAK port))

/-- R305, R306 (11_causeway.md): requests of another device. A read is answered with the register's value; a write is carried out
while CW_MGMT.WR_EN = 1, and else answered REFUSED; an address that is not a multiple of 4 is answered ALIGN; a block write stores
24 bytes for each data flit and is answered after the last; an answer for this device is taken off the link; and a flit out of
sequence is discarded, one NAK being asked for when it is ahead. -/
def Obligations.CausewayRemoteAccessesAnswer : Prop :=
  (∀ (q : Fin 8) (h : Hdr) (x : BitVec 192) (s s1 : State),
    let p : Nat := q.val
    let src := h.src.toNat
    let a := sliceNat x 31 0
    (s.arrives p (flitOf 2 0 h x) = true → s.acceptFlit p (flitOf 2 0 h x) = some s1 →
      let r := s1.busRead .causeway a
      ∀ o, r.1.answersOn p o src h.loc → Completes (.rdReq q h x) s fun t =>
        State.Sent r.1 t o (r.1.rspFlit src h.loc r.2 (sliceNat x 79 64) (if a % 4 = 0 then 0 else 2))) ∧
    (s.arrives p (flitOf 2 1 h x) = true → s.acceptFlit p (flitOf 2 1 h x) = some s1 →
      (s.flag fCW_MGMT_WR_EN = true →
        let w := s1.busWrite .causeway a (x.extractLsb' 32 32)
        ∀ o, w.answersOn p o src h.loc → Completes (.wrReq q h x) s fun t =>
          State.Sent w t o (w.rspFlit src h.loc 0 (sliceNat x 79 64) (if a % 4 = 0 then 0 else 2))) ∧
      (s.flag fCW_MGMT_WR_EN = false → ∀ o, s1.answersOn p o src h.loc → Completes (.wrReq q h x) s fun t =>
        State.Sent s1 t o (s1.rspFlit src h.loc 0 (sliceNat x 79 64) 1))) ∧
    (s.arrives p (flitOf 2 2 h x) = true → s.acceptFlit p (flitOf 2 2 h x) = some s1 →
      Completes (.rsp q h x) s fun t => t = s1 ∧ (t.cwPort p).rxExp = ((s.cwPort p).rxExp + 1) % 1024 ∧
        (t.cwPort p).freed = bump (s.cwPort p).freed (2 + bit h.vc) ∧ State.Frame [.cw] s t) ∧
    (s.arrives p (flitOf 3 0 h x) = true → s.acceptFlit p (flitOf 3 0 h x) = some s1 → 0 < sliceNat x 53 48 →
      Completes (.blkHead q h x) s fun t => State.Frame [.cw] s t ∧
        (∀ b ∈ (s.cwPort p).blocks, b.src ≠ src → b ∈ (t.cwPort p).blocks) ∧
        ∃ b ∈ (t.cwPort p).blocks, b.src = src ∧ b.loc = h.loc ∧ b.tag = sliceNat x 47 32 ∧ b.left = sliceNat x 53 48 ∧
          b.index = 0 ∧ b.addr = a - 0x3000000 ∧ b.status = (if a % 8 ≠ 0 then 2
            else if a < 0x3000000 ∨ 0x4000000 ≤ a ∨ s.flag fCW_MGMT_WR_EN = false then 1 else 0)) ∧
    (s.arrives p (flitOf 3 1 h x) = true → s.acceptFlit p (flitOf 3 1 h x) = some s1 →
      ∀ b, (s.cwPort p).blocks = [b] → b.src = src → b.status = 0 → s.flag fCW_MGMT_WR_EN = true →
        let w := s1.blockStore (b.addr + 24 * b.index) (leBytes 24 x.toNat)
        (1 < b.left → Completes (.blkData q h x) s fun t => State.Frame [.cw] w t ∧
          (t.cwPort p).blocks = [{ b with left := b.left - 1, index := b.index + 1 }]) ∧
        (b.left = 1 → ∀ o, w.answersOn p o src b.loc → Completes (.blkData q h x) s fun t =>
          ∃ w', State.Frame [.cw] w w' ∧ (w'.cwPort p).blocks = [] ∧
            State.Sent w' t o (w.rspFlit src b.loc 0 b.tag 0)))) ∧
  (∀ (q : Fin 8) (h : Hdr) (x : BitVec 192) (s : State), s.portActive q.val = true →
    let r := s.cwPort q.val
    h.seq.toNat ≠ r.rxExp →
    ((h.seq.toNat + 1024 - r.rxExp) % 1024 < 512 → r.nakSent = false → Completes (.wrReq q h x) s fun t =>
      t.cwPort q.val = { r with nakSent := true, nakDue := true } ∧ State.Frame [.cw] s t) ∧
    (512 ≤ (h.seq.toNat + 1024 - r.rxExp) % 1024 ∨ r.nakSent = true → Completes (.wrReq q h x) s fun t => t = s))

/-- R311, R313, R316 (11_causeway.md): the enable check of Causeway, whose success opens the end-to-end sequences anew; beacons sent
on every ACTIVE port; and the readiness bits that a beacon, its timeout and the RDY ball change. -/
def Obligations.CausewayEnableAndReadiness : Prop :=
  let shows (t : State) : Prop := t.flag fCW_RDY_STATUS_SELF = t.selfRdy ∧ t.flag fCW_RDY_STATUS_SUB = t.subRdy ∧
    t.flag fCW_RDY_STATUS_MACHINE = t.machineRdy ∧ t.fld fCW_RDY_STATUS_SILENT = t.silentPorts
  (∀ (p : Path) (s : State), s.mayWrite p rCW_CTRL = true → s.flag fCW_STATUS_ENABLED = false →
    (s.cwCheck = [] → Completes (.cwEnable p) s fun t =>
      t.flag fCW_CTRL_ENABLE = true ∧ t.flag fCW_STATUS_ENABLED = true ∧ t.flag fCW_STATUS_REFUSED = false ∧
      t.fld fCW_STATUS_REASON = 0 ∧ t.esqRx = [] ∧ t.esqTx = s.esqTx ∧ t.cw = s.cw) ∧
    ((∀ d ∈ s.dimPorts, s.portPresent d = true) →
      (∀ x < 8, s.flag (fCW_EXC_x_ACT_EN x) = true → s.portPresent (s.fld (fCW_EXC_x_ACT_PORT x)) = true) →
      s.modeOpen = false → Completes (.cwEnable p) s fun t =>
        t.flag fCW_STATUS_ENABLED = false ∧ t.flag fCW_STATUS_REFUSED = true ∧ t.fld fCW_STATUS_REASON = 0x02)) ∧
  (∀ (q : Fin 8) (h : Hdr) (x : BitVec 192) (s : State), s.arrives q.val (flitOf 2 3 h x) = true →
    Completes (.beacon q h x) s fun t =>
      (t.cwPort q.val).beacon = some (x.getLsbD 1, x.getLsbD 2, x.getLsbD 3) ∧
      (t.cwPort q.val).rxExp = ((s.cwPort q.val).rxExp + 1) % 1024 ∧ shows t) ∧
  (∀ s : State, s.pdOn 4 = true → Completes .beaconDue s fun t => shows t ∧
    ∀ q < 8, (s.portActive q = false → t.cwPort q = s.cwPort q) ∧
      (s.clearToSend q = true → ∃ f : Flit, f.cl = 2 ∧ f.kind = 3 ∧ f.loc = true ∧ f.src = s.nodeId ∧
        f.seq = (s.cwPort q).txSeq ∧ f.payload = t.beaconPayload q ∧ .flit q f.bits ∈ t.out ∧
        (t.cwPort q).unacked = (s.cwPort q).unacked ++ [f])) ∧
  (∀ (q : Fin 8) (s : State), s.pdOn 4 = true → Completes (.beaconTimeout q) s fun t =>
    (t.cwPort q.val).beacon = none ∧ shows t ∧ ∀ o, o ≠ q.val → t.cwPort o = s.cwPort o) ∧
  (∀ (level : Bool) (s : State), s.pdOn 4 = true → Completes (.rdyChange level) s fun t =>
    t.flag fCW_RDY_STATUS_BOARD = level ∧ shows t ∧ t.cw = s.cw)

/-! ### Boardwalk -/

/-- R329, R332 to R335, R337, R339 (12_host_rings.md): a fetch takes the next descriptor of its ring, counts it and reserves its
completion slot, and a descriptor that fails the checks of R335 is refused with a record and nothing else; NOP and TIME_QUERY
complete with their records; a FENCE waits until every descriptor fetched before it from its rings has completed. -/
def Obligations.DescriptorsFetchCheckAndComplete : Prop :=
  (∀ (p : Fin 4) (r : Fin 8) (bits : BitVec 512) (s : State), s.mayFetch p.val r.val = true →
    let c := s.fld (fBW_Pp_SQr_CTRL_CQ p.val r.val)
    let d : Desc := { bits := bits, no := s.fetches, cq := c, began := s.stamp }
    let taken (t : State) : Prop := t.fetches = s.fetches + 1 ∧
      t.regN (rBW_Pp_SQr_HEAD p.val r.val) = (s.regN (rBW_Pp_SQr_HEAD p.val r.val) + 1) % 2 ^ 32 ∧
      t.fld (fBW_Pp_COUNT_FETCHED p.val) = (s.fld (fBW_Pp_COUNT_FETCHED p.val) + 1) % 65536
    (s.descRefusal p.val d = none → Completes (.descriptorFetch p r bits) s fun t => taken t ∧
      t.sqs = (s.setSq p.val r.val { s.sq p.val r.val with cur := some d }).sqs ∧
      (s.fld (fBW_Pp_CQr_STATUS_RESERVED_SLOTS p.val c) < 65535 →
        t.fld (fBW_Pp_CQr_STATUS_RESERVED_SLOTS p.val c) = s.fld (fBW_Pp_CQr_STATUS_RESERVED_SLOTS p.val c) + 1) ∧
      (∃ block, t.out = s.out ++ [.hostWrite (s.reg64 (rBW_Pp_SB_ADDR_L p.val)) block]) ∧
      State.Frame [.regs, .out, .sqs, .fetches] s t) ∧
    (∀ why, s.descRefusal p.val d = some why → (∀ q < 8, q ≠ r.val → (s.sq p.val q).cur = none) →
      Completes (.descriptorFetch p r bits) s fun t => taken t ∧ (t.sq p.val r.val).cur = none ∧
        (∃ l, t.out = s.out ++ l ∧
          .hostWrite (s.recordAt p.val c) ((s.refusedRecord d why).bytes d.seq) ∈ l) ∧
        t.fld (fBW_Pp_COUNT_REFUSED p.val) = min (s.fld (fBW_Pp_COUNT_REFUSED p.val) + 1) 65535 ∧
        State.Frame [.regs, .out, .ic, .sqs, .fetches] s t)) ∧
  (∀ (p : Fin 4) (r : Fin 8) (bits : BitVec 512) (s : State), s.mayFetch p.val r.val = false →
    Completes (.descriptorFetch p r bits) s fun t => t = s) ∧
  (∀ (p : Fin 4) (r : Fin 8) (d : Desc) (s : State),
    (s.descReady p.val r.val 0x00 d → Completes (.descNop p r) s fun t =>
      State.Completed s t p.val r.val d (s.okRecord d 0)) ∧
    (s.descReady p.val r.val 0x08 d → Completes (.timeQuery p r) s fun t =>
      State.Completed s t p.val r.val d {
        steps := s.regN rTM_STATUS, shots := s.regN rTM_OFFSET, launch := s.stamp, endT := s.reg64 rTM_EPOCH_L }) ∧
    (s.descReady p.val r.val 0x07 d → Completes (.descFence p r) s fun t =>
      State.Completed s t p.val r.val d (s.okRecord d 0)) ∧
    (∀ (q : Nat) (e : Desc), s.bwRuns = true → (s.sq p.val r.val).cur = some d → d.opc = 0x07 → d.phase = .fetched →
      q < 8 → q ≠ r.val → (s.sq p.val q).cur = some e → (∃ f, e.phase = .append f 0 0 false) → e.no ≤ d.no →
      (d.le 8 1 = 0 ∨ bitOf (d.le 8 1) q = true) → (∀ o < 8, o ≠ r.val → o ≠ q → (s.sq p.val o).cur = none) →
      Completes (.descFence p r) s fun t =>
        (t.sq p.val r.val).cur = some { d with phase := .fence } ∧ State.Frame [.sqs] s t))

/-- R85, R124, R134, R335, R336, R196, R239 (12_host_rings.md): LOAD_PEAT, LOAD_PROG, LOAD_GRAPH, STREAM_APPEND, LOAD_WEIGHTS and
READ_ACC move their data and complete with the record of R333; a conflict, a refusal of the unit or a disabled buffer gives
REFUSED, a failed host read FAULT with 0x0A02, a full buffer or a busy tone holds the descriptor until room or the tone's end. -/
def Obligations.HostLoadsMoveTheirData : Prop :=
  ∀ (p : Fin 4) (r : Fin 8) (d : Desc) (data : List Byte) (s : State),
    let n := d.pool
    let len := d.le 16 4
    let img := data.take len
    let words := wordsOf data
    (s.descReady p.val r.val 0x02 d → d.unit = 0 →
      let dst := 4194304 * n + d.le 12 4
      (s.peatConflict n (d.le 12 4) len = true → Completes (.loadPeat p r data) s fun t =>
        State.Completed s t p.val r.val d (s.refusedRecord d 0x06)) ∧
      (s.peatConflict n (d.le 12 4) len = false → s.poolPowered n = true → len % 32 = 0 → len ≤ data.length →
        Completes (.loadPeat p r data) s fun t =>
          State.Completed { s with peat := s.peat.writeBytes dst img } t p.val r.val d (s.okRecord d (len / 32))) ∧
      (s.peatConflict n (d.le 12 4) len = false → s.poolPowered n = true → data.length < len →
        Completes (.loadPeat p r data) s fun t => State.Raises s t 0x0A02 ∧
          State.Completed { s with peat := s.peat.writeBytes dst (data.take (32 * (data.length / 32))) } t p.val r.val d {
            status := 4, fault := 0x0A02, steps := data.length / 32, launch := d.began, endT := s.stamp })) ∧
    (s.descReady p.val r.val 0x02 d → d.unit = 1 → n < 16 → d.le 12 4 + len ≤ 4096 → data.length = 32 * len →
      let x := s.loadSegs n (d.le 12 4) 0 (eights len words)
      (x.2.2 = none → Completes (.loadPeat p r data) s fun t =>
        State.Completed x.1 t p.val r.val d (s.okRecord d x.2.1)) ∧
      (∀ why, x.2.2 = some why → Completes (.loadPeat p r data) s fun t =>
        State.Completed x.1 t p.val r.val d { s.refusedRecord d why with steps := x.2.1 })) ∧
    (s.descReady p.val r.val 0x03 d → len ≤ data.length →
      let c := d.le 8 1
      c < 64 →
      (s.progRefusal c img = none → Completes (.loadProg p r data) s fun t =>
        State.Completed (s.progLoad c img) t p.val r.val d (s.okRecord d 1) ∧ t.rcState c = 1 ∧
        t.fld (fRC_i_IMG_NBUNDLE (c / 4) (c % 4)) = imageLe img 8 4 % 2 ^ 15 ∧ (t.core c).entry = imageLe img 16 4) ∧
      (∀ why, s.progRefusal c img = some why → Completes (.loadProg p r data) s fun t =>
        State.Completed (s.progRefused c why) t p.val r.val d (s.refusedRecord d why) ∧ t.imem = s.imem)) ∧
    (s.descReady p.val r.val 0x0B d → len ≤ data.length →
      (s.graphRefused img = none → Completes (.loadGraph p r data) s fun t =>
        State.Completed (s.graphLoad img) t p.val r.val d (s.okRecord d 1) ∧ t.flag fSDG_GRAPH_LOADED = true ∧
        t.sdg.graph = some (graphOf img)) ∧
      (∀ why, s.graphRefused img = some why → Completes (.loadGraph p r data) s fun t =>
        State.Completed s t p.val r.val d (s.refusedRecord d why))) ∧
    (s.descReady p.val r.val 0x04 d → data.length = 4 * len → 0 < len →
      let b := d.unit
      let wr := s.reg64 (rPEAT_SBb_WRPOS_L n b)
      let rd := s.reg64 (rPEAT_SBb_RDPOS_L n b)
      let size := (s.sbRegion n b).2
      ((s.sbuf n b).enabled = false → Completes (.streamAppend p r data) s fun t =>
        State.Completed s t p.val r.val d (s.refusedRecord d 0x08)) ∧
      ((s.sbuf n b).enabled = true → n < 16 → b < 16 → 0 < size → rd ≤ wr → wr + len ≤ rd + size → wr + len < 2 ^ 64 →
        Completes (.streamAppend p r data) s fun t =>
          t.reg64 (rPEAT_SBb_WRPOS_L n b) = wr + len ∧ (t.sq p.val r.val).cur = none ∧
          ∀ i < len, t.peat.readLe (4194304 * n + 4 * ((s.sbRegion n b).1 + (wr + i) % size)) 4 =
            (words.getD i 0).toNat) ∧
      ((s.sbuf n b).enabled = true → rd + size ≤ wr → Completes (.streamAppend p r data) s fun t =>
        (t.sq p.val r.val).cur = some { d with phase := .append words 0 0 false } ∧ State.Frame [.sqs] s t)) ∧
    (∀ (left : List Word) (w x : Nat), (s.sq p.val r.val).cur = some { d with phase := .append left w x false } →
      left ≠ [] →
      let b := d.unit
      let wr := s.reg64 (rPEAT_SBb_WRPOS_L n b)
      let rd := s.reg64 (rPEAT_SBb_RDPOS_L n b)
      let size := (s.sbRegion n b).2
      (s.sbuf n b).enabled = true → n < 16 → b < 16 → 0 < size → rd ≤ wr →
      (wr + left.length ≤ rd + size → wr + left.length < 2 ^ 64 → Completes (.streamAppendContinue p r) s fun t =>
        t.reg64 (rPEAT_SBb_WRPOS_L n b) = wr + left.length ∧ (t.sq p.val r.val).cur = none ∧
        ∀ i < left.length, t.peat.readLe (4194304 * n + 4 * ((s.sbRegion n b).1 + (wr + i) % size)) 4 =
          (left.getD i 0).toNat) ∧
      (rd + size ≤ wr → Completes (.streamAppendContinue p r) s fun t => t.peat = s.peat ∧ t.regs = s.regs ∧
        (t.sq p.val r.val).cur = some { d with phase := .append left w x false })) ∧
    (s.descReady p.val r.val 0x0A d → words.length = d.le 14 2 →
      (bitOf s.roEver n = false → Completes (.loadWeights p r data) s fun t =>
        State.Completed s t p.val r.val d (s.refusedRecord d 0x08)) ∧
      (bitOf s.roEver n = true → (s.tone n d.unit).busy = true → Completes (.loadWeights p r data) s fun t =>
        (t.sq p.val r.val).cur = some { d with phase := .weights words false } ∧ State.Frame [.sqs] s t) ∧
      (bitOf s.roEver n = true → (s.tone n d.unit).busy = false → Completes (.loadWeights p r data) s fun t =>
        State.Completed (s.writeWeights n d.unit (d.le 12 2) words) t p.val r.val d (s.okRecord d words.length) ∧
        ∀ i < words.length, t.weight n d.unit (d.le 12 2 + i) = words.getD i 0)) ∧
    (∀ ws : List Word, (s.sq p.val r.val).cur = some { d with phase := .weights ws false } →
      ((s.tone n d.unit).busy = true → Completes (.loadWeightsApply p r) s fun t => t = s) ∧
      ((s.tone n d.unit).busy = false → Completes (.loadWeightsApply p r) s fun t =>
        (t.sq p.val r.val).cur = none ∧ ∀ i < ws.length, t.weight n d.unit (d.le 12 2 + i) = ws.getD i 0)) ∧
    (s.descReady p.val r.val 0x0C d →
      (bitOf s.roEver n = false → Completes (.readAcc p r) s fun t =>
        State.Completed s t p.val r.val d (s.refusedRecord d 0x08)) ∧
      (bitOf s.roEver n = true → d.flagOp = false → Completes (.readAcc p r) s fun t =>
        State.Completed { s with out := s.out ++ [.hostWrite (d.le 16 8) (s.accSnapshot n d.unit (d.le 12 2))] } t p.val
          r.val d { s.okRecord d (d.le 12 2) with shots := s.regN (rRO_Tk_SHOTS n d.unit) }) ∧
      (bitOf s.roEver n = true → d.flagOp = true → n < 16 → d.unit < 32 → Completes (.readAcc p r) s fun t =>
        (∃ l, t.out = s.out ++ .hostWrite (d.le 16 8) (s.accSnapshot n d.unit (d.le 12 2)) :: l) ∧
        t.regN (rRO_Tk_SHOTS n d.unit) = 0 ∧ (t.tone n d.unit).sumI = 0 ∧ (t.tone n d.unit).bins = []))

/-- R161, R197, R340, R341, R345, R346, R338, R411 (12_host_rings.md): a RUN waits until its Pools are free and its checks pass, or
is refused; it becomes active and its cores start at T_s; it completes when everything of it stands at its end; TIMEOUT and ABORT
end it, a waiting one at once. -/
def Obligations.RunsStartCompleteAndEnd : Prop :=
  (∀ (p : Fin 4) (r : Fin 8) (d : Desc) (s : State), s.descReady p.val r.val 0x01 d →
    let x := d.run p.val r.val
    (s.runBlocked x = true ∨ s.runFailures x = [] → Completes (.run p r) s fun t =>
      t.runs = s.runs ++ [x] ∧ (t.sq p.val r.val).cur = some { d with phase := .run } ∧ State.Frame [.runs, .sqs] s t) ∧
    (s.runBlocked x = false → s.timeReady = false → Completes (.run p r) s fun t =>
      State.Completed s t p.val r.val d (s.refusedRecord d 0x03))) ∧
  (∀ (p : Fin 4) (r : Fin 8) (x : Run) (s : State), s.runAt p.val r.val = some x → x.active = false →
    (s.runBlocked x = true → Completes (.runReady p r) s fun t => t = s) ∧
    (s.runBlocked x = false → s.runFailures x = [] → x.buf ≠ none → Completes (.runReady p r) s fun t =>
      (∃ ts, t.runAt p.val r.val = some { x with active := true, ts := ts } ∧
        (x.tStart ≠ 0 → ts = x.tStart) ∧
        (x.tStart = 0 → ts % 16 = 0 ∧ s.now + 1024 ≤ ts ∧ ts < s.now + 1040)) ∧
      t.mode = (if s.mode = 7 then 8 else s.mode)) ∧
    (∀ d, s.bwRuns = true → s.runBlocked x = false → s.timeReady = true → s.shotToneBad x = false →
      (∀ y ∈ s.runs, y.active = true → y.part = x.part → y.tag ≠ x.tag) →
      (∀ c < 64, bitOf x.coreMask c = true → s.rcState c = 1) → x.tStart ≠ 0 → x.tStart < s.now + 1024 →
      s.runs = [x] → s.partOn p.val = true → (s.sq p.val r.val).cur = some d → d.phase = .run → d.cq < 8 →
      (s.cq p.val d.cq).on = true → s.flag (fBW_Pp_CQr_STATUS_ERR p.val d.cq) = false →
      (∀ q < 8, q ≠ r.val → (s.sq p.val q).cur = none) → Completes (.runReady p r) s fun t =>
        t.runs = [] ∧ State.Completed { s with runs := [] } t p.val r.val d (s.refusedRecord d 0xC4))) ∧
  (∀ (p : Fin 4) (r : Fin 8) (x : Run) (s : State), s.runAt p.val r.val = some x → x.active = true → x.started = false →
    x.cut = false → Completes (.runStart p r) s fun t =>
      (∀ c < 64, bitOf x.coreMask c = true → t.rcState c = 2 ∧ (t.core c).st = BitVec.ofNat 64 x.ts ∧
        t.pc c = (s.core c).entry % 2 ^ 14 ∧ (t.core c).queue = [] ∧ t.level c = 0) ∧
      (∀ c < 64, bitOf x.coreMask c = false → t.core c = s.core c) ∧
      (∀ n < 16, x.hasPool n = true → ∀ k < 32, t.reg (rDN_SLOT_s (32 * n + k)) = 0) ∧
      t.runAt p.val r.val = some { x with started := true } ∧
      t.fen.presented = s.fen.presented ++ [0x380 + p.val]) ∧
  (∀ (p : Fin 4) (r : Fin 8) (x : Run) (d : Desc) (s : State), s.runs = [x] → x.part = p.val → x.ring = r.val →
    s.bwRuns = true → s.partOn p.val = true → (s.sq p.val r.val).cur = some d → d.phase = .run → d.cq < 8 →
    (s.cq p.val d.cq).on = true → s.flag (fBW_Pp_CQr_STATUS_ERR p.val d.cq) = false →
    (∀ q < 8, q ≠ r.val → (s.sq p.val q).cur = none) →
    (s.runOver x = true → x.buf = none → (s.partn p.val).posts = [] → bitOf d.flg 1 = false → s.mode = 8 →
      Completes (.runComplete p r) s fun t =>
        t.runs = [] ∧ t.mode = 7 ∧ (t.sq p.val r.val).cur = none ∧ 0x384 + p.val ∈ t.fen.presented ∧
        (∀ c < 64, bitOf x.coreMask c = true → s.rcState c ∈ [4, 5, 6] → t.rcState c = 1) ∧
        ∃ l, t.out = s.out ++ l ∧ .hostWrite (s.recordAt p.val d.cq) (Completion.bytes {
          status := (s.runStatus x).1, fault := (s.runStatus x).2, steps := s.cleanShots x true
          shots := s.wholeShots x true, launch := x.launch.getD 0xFFFFFFFFFFFFFFFF
          endT := match x.lastT, x.lastEnd with
            | some a, some b => max a b
            | some a, none => a
            | none, some b => b
            | none, none => s.stamp } d.seq) ∈ l) ∧
    (s.runOver x = false → Completes (.runComplete p r) s fun t => t = s)) ∧
  (∀ (p : Fin 4) (r : Fin 8) (x : Run) (s : State), s.runs = [x] → x.part = p.val → x.ring = r.val → x.active = true →
    x.started = true → x.timeout ≠ 0 → x.ended = none → Completes (.runTimeout p r) s fun t =>
      State.Raises s t 0x0A05 ∧ (∃ y, t.runAt p.val r.val = some y ∧ y.ended = some 0x0A05) ∧
      ∀ c < 64, bitOf x.coreMask c = true → s.rcState c ∈ [2, 3, 4] → t.rcState c = 6) ∧
  (∀ (p : Fin 4) (r : Fin 8) (d : Desc) (s : State), s.descReady p.val r.val 0x09 d →
    ((∀ x ∈ s.runs, x.part ≠ p.val ∨ (d.flagOp = false ∧ x.tag ≠ d.le 8 2)) → Completes (.abort p r) s fun t =>
      State.Completed s t p.val r.val d (s.okRecord d 0) ∧ t.runs = s.runs)) ∧
  (∀ (p : Fin 4) (r : Fin 8) (d e : Desc) (x : Run) (s : State), s.bwRuns = true → s.partOn p.val = true →
    (s.sq p.val r.val).cur = some d → d.opc = 0x09 → d.phase = .fetched → s.runs = [x] → x.part = p.val →
    x.ring ≠ r.val → x.ring < 8 → (d.flagOp = true ∨ x.tag = d.le 8 2) → (s.sq p.val x.ring).cur = some e → e.phase = .run →
    (∀ q < 8, q ≠ r.val → q ≠ x.ring → (s.sq p.val q).cur = none) →
    (x.active = true → Completes (.abort p r) s fun t =>
      (t.sq p.val r.val).cur = some { d with phase := .abort [x.ring] 1 } ∧
      (∃ y, t.runAt p.val x.ring = some y ∧ y.ended = some (x.ended.getD 0)) ∧
      ∀ c < 64, bitOf x.coreMask c = true → s.rcState c ∈ [2, 3, 4] → t.rcState c = 6) ∧
    (x.active = false → (s.cq p.val e.cq).on = true → e.cq < 8 → s.flag (fBW_Pp_CQr_STATUS_ERR p.val e.cq) = false →
      Completes (.abort p r) s fun t => t.runs = [] ∧ (t.sq p.val r.val).cur = none ∧ (t.sq p.val x.ring).cur = none ∧
        ∃ l, t.out = s.out ++ l ∧ .hostWrite (s.recordAt p.val e.cq) (Completion.bytes {
          status := 3, launch := 0xFFFFFFFFFFFFFFFF, endT := s.stamp } e.seq) ∈ l))

/-- R338, R341, R343, R344 (12_host_rings.md): a RESULT_POST queues its buffer while there are fewer than 16; a window's records go
into the current buffer; a window that does not fit retires it with FULL and takes the next posted one; with no buffer, or a failed
write, the window counts as lost, with FAULT 0x0A03 or 0x0A02. -/
def Obligations.ResultRecordsFillBuffers : Prop :=
  (∀ (p : Fin 4) (r : Fin 8) (d : Desc) (s : State), s.descReady p.val r.val 0x06 d →
    ((s.partn p.val).posts.length < 16 → Completes (.resultPost p r) s fun t =>
      (t.partn p.val).posts = (s.partn p.val).posts ++ [{
        runTag := d.le 8 2, addr := d.le 16 8, size := d.le 24 4, seq := d.seq, flg := d.flg, cq := d.cq
        began := d.began }] ∧
      (t.sq p.val r.val).cur = none ∧ State.Frame [.parts, .sqs] s t) ∧
    (16 ≤ (s.partn p.val).posts.length → Completes (.resultPost p r) s fun t =>
      State.Completed s t p.val r.val d (s.refusedRecord d 0xC5))) ∧
  (∀ (n : Fin 16) (w : WinRecs) (rest : List WinRecs) (x : Run) (s : State), s.fifo n.val = w :: rest → s.runs = [x] →
    x.active = true → x.hasPool n.val = true → s.pdOn 3 = true → s.csReady 0 = true →
    let units := w.words.length / 4
    let level (t : State) : Prop := t.fifo n.val = rest ∧
      (units ≤ s.fld (fRO_FIFO_LEVEL n.val) → t.fld (fRO_FIFO_LEVEL n.val) = s.fld (fRO_FIFO_LEVEL n.val) - units)
    let records := w.words.flatMap (fun v => leBytes 4 v.toNat)
    (∀ b, x.buf = some b → 64 + 16 * (b.units + units) ≤ b.size →
      Completes (.resultWrite n true) s (fun t => level t ∧
        t.out = s.out ++ [.hostWrite (b.addr + 64 + 16 * b.units) records] ∧
        t.runs = [{ x with buf := some { b with units := b.units + units, tLast := w.tEnd } }] ∧
        t.faultLog = s.faultLog) ∧
      Completes (.resultWrite n false) s fun t => level t ∧ State.Raises s t 0x0A02 ∧
        t.runs = [{ x with
          lost := x.lost + 1, marks := x.marks ++ [(w.tEnd, 0x0A02)], fault := some (x.fault.getD 0x0A02) }]) ∧
    (∀ (b : ResBuf) (q : PostBuf), x.buf = some b → b.post = none → b.size < 64 + 16 * (b.units + units) →
      (s.partn x.part).posts = [q] → q.runTag = x.tag → 64 + 16 * units ≤ q.size →
      Completes (.resultWrite n true) s fun t => level t ∧
        t.out = s.out ++ [
          .hostWrite b.addr (leBytes 4 b.units ++ leBytes 4 x.lost ++ leBytes 4 (s.wholeShots x false) ++ leBytes 4 1 ++
            leBytes 8 b.tLast ++ leBytes 4 x.seq ++ List.replicate 36 0),
          .hostWrite (q.addr + 64) records] ∧
        t.runs = [{ x with
          buf := some { addr := q.addr, size := q.size, units := units, tLast := w.tEnd, post := some q }, lost := 0 }] ∧
        (t.partn x.part).posts = []) ∧
    (∀ ok : Bool, x.buf = none → (∀ q ∈ (s.partn x.part).posts, q.runTag ≠ x.tag) →
      Completes (.resultWrite n ok) s fun t => level t ∧ State.Raises s t 0x0A03 ∧
        t.runs = [{ x with lost := x.lost + 1, marks := x.marks ++ [(w.tEnd, 0x0A03)] }])) ∧
  (∀ (n : Fin 16) (ok : Bool) (s : State), s.fifo n.val = [] → Completes (.resultWrite n ok) s fun t => t = s)

/-- R322, R326 to R331 (12_host_rings.md): the checks that enable a partition and its rings, what disabling does, a poll of the
doorbell block with its index checks, KICK, and the host resets, which return Boardwalk and the interrupt controller to reset,
raise FAULT 0x0A04 and leave the mode, fabric time, Sluice and Causeway as they are. -/
def Obligations.PartitionsRingsAndHostResets : Prop :=
  (∀ (a : Path) (p : Fin 4) (s : State), s.mayWrite a (rBW_Pp_CTRL p.val) = true →
    let db := s.reg64 (rBW_Pp_DB_ADDR_L p.val)
    let sb := s.reg64 (rBW_Pp_SB_ADDR_L p.val)
    let valid : Prop := db ≠ 0 ∧ sb ≠ 0 ∧ db % 64 = 0 ∧ sb % 64 = 0
    (s.partOn p.val = false → s.csReady 0 = true → valid → Completes (.partitionEnable a p) s fun t =>
      t.partOn p.val = true ∧ t.flag (fBW_Pp_CTRL_ENABLE p.val) = true ∧ t.flag (fBW_Pp_STATUS_REFUSED p.val) = false) ∧
    (s.partOn p.val = false → s.csReady 0 = true → ¬ valid → Completes (.partitionEnable a p) s fun t =>
      t.partOn p.val = false ∧ t.flag (fBW_Pp_STATUS_REFUSED p.val) = true ∧
      t.fld (fBW_Pp_STATUS_REASON p.val) = 0xC3) ∧
    Completes (.partitionDisable a p) s (fun t =>
      t.partOn p.val = false ∧ t.flag (fBW_Pp_CTRL_ENABLE p.val) = false ∧ (t.partn p.val) = {} ∧
      (∀ r < 8, (t.sq p.val r).on = false ∧ (t.sq p.val r).cur = none ∧ (t.cq p.val r).on = false ∧
        t.flag (fBW_Pp_SQr_CTRL_EN p.val r) = false ∧ t.flag (fBW_Pp_CQr_CTRL_EN p.val r) = false) ∧
      (∀ y ∈ t.runs, y.part = p.val → y.active = true ∧ y.ended ≠ none) ∧
      (∀ at_ bytes, .hostWrite at_ bytes ∈ t.out → .hostWrite at_ bytes ∈ s.out) ∧ t.mode = s.mode) ∧
    Completes (.kick a p) s (fun t =>
      (t.partn p.val).changed = some s.now ∧ (t.partn p.val).posts = (s.partn p.val).posts ∧ State.Frame [.parts] s t)) ∧
  (∀ (a : Path) (p : Fin 4) (r : Fin 8) (v : Word) (s : State),
    (s.mayWrite a (rBW_Pp_SQr_CTRL p.val r.val) = true →
      ((s.sq p.val r.val).on = false → s.partOn p.val = true →
        ringSizeOk (s.fld (fBW_Pp_SQr_SIZE_ENTRIES p.val r.val)) = true →
        s.reg64 (rBW_Pp_SQr_BASE_L p.val r.val) % 4096 = 0 →
        ((s.cq p.val (fieldOf v 6 4)).on = true → Completes (.ringEnable a p r false v) s fun t =>
          (t.sq p.val r.val).on = true ∧ (t.sq p.val r.val).tail = 0 ∧ t.regN (rBW_Pp_SQr_HEAD p.val r.val) = 0 ∧
          t.fld (fBW_Pp_SQr_CTRL_CQ p.val r.val) = fieldOf v 6 4 ∧ t.flag (fBW_Pp_SQr_STATUS_REFUSED p.val r.val) = false) ∧
        ((s.cq p.val (fieldOf v 6 4)).on = false → Completes (.ringEnable a p r false v) s fun t =>
          (t.sq p.val r.val).on = false ∧ t.flag (fBW_Pp_SQr_STATUS_REFUSED p.val r.val) = true ∧
          t.fld (fBW_Pp_SQr_STATUS_REASON p.val r.val) = 0xC6)) ∧
      Completes (.ringDisable a p r false v) s (fun t =>
        (t.sq p.val r.val).on = false ∧ (t.sq p.val r.val).cur = (s.sq p.val r.val).cur ∧
        t.flag (fBW_Pp_SQr_CTRL_EN p.val r.val) = false ∧ t.flag (fBW_Pp_SQr_STATUS_ERR p.val r.val) = false)) ∧
    (s.mayWrite a (rBW_Pp_CQr_CTRL p.val r.val) = true →
      ((s.cq p.val r.val).on = false → s.partOn p.val = true →
        ringSizeOk (s.fld (fBW_Pp_CQr_SIZE_ENTRIES p.val r.val)) = true →
        s.reg64 (rBW_Pp_CQr_BASE_L p.val r.val) % 4096 = 0 → Completes (.ringEnable a p r true v) s fun t =>
          (t.cq p.val r.val).on = true ∧ (t.cq p.val r.val).head = 0 ∧ t.regN (rBW_Pp_CQr_TAIL p.val r.val) = 0 ∧
          t.flag (fBW_Pp_CQr_STATUS_REFUSED p.val r.val) = false) ∧
      ((∃ q < 8, (s.sq p.val q).on = true ∧ s.fld (fBW_Pp_SQr_CTRL_CQ p.val q) = r.val) →
        Completes (.ringDisable a p r true v) s fun t =>
          t.cqs = s.cqs ∧ t.flag (fBW_Pp_CQr_CTRL_EN p.val r.val) = s.flag (fBW_Pp_CQr_CTRL_EN p.val r.val) ∧
          t.flag (fBW_Pp_CQr_STATUS_REFUSED p.val r.val) = true ∧ t.fld (fBW_Pp_CQr_STATUS_REASON p.val r.val) = 0x08) ∧
      ((∀ q < 8, (s.sq p.val q).on = false ∨ s.fld (fBW_Pp_SQr_CTRL_CQ p.val q) ≠ r.val) →
        Completes (.ringDisable a p r true v) s fun t =>
          (t.cq p.val r.val).on = false ∧ t.flag (fBW_Pp_CQr_CTRL_EN p.val r.val) = false))) ∧
  (∀ (p : Fin 4) (s : State), s.bwRuns = true → s.partOn p.val = true →
    Completes (.doorbellPoll p none) s (fun t => State.Raises s t 0x0A02 ∧ t.sqs = s.sqs ∧ t.cqs = s.cqs) ∧
    ∀ b : BitVec 512, Completes (.doorbellPoll p (some b)) s fun t => ∀ r < 8,
      let tail := sliceNat b (32 * r + 31) (32 * r)
      let head := sliceNat b (256 + 32 * r + 31) (256 + 32 * r)
      let ahead := (tail + 2 ^ 32 - s.regN (rBW_Pp_SQr_HEAD p.val r)) % 2 ^ 32
      let behind := (s.regN (rBW_Pp_CQr_TAIL p.val r) + 2 ^ 32 - head) % 2 ^ 32
      ((s.sq p.val r).on = true → s.flag (fBW_Pp_SQr_STATUS_ERR p.val r) = false →
        (ahead ≤ s.fld (fBW_Pp_SQr_SIZE_ENTRIES p.val r) → (t.sq p.val r).tail = tail ∧
          t.flag (fBW_Pp_SQr_STATUS_ERR p.val r) = false) ∧
        (s.fld (fBW_Pp_SQr_SIZE_ENTRIES p.val r) < ahead → t.flag (fBW_Pp_SQr_STATUS_ERR p.val r) = true ∧
          State.Raises s t 0x0A01 ∧ (t.sq p.val r).tail = (s.sq p.val r).tail)) ∧
      ((s.cq p.val r).on = true → s.flag (fBW_Pp_CQr_STATUS_ERR p.val r) = false →
        (behind ≤ s.fld (fBW_Pp_CQr_SIZE_ENTRIES p.val r) → (t.cq p.val r).head = head) ∧
        (s.fld (fBW_Pp_CQr_SIZE_ENTRIES p.val r) < behind → t.flag (fBW_Pp_CQr_STATUS_ERR p.val r) = true ∧
          State.Raises s t 0x0A01))) ∧
  (∀ (kind : Fin 3) (s : State), Completes (.hostReset kind) s fun t =>
    State.Raises s t 0x0A04 ∧ t.fld fBW_FAULT_CODE = 0x0A04 ∧ (∀ p < 4, t.partOn p = false) ∧
    t.sqs = [] ∧ t.cqs = [] ∧ t.parts = [] ∧ t.ic.msixEnable = 0 ∧ t.mode = s.mode ∧ t.tm = s.tm ∧ t.slu = s.slu ∧
    t.cw = s.cw ∧ (kind.val < 2 → t.reg rBW_PCIE = 0) ∧
    (kind.val = 2 → t.flag fBW_PCIE_LINK_UP = s.flag fBW_PCIE_LINK_UP ∧ t.fld fBW_PCIE_NUMVF = 0) ∧
    t.sec.perst = (if kind.val = 0 then true else s.sec.perst)) ∧
  (∀ (k : Fin 4) (s : State), Completes (.vfFlr k) s fun t =>
    t.partOn k.val = false ∧ (∀ p < 4, p ≠ k.val → t.partOn p = s.partOn p) ∧
    t.ic.msixEnable.getLsbD (k.val + 1) = false ∧ t.mode = s.mode ∧ t.tm = s.tm ∧ t.slu = s.slu ∧ t.cw = s.cw)

/-! ### The host interrupt controller -/

/-- R350, R352 to R356, R358, R359 (13_interrupts.md): enabling arms every vector and samples the LEVEL sources; disabling keeps
what is pending; an EOI re-arms its vector; a Fen task makes its source pending; the gate, a running hold-off and MSI-X masks hold
messages back, and their end sends them. -/
def Obligations.InterruptControllerSendsMessages : Prop :=
  (∀ (p : Path) (v : Word) (s : State), s.mayWrite p rIC_CFG = true → s.flag fIC_STATUS_ENABLED = false →
    (s.icCheck = [] → v.getLsbD 1 = true → s.flag fIC_GATE_GATE = true → Completes (.icEnable p v) s fun t =>
      t.flag fIC_CFG_ENABLE = true ∧ t.flag fIC_STATUS_ENABLED = true ∧ t.flag fIC_CFG_MODE = true ∧
      t.flag fIC_STATUS_REFUSED = false ∧ (∀ ix < 320, t.icDisarmed ix = false) ∧ t.out = s.out ∧
      ∀ x < 512, t.icPending x =
        (s.icPending x || (s.icSource x && bitOf (s.regN (rIC_RAW_w (x / 32))) (x % 32)))) ∧
    (s.icCheck = [] → (∀ x < 512, s.icPending x = false ∧ bitOf (s.regN (rIC_RAW_w (x / 32))) (x % 32) = false) →
      Completes (.icEnable p v) s fun t =>
        t.flag fIC_STATUS_ENABLED = true ∧ t.flag fIC_CFG_MODE = v.getLsbD 1 ∧ (∀ ix < 320, t.icDisarmed ix = false) ∧
        t.out = s.out ∧ (v.getLsbD 1 = false → t.flag fIC_GATE_GATE = false)) ∧
    (s.modeOpen = false → Completes (.icEnable p v) s fun t =>
      t.flag fIC_STATUS_ENABLED = false ∧ t.flag fIC_STATUS_REFUSED = true ∧ t.fld fIC_STATUS_REASON = 0x02)) ∧
  (∀ (p : Path) (v : Word) (s : State), s.mayWrite p rIC_CFG = true → Completes (.icDisable p v) s fun t =>
    t.flag fIC_CFG_ENABLE = false ∧ t.flag fIC_STATUS_ENABLED = false ∧
    (∀ w < 16, t.reg (rIC_PEND_w w) = s.reg (rIC_PEND_w w)) ∧ State.Frame [.regs] s t ∧
    State.OnlyRegs [rIC_CFG, rIC_STATUS, rIC_GATE] s t ∧
    (s.flag fIC_STATUS_ENABLED = true → t.flag fIC_CFG_MODE = s.flag fIC_CFG_MODE)) ∧
  (∀ (p : Path) (v : Word) (s : State), s.mayWrite p rIC_EOI = true →
    let ix := fieldOf v 7 0
    (fieldOf v 10 8 ≠ 0 → Completes (.icEoi p v) s fun t => t = s) ∧
    (fieldOf v 10 8 = 0 → s.flag fIC_STATUS_ENABLED = false ∨ s.flag fIC_GATE_GATE = true →
      Completes (.icEoi p v) s fun t => t.icDisarmed ix = false ∧ State.Frame [.regs] s t ∧
        ∀ x < 512, t.icPending x = (s.icPending x || (s.icSource x && decide (s.icVector x = ix) &&
          bitOf (s.regN (rIC_RAW_w (x / 32))) (x % 32)))) ∧
    (fieldOf v 10 8 = 0 → ∀ x, (s.setRegBit (rIC_DISARMED_x (ix / 32)) (ix % 32) false).soleReady x ix →
      (∀ y < 512, bitOf (s.regN (rIC_RAW_w (y / 32))) (y % 32) = false) →
      Completes (.icEoi p v) s fun t => State.Messaged s t x ix)) ∧
  (∀ (p : Path) (v : Word) (s : State), s.mayWrite p rIC_GATE = true →
    (s.flag fIC_CFG_MODE = false → Completes (.icGate p v) s fun t => t = s) ∧
    (s.flag fIC_CFG_MODE = true → v.getLsbD 0 = true → Completes (.icGate p v) s fun t =>
      t.flag fIC_GATE_GATE = true ∧ State.Frame [.regs] s t ∧ State.OnlyRegs [rIC_GATE] s t) ∧
    (s.flag fIC_CFG_MODE = true → v.getLsbD 0 = false → ∀ x ix, (s.setReg rIC_GATE 0).soleReady x ix →
      Completes (.icGate p v) s fun t => t.flag fIC_GATE_GATE = false ∧ State.Messaged s t x ix)) ∧
  (∀ (g : Fin 32) (s : State),
    (s.icSilent → Completes (.holdoffExpiry g) s fun t => t.ic.holdOff.getLsbD g.val = false ∧ State.Frame [.ic] s t) ∧
    (∀ x ix, x / 16 = g.val → { s with ic := { s.ic with holdOff := 0 } }.soleReady x ix →
      Completes (.holdoffExpiry g) s fun t => State.Messaged s t x ix)) ∧
  (∀ (m : MsixWrite) (s : State), Completes (.msixUnmask m) s fun t =>
    (match m with
      | .entry ix b => t.ic.entryMask.getLsbD ix.val = b ∧ t.ic.funcMask = s.ic.funcMask ∧ t.ic.msixEnable = s.ic.msixEnable
      | .function f b => t.ic.funcMask.getLsbD f.val = b ∧ t.ic.entryMask = s.ic.entryMask ∧
        t.ic.msixEnable = s.ic.msixEnable
      | .enable f b => t.ic.msixEnable.getLsbD f.val = b ∧ t.ic.entryMask = s.ic.entryMask ∧
        t.ic.funcMask = s.ic.funcMask) ∧
    (∃ l, t.out = s.out ++ l ∧ ∀ ix < 320,
      (s.ic.pba.getLsbD ix = true → t.msixHeld ix = false → .msix ix ∈ l) ∧
      (t.ic.pba.getLsbD ix = (s.ic.pba.getLsbD ix && t.msixHeld ix))) ∧ State.Frame [.ic, .out] s t) ∧
  (∀ (k : Fin 16) (s : State), s.pdOn 3 = true →
    (s.icSilent → s.flag fIC_STATUS_ENABLED = false ∨ s.flag fIC_GATE_GATE = true ∨ s.icMasked (128 + k.val) = true →
      Completes (.icFen k) s fun t => t.icPending (128 + k.val) = true ∧ t.out = s.out ∧ State.Frame [.regs, .fen] s t ∧
        State.OnlyRegs [rIC_PEND_w 4] s t) ∧
    (∀ ix, ((s.setRegBit (rIC_PEND_w 4) k.val true)).soleReady (128 + k.val) ix → Completes (.icFen k) s fun t =>
      State.Messaged s t (128 + k.val) ix))

/-- R357, R358 (13_interrupts.md): IC_PEND_w is a plain word in PLAIN and write-one-to-clear in GATED; IC_MASK_SET_w and
IC_MASK_CLR_w set and clear mask bits in GATED and are ignored in PLAIN; unmasking a pending source sends its message. -/
def Obligations.PendingAndMaskWordsFollowTheirMode : Prop :=
  ∀ (p : Path) (w : Fin 16) (v : Word) (s : State),
    (s.mayWrite p (rIC_PEND_w w.val) = true →
      (s.flag fIC_CFG_MODE = false → s.flag fIC_STATUS_ENABLED = false → Completes (.icPendWrite p w v) s fun t =>
        (∀ j < 32, t.icPending (32 * w.val + j) = (v.getLsbD j && s.icSource (32 * w.val + j))) ∧
        State.Frame [.regs] s t ∧ State.OnlyRegs [rIC_PEND_w w.val] s t) ∧
      (s.flag fIC_CFG_MODE = false → (s.setReg (rIC_PEND_w w.val) 0).icSilent →
        (∀ j < 32, v.getLsbD j = true → s.icMasked (32 * w.val + j) = true) → Completes (.icPendWrite p w v) s fun t =>
          (∀ j < 32, t.icPending (32 * w.val + j) = (v.getLsbD j && s.icSource (32 * w.val + j))) ∧ t.out = s.out) ∧
      (s.flag fIC_CFG_MODE = true → Completes (.icPendWrite p w v) s fun t =>
        t.reg (rIC_PEND_w w.val) = s.reg (rIC_PEND_w w.val) &&& ~~~v ∧ State.Frame [.regs] s t ∧
        State.OnlyRegs [rIC_PEND_w w.val] s t)) ∧
    (s.mayWrite p (rIC_MASK_SET_w w.val) = true →
      (s.flag fIC_CFG_MODE = false → Completes (.icMaskSet p w v) s fun t => t = s) ∧
      (s.flag fIC_CFG_MODE = true → s.icSilent → Completes (.icMaskSet p w v) s fun t =>
        t.reg (rIC_MASK_w w.val) = s.reg (rIC_MASK_w w.val) ||| v ∧ State.Frame [.regs] s t ∧
        State.OnlyRegs [rIC_MASK_w w.val] s t)) ∧
    (s.mayWrite p (rIC_MASK_CLR_w w.val) = true →
      (s.flag fIC_CFG_MODE = false → Completes (.icMaskClr p w v) s fun t => t = s) ∧
      (s.flag fIC_CFG_MODE = true → s.flag fIC_STATUS_ENABLED = false ∨ s.flag fIC_GATE_GATE = true →
        Completes (.icMaskClr p w v) s fun t =>
          t.reg (rIC_MASK_w w.val) = s.reg (rIC_MASK_w w.val) &&& ~~~v ∧ State.Frame [.regs] s t ∧
          State.OnlyRegs [rIC_MASK_w w.val] s t) ∧
      (s.flag fIC_CFG_MODE = true → ∀ x ix,
        (s.setReg (rIC_MASK_w w.val) (s.reg (rIC_MASK_w w.val) &&& ~~~v)).soleReady x ix →
        Completes (.icMaskClr p w v) s fun t =>
          t.reg (rIC_MASK_w w.val) = s.reg (rIC_MASK_w w.val) &&& ~~~v ∧ State.Messaged s t x ix))

/-! ### Sluice -/

/-- R363, R364, R367 to R370, R377 (14_sluice_dipwell.md): a strobe copies the staged codes of its group into the targets, by
register where SRC_REG allows it and by the Fen task where SRC_FEN does; in SAFE it is ignored and counted. That a BIAS_HOLD under a
cause ignores strobes uncounted is read from R443. -/
def Obligations.StrobesTransferStagedCodes : Prop :=
  (∀ (p : Path) (g : Fin 16) (s : State), s.mayWrite p (rSLU_Gg_LOAD g.val) = true →
    (s.flag (fSLU_Gg_CFG_SRC_REG g.val) = false → Completes (.strobe p g) s fun t => t = s) ∧
    (s.flag (fSLU_Gg_CFG_SRC_REG g.val) = true → s.flag fSLU_STATUS_ENABLED = true → s.chLive (16 * g.val) = true →
      (s.mode ≠ modeSafe → s.biasHeld = false → Completes (.strobe p g) s fun t => State.Transferred s t g.val) ∧
      (s.mode = modeSafe → Completes (.strobe p g) s fun t =>
        t.fld (fSLU_Gg_COUNT_IGNORED g.val) = min (s.fld (fSLU_Gg_COUNT_IGNORED g.val) + 1) 65535 ∧
        t.fld (fSLU_Gg_COUNT_LOADS g.val) = s.fld (fSLU_Gg_COUNT_LOADS g.val) ∧ State.Frame [.regs] s t ∧
        State.OnlyRegs [rSLU_Gg_COUNT g.val] s t) ∧
      (s.biasHeld = true → Completes (.strobe p g) s fun t => t = s))) ∧
  (∀ (g : Fin 16) (s : State),
    (s.flag (fSLU_Gg_CFG_SRC_FEN g.val) = false → Completes (.sluLoad g) s fun t => State.Frame [.fen] s t) ∧
    (s.flag (fSLU_Gg_CFG_SRC_FEN g.val) = true → s.flag fSLU_STATUS_ENABLED = true → s.chLive (16 * g.val) = true →
      (s.mode ≠ modeSafe → s.biasHeld = false → Completes (.sluLoad g) s fun t => State.Transferred s t g.val) ∧
      (s.mode = modeSafe → Completes (.sluLoad g) s fun t =>
        t.fld (fSLU_Gg_COUNT_IGNORED g.val) = min (s.fld (fSLU_Gg_COUNT_IGNORED g.val) + 1) 65535 ∧
        State.Frame [.regs, .fen] s t ∧ State.OnlyRegs [rSLU_Gg_COUNT g.val] s t) ∧
      (s.biasHeld = true → Completes (.sluLoad g) s fun t => State.Frame [.fen] s t)))

/-- R362, R365, R367 to R371, R381, R384 (14_sluice_dipwell.md): enable, closing, slewing, range changes, zeroing and channel faults.
The instants of slew steps and of the stages of a sequence are those of the commands. -/
def Obligations.BiasChannelsSlewRangeAndFault : Prop :=
  (∀ (c : Fin 256) (s : State),
    (s.chState c = chClosing → s.mode ≠ modeSafe → s.biasHeld = false → Completes (.closingEnd c) s fun t =>
      t.chState c = chConnected ∧ State.Frame [.regs] s t ∧ State.OnlyRegs [rSLU_CHc_STATUS c] s t) ∧
    (s.chState c = chClosing → s.mode = modeSafe → Completes (.closingEnd c) s fun t =>
      t.chState c = chConnected ∧ t.chTarget c = 0 ∧ State.Frame [.regs] s t ∧
      State.OnlyRegs [rSLU_CHc_STATUS c, rSLU_CHc_TARGET c] s t) ∧
    (s.chState c = chConnected → s.chTarget c ≠ s.chOut c → Completes (.slewStep c) s fun t =>
      (t.chOut c = s.chOut c + (s.chTarget c - s.chOut c).sign *
        (min (s.fld (fSLU_CHc_SLEW_STEP c)) (s.chTarget c - s.chOut c).natAbs : Nat)) ∧
      State.Frame [.regs, .slu] s t ∧ State.OnlyRegs [rSLU_CHc_OUT c] s t) ∧
    ((s.chState c ≠ chConnected ∨ s.chTarget c = s.chOut c) → Completes (.slewStep c) s fun t => t = s) ∧
    (s.chState c = chZeroing → Completes (.zeroingStep c) s fun t =>
      ((s.chOut c).natAbs ≤ s.fld (fSLU_CHc_CFG_FAULT_STEP c) → t.chOut c = 0 ∧
        t.chState c = (if (s.sluCh c).toOpen then chOpen else if (s.sluCh c).toFault then chFaulted else chConnected)) ∧
      (s.fld (fSLU_CHc_CFG_FAULT_STEP c) < (s.chOut c).natAbs → t.chState c = chZeroing ∧
        t.chOut c = s.chOut c - (s.chOut c).sign * s.fld (fSLU_CHc_CFG_FAULT_STEP c)) ∧
      t.chTarget c = s.chTarget c ∧ State.Frame [.regs, .slu] s t ∧
      State.OnlyRegs [rSLU_CHc_OUT c, rSLU_CHc_STATUS c] s t) ∧
    (s.chState c = chRanging → Completes (.rangingStep c) s fun t =>
      ((s.sluCh c).stage = 0 → t.fld (fSLU_CHc_CFG_RANGE c) = (s.sluCh c).newRange % 4 ∧ (t.sluCh c).stage = 1 ∧
        t.chState c = chRanging) ∧
      ((s.sluCh c).stage = 1 → (t.sluCh c).stage = 2 ∧ t.chState c = chRanging ∧ t.regs = s.regs) ∧
      (1 < (s.sluCh c).stage → t.chState c = chConnected) ∧
      t.chOut c = s.chOut c ∧ t.chTarget c = s.chTarget c ∧ State.Frame [.regs, .slu] s t)) ∧
  (∀ (p : Path) (c : Fin 256) (new : Fin 4) (s : State), s.mayWrite p (rSLU_CHc_RANGE c) = true →
    (s.chState c = chOpen → Completes (.rangeRequest p c new) s fun t =>
      t.fld (fSLU_CHc_CFG_RANGE c) = new ∧ t.chState c = chOpen ∧ t.flag (fSLU_CHc_STATUS_REFUSED c) = false) ∧
    (s.chState c = chConnected → s.chOut c = 0 → s.chTarget c = 0 → Completes (.rangeRequest p c new) s fun t =>
      t.chState c = chRanging ∧ (t.sluCh c).stage = 0 ∧ (t.sluCh c).newRange = new ∧
      t.fld (fSLU_CHc_CFG_RANGE c) = s.fld (fSLU_CHc_CFG_RANGE c) ∧ t.flag (fSLU_CHc_STATUS_REFUSED c) = false) ∧
    (s.chState c ≠ chOpen → ¬ (s.chState c = chConnected ∧ s.chOut c = 0 ∧ s.chTarget c = 0) →
      Completes (.rangeRequest p c new) s fun t => t.flag (fSLU_CHc_STATUS_REFUSED c) = true ∧
        t.fld (fSLU_CHc_STATUS_REASON c) = 0xE0 ∧ t.chState c = s.chState c ∧ State.Frame [.regs] s t ∧
        State.OnlyRegs [rSLU_CHc_STATUS c] s t)) ∧
  (∀ (p : Path) (s : State), s.mayWrite p rSLU_CTRL = true →
    (s.flag fSLU_STATUS_ENABLED = false → s.sluCheck = [] → Completes (.sluEnable p) s fun t =>
      t.flag fSLU_CTRL_ENABLE = true ∧ t.flag fSLU_STATUS_ENABLED = true ∧ t.flag fSLU_STATUS_REFUSED = false ∧
      ∀ c < 256, (t.sluCh c).on = ((s.sluCh c).on || s.flag (fSLU_CHc_CFG_EN c)) ∧ t.chState c = s.chState c) ∧
    (s.flag fSLU_STATUS_ENABLED = false → s.modeOpen = false →
      (∀ c < 256, s.flag (fSLU_CHc_CFG_EN c) = true → s.poolPresent (c / 16) = true) → Completes (.sluEnable p) s fun t =>
        t.flag fSLU_STATUS_ENABLED = false ∧ t.flag fSLU_STATUS_REFUSED = true ∧ t.fld fSLU_STATUS_REASON = 0x02) ∧
    Completes (.sluDisable p) s (fun t => t.flag fSLU_CTRL_ENABLE = false ∧ t.flag fSLU_STATUS_ENABLED = false ∧
      (∀ c < 256, (t.sluCh c).on = false ∧ (s.chState c = chOpen → t.chState c = chOpen) ∧
        (s.chState c ∉ [chOpen, chZeroing] → State.ZeroEntered s t c chOpen)) ∧ State.Frame [.regs, .slu] s t) ∧
    Completes (.sluClrCount p) s (fun t => (∀ c < 256, t.reg (rSLU_CHc_COUNT c) = 0) ∧
      (∀ g < 16, t.reg (rSLU_Gg_COUNT g) = 0) ∧ State.Frame [.regs] s t ∧
      ∀ off, (∀ c < 256, off ≠ rSLU_CHc_COUNT c) → (∀ g < 16, off ≠ rSLU_Gg_COUNT g) → t.reg off = s.reg off)) ∧
  (∀ (p : Path) (c : Fin 256) (v : Word) (s : State), s.mayWrite p (rSLU_CHc_CFG c) = true →
    (s.flag fSLU_STATUS_ENABLED = false → (s.sluCh c).on = false → Completes (.sluChannelEnable p c v) s fun t =>
      t.flag (fSLU_CHc_CFG_EN c) = true ∧ t.fld (fSLU_CHc_CFG_FAULT_STEP c) = fieldOf v 31 16 ∧
      State.Frame [.regs] s t ∧ State.OnlyRegs [rSLU_CHc_CFG c] s t) ∧
    (s.flag fSLU_STATUS_ENABLED = true → (s.sluCh c).on = false → s.poolPresent (c / 16) = true → s.locked 8 = true →
      s.flag fDPW_STATUS_ENABLED = true → 0 < s.fld (fSLU_CHc_SLEW_STEP c) → 0 < s.fld (fSLU_CHc_SLEW_RATE c) →
      (fieldOf v 31 16 ≠ 0 → Completes (.sluChannelEnable p c v) s fun t => (t.sluCh c).on = true ∧
        t.flag (fSLU_CHc_CFG_EN c) = true ∧ t.flag fSLU_STATUS_REFUSED = false ∧ t.fld fSLU_STATUS_ITEM = c ∧
        t.chState c = s.chState c) ∧
      (fieldOf v 31 16 = 0 → Completes (.sluChannelEnable p c v) s fun t => (t.sluCh c).on = false ∧
        t.flag fSLU_STATUS_REFUSED = true ∧ t.fld fSLU_STATUS_REASON = 0xE1 ∧ t.fld fSLU_STATUS_ITEM = c)) ∧
    ((s.sluCh c).on = true → Completes (.sluChannelDisable p c v) s fun t =>
      t.flag (fSLU_CHc_CFG_EN c) = false ∧ (t.sluCh c).on = false ∧ (s.chState c = chOpen → t.chState c = chOpen) ∧
      (s.chState c ∉ [chOpen, chZeroing] → State.ZeroEntered s t c chOpen) ∧ State.Frame [.regs, .slu] s t ∧
      State.OnlyRegs [rSLU_CHc_CFG c, rSLU_CHc_STATUS c, rSLU_CHc_OUT c, rSLU_CHc_TARGET c] s t)) ∧
  (∀ (p : Path) (c : Fin 256) (s : State), s.mayWrite p (rSLU_CHc_STATUS c) = true →
    Completes (.channelFaultClear p c) s fun t => t.flag (fSLU_CHc_STATUS_FAULT c) = false ∧
      (t.sluCh c).toFault = false ∧ t.chState c = (if s.chState c = chFaulted then chConnected else s.chState c) ∧
      State.Frame [.regs, .slu] s t ∧ State.OnlyRegs [rSLU_CHc_STATUS c] s t) ∧
  (∀ (c : Fin 256) (s : State), s.chLive c = true → 2 ≤ s.fld (fSLU_CHc_CFG_RANGE c) →
    s.chState c ∉ [chOpen, chRanging, chZeroing] → (s.sluCh c).toOpen = false → Completes (.complianceFault c) s fun t =>
      t.faultLog = s.faultLog ++ [0x0C02] ∧ t.flag (fSLU_CHc_STATUS_FAULT c) = true ∧
      t.flag (fSLU_CHc_STATUS_COMPLIANCE c) = true ∧
      t.fld (fSLU_CHc_COUNT_FAULTS c) = min (s.fld (fSLU_CHc_COUNT_FAULTS c) + 1) 255 ∧
      State.ZeroEntered s t c chFaulted ∧ t.fen.presented = s.fen.presented ++ [0x36C + c.val / 64] ∧
      (s.pdOn 3 = true → s.icVector (48 + c / 64) < 256 → t.icPending (48 + c / 64) = true) ∧
      (∀ d < 256, d / 16 = c / 16 → d ≠ c →
        (s.flag (fSLU_Gg_CFG_FAULT_SCOPE (c / 16)) = true → s.chState d ∈ [chConnected, chClosing] →
          (s.sluCh d).toOpen = false → (s.sluCh d).toFault = false → State.ZeroEntered s t d chConnected) ∧
        (s.flag (fSLU_Gg_CFG_FAULT_SCOPE (c / 16)) = false → t.chState d = s.chState d ∧ t.chOut d = s.chOut d))) ∧
  (∀ (a : Fin 4) (s : State), (∀ g < 16, g / 4 = a → s.flag (fSLU_Gg_CFG_FAULT_SCOPE g) = false) →
    Completes (.referenceFault a) s fun t => t.flag (fSLU_AGRPa_STATUS_REF_OK a) = false ∧
      t.faultLog = s.faultLog ++ List.replicate
        ((List.range 64).countP (fun j => s.chLive (64 * a + j) && s.chState (64 * a + j) != chOpen)) 0x0C03 ∧
      ∀ c < 256, (c / 64 ≠ a ∨ s.chState c = chOpen → t.chState c = s.chState c ∧ t.chOut c = s.chOut c) ∧
        (c / 64 = a → s.chLive c = true → s.chState c ∉ [chOpen, chZeroing] → (s.sluCh c).toOpen = false →
          t.flag (fSLU_CHc_STATUS_FAULT c) = true ∧ State.ZeroEntered s t c chFaulted))

/-! ### Dipwell -/

/-- R373, R375 to R378, R380, R382, R386 (14_sluice_dipwell.md): in a slot a converter converts its first due item and adds the
reading to the input's accumulators. Stated for slots in which one converter has an item; k is its number. -/
def Obligations.ConversionSlotsRunTheDueItem : Prop :=
  ∀ (d0 d1 : BitVec 16) (s : State),
    (∀ (k i : Nat), i < 320 → s.slotOf k (.injected i) → Completes (.conversionSlot d0 d1) s fun t =>
      State.Converted s t i (if k = 0 then d0 else d1) ∧ t.conv k = { s.conv k with inj := none } ∧
      t.flag (fDPW_Cc_INJ_PENDING k) = false ∧ t.conv (1 - k) = s.conv (1 - k) ∧ t.dpw.slots = s.dpw.slots + 1 ∧
      State.Frame [.regs, .dpw] s t ∧ State.OnlyRegs (rDPW_Cc_INJ k :: accOffsets i) s t) ∧
    (∀ (k i m : Nat), i < 320 → s.slotOf k (.delayed i) → (s.conv k).dly = some m →
      Completes (.conversionSlot d0 d1) s fun t => State.Converted s t i (if k = 0 then d0 else d1) ∧
        (1 < m → t.conv k = { s.conv k with dly := some (m - 1) } ∧ t.fen = s.fen) ∧
        (m ≤ 1 → t.conv k = { s.conv k with dly := none, dlyDue := false } ∧
          t.fen.presented = s.fen.presented ++ [0x368 + k]) ∧
        State.Frame [.regs, .dpw, .fen] s t ∧ State.OnlyRegs (accOffsets i) s t) ∧
    (∀ (k c v : Nat) (e : Int), s.slotOf k (.supervision c) →
      ((s.sluCh c).past = [] ∧ s.chOut c = e ∨ ∃ slot rest, (s.sluCh c).past = (slot, e) :: rest ∧
        slot + 2 * s.fld fSLU_SUP_CFG_SUP_LAG ≤ s.dpw.slots + 1) →
      v = ((if k = 0 then d0 else d1).toInt - e / 4).natAbs →
      (v ≤ s.fld fSLU_SUP_CFG_SUP_TOL → Completes (.conversionSlot d0 d1) s fun t =>
        State.Converted s t c (if k = 0 then d0 else d1) ∧ (t.sluCh c).misses = 0 ∧
        t.conv k = { s.conv k with credit := (s.conv k).credit - 1, sup := some c } ∧
        State.Frame [.regs, .dpw, .slu] s t ∧ State.OnlyRegs (accOffsets c) s t) ∧
      (s.fld fSLU_SUP_CFG_SUP_TOL < v → (s.sluCh c).misses + 1 < max 1 (s.fld fSLU_SUP_CFG_SUP_CONSEC) →
        Completes (.conversionSlot d0 d1) s fun t => (t.sluCh c).misses = (s.sluCh c).misses + 1 ∧
          t.fld (fSLU_CHc_COUNT_MISMATCH c) = min (s.fld (fSLU_CHc_COUNT_MISMATCH c) + 1) 255 ∧
          t.chState c = s.chState c ∧ State.Frame [.regs, .dpw, .slu] s t ∧
          State.OnlyRegs (rSLU_CHc_COUNT c :: accOffsets c) s t) ∧
      (s.fld fSLU_SUP_CFG_SUP_TOL < v → max 1 (s.fld fSLU_SUP_CFG_SUP_CONSEC) ≤ (s.sluCh c).misses + 1 →
        s.flag (fSLU_Gg_CFG_FAULT_SCOPE (c / 16)) = false → (s.sluCh c).toOpen = false →
        Completes (.conversionSlot d0 d1) s fun t => t.faultLog = s.faultLog ++ [0x0C01] ∧
          t.fld (fSLU_CHc_COUNT_MISMATCH c) = min (s.fld (fSLU_CHc_COUNT_MISMATCH c) + 1) 255 ∧
          t.fld (fSLU_CHc_COUNT_FAULTS c) = min (s.fld (fSLU_CHc_COUNT_FAULTS c) + 1) 255 ∧
          t.flag (fSLU_CHc_STATUS_FAULT c) = true ∧ State.ZeroEntered s t c chFaulted ∧
          t.fen.presented = s.fen.presented ++ [0x36C + c / 64])) ∧
    (∀ (k e r : Nat), s.fld (fDPW_Cc_SCAN_e_INPUT k e) < 320 → s.slotOf k (.scan e r) →
      Completes (.conversionSlot d0 d1) s fun t =>
        State.Converted s t (s.fld (fDPW_Cc_SCAN_e_INPUT k e)) (if k = 0 then d0 else d1) ∧
        (let next : Option (Nat × Nat) := if r < s.fld (fDPW_Cc_SCAN_e_REP k e) then some (e, r + 1)
          else if e + 1 < s.fld (fDPW_Cc_SCAN_CFG_NENT k) then some (e + 1, 0) else none
        t.conv k = { s.conv k with scan := next }) ∧
        State.Frame [.regs, .dpw] s t ∧ State.OnlyRegs (accOffsets (s.fld (fDPW_Cc_SCAN_e_INPUT k e))) s t) ∧
    (s.slotOf 0 .none → Completes (.conversionSlot d0 d1) s fun t =>
      t = { s with dpw := { s.dpw with slots := s.dpw.slots + 1 } }) ∧
    (s.pdOn 9 = true → s.dpwRuns = true → (s.dpw.slots + 1) % 4 = 0 → s.dpw.xchk = false →
      (∀ c < 256, s.supervised c = false) → (∀ k < 2, (s.conv k).inj = none) → Completes (.conversionSlot d0 d1) s fun t =>
        ∀ k < 2, (t.conv k).credit = min 4 ((s.conv k).credit + 1)) ∧
    (s.pdOn 9 = true → s.dpwRuns = true → (s.dpw.slots + 1) % 4 ≠ 0 → s.dpw.xchk = true → s.xchkFree = true →
      let far (a b : Int) : Prop := (s.fld fDPW_XCHK_CFG_XCHK_TOL : Int) < (a - b).natAbs
      let ref (a b : Int) : Prop := far a b ∨ far a (s.fldS fDPW_XCHK_REF_CODE) ∨ far b (s.fldS fDPW_XCHK_REF_CODE)
      let verdict (fails : Prop) (t : State) : Prop := t.dpw.xchk = false ∧ t.dpw.xref = none ∧
        (¬ fails → t.flag fDPW_STATUS_IMPLAUSIBLE = false ∧ t.faultLog = s.faultLog ∧
          ∀ k < 2, t.reg (rDPW_Cc_COUNT k) = s.reg (rDPW_Cc_COUNT k)) ∧
        (fails → t.flag fDPW_STATUS_IMPLAUSIBLE = true ∧ t.faultLog = s.faultLog ++ [0x0D01] ∧
          ∀ k < 2, t.fld (fDPW_Cc_COUNT_XCHK_FAIL k) = min (s.fld (fDPW_Cc_COUNT_XCHK_FAIL k) + 1) 255)
      (s.dpw.xref = none → (∃ c < 256, s.supervised c = true) → Completes (.conversionSlot d0 d1) s fun t =>
        t = { s with dpw := { s.dpw with slots := s.dpw.slots + 1, xref := some (d0.toInt, d1.toInt) } }) ∧
      (s.dpw.xref = none → (∀ c < 256, s.supervised c = false) → Completes (.conversionSlot d0 d1) s fun t =>
        verdict (ref d0.toInt d1.toInt) t) ∧
      (∀ a b c, s.dpw.xref = some (a, b) → nextChannel s.dpw.xlast s.supervised = some c →
        Completes (.conversionSlot d0 d1) s fun t => t.dpw.xlast = some c ∧
          verdict (ref a b ∨ far d0.toInt d1.toInt) t))

/-- R374, R376 to R379, R382, R385 (14_sluice_dipwell.md): the enable check; scan, delayed, injected and cross-check triggers with
their drop counters; calibration; and the read and clear of the accumulators. -/
def Obligations.DipwellTriggersAndAccumulatorReads : Prop :=
  (∀ (p : Path) (s : State), s.mayWrite p rDPW_CTRL = true →
    (s.flag fDPW_STATUS_ENABLED = false → s.dpwCheck = [] → Completes (.dpwEnable p) s fun t =>
      t.flag fDPW_CTRL_ENABLE = true ∧ t.flag fDPW_STATUS_ENABLED = true ∧ t.flag fDPW_STATUS_REFUSED = false ∧
      t.dpw = s.dpw) ∧
    (s.flag fDPW_STATUS_ENABLED = false → s.modeOpen = false → (∀ i, s.inputAbsent i = false) →
      Completes (.dpwEnable p) s fun t => t.flag fDPW_STATUS_ENABLED = false ∧ t.flag fDPW_STATUS_REFUSED = true ∧
        t.fld fDPW_STATUS_REASON = 0x02) ∧
    Completes (.dpwClrCount p) s (fun t => (∀ k < 2, t.reg (rDPW_Cc_COUNT k) = 0) ∧ State.Frame [.regs] s t ∧
      State.OnlyRegs [rDPW_Cc_COUNT 0, rDPW_Cc_COUNT 1] s t)) ∧
  (∀ (c : Fin 2) (s : State),
    (s.flag fDPW_STATUS_ENABLED = true → s.fld (fDPW_Cc_SCAN_CFG_TRIG c) ≠ 0 →
      ((s.conv c).cal = false → (s.conv c).scan = none → Completes (.scanTrigger c) s fun t =>
        t.conv c = { s.conv c with scan := some (0, 0) } ∧ State.Frame [.dpw] s t) ∧
      ((s.conv c).cal = false → (s.conv c).scan ≠ none → Completes (.scanTrigger c) s fun t =>
        t.fld (fDPW_Cc_COUNT_OVERRUN c) = min (s.fld (fDPW_Cc_COUNT_OVERRUN c) + 1) 255 ∧
        t.faultLog = s.faultLog ++ [0x0D02] ∧ State.Frame [.regs, .faultLog] s t ∧
        State.OnlyRegs [rDPW_Cc_COUNT c] s t) ∧
      ((s.conv c).cal = true → Completes (.scanTrigger c) s fun t =>
        t.fld (fDPW_Cc_COUNT_OVERRUN c) = min (s.fld (fDPW_Cc_COUNT_OVERRUN c) + 1) 255 ∧ State.Frame [.regs] s t ∧
        State.OnlyRegs [rDPW_Cc_COUNT c] s t)) ∧
    (s.flag fDPW_STATUS_ENABLED = true → s.fld (fDPW_Cc_DLY_CFG_TRIG c) = 1 →
      ((s.conv c).cal = false → (s.conv c).dly = none → Completes (.dpwConv c) s fun t =>
        t.conv c = { s.conv c with dly := some (s.fld (fDPW_Cc_DLY_CFG_COUNT c) + 1), dlyDue := false } ∧
        State.Frame [.dpw, .fen] s t) ∧
      ((s.conv c).cal = true ∨ (s.conv c).dly ≠ none → Completes (.dpwConv c) s fun t =>
        t.fld (fDPW_Cc_COUNT_DLY_DROP c) = min (s.fld (fDPW_Cc_COUNT_DLY_DROP c) + 1) 255 ∧
        State.Frame [.regs, .fen] s t ∧ State.OnlyRegs [rDPW_Cc_COUNT c] s t)) ∧
    ((s.conv c).dly ≠ none → Completes (.delayedConversionStart c) s fun t =>
      t.conv c = { s.conv c with dlyDue := true } ∧ State.Frame [.dpw] s t) ∧
    ((s.conv c).cal = true → (s.conv c).inj = none → Completes (.dpwCalDone c) s fun t =>
      t.conv c = { s.conv c with cal := false } ∧ t.flag (fDPW_Cc_CAL_DONE c) = true ∧ State.Frame [.dpw, .regs] s t ∧
      State.OnlyRegs [rDPW_Cc_CAL c] s t) ∧
    ((s.conv c).inj ≠ none → Completes (.dpwCalDone c) s fun t => t = s)) ∧
  (∀ (p : Path) (c : Fin 2) (input : BitVec 9) (s : State), s.mayWrite p (rDPW_Cc_INJ c) = true →
    ((s.conv c).inj = none → (s.conv c).cal = false → s.inputOff input.toNat = false →
      Completes (.injectedConversion p c input) s fun t => t.conv c = { s.conv c with inj := some input.toNat } ∧
        t.flag (fDPW_Cc_INJ_PENDING c) = true ∧ State.Frame [.dpw, .regs] s t ∧ State.OnlyRegs [rDPW_Cc_INJ c] s t) ∧
    ((s.conv c).inj ≠ none ∨ (s.conv c).cal = true ∨ s.inputOff input.toNat = true →
      Completes (.injectedConversion p c input) s fun t =>
        t.fld (fDPW_Cc_COUNT_INJ_DROP c) = min (s.fld (fDPW_Cc_COUNT_INJ_DROP c) + 1) 255 ∧ State.Frame [.regs] s t ∧
        State.OnlyRegs [rDPW_Cc_COUNT c] s t)) ∧
  (∀ (p : Path) (c : Fin 2) (s : State), s.mayWrite p (rDPW_Cc_CAL c) = true →
    let granted : Prop := s.mode ∈ [modeConfig, modeCalibrate, modeReady, modeRun, modeDiag] ∧
      (s.conv 0).cal = false ∧ (s.conv 1).cal = false
    (granted → Completes (.dpwCalStart p c) s fun t => (t.conv c).cal = true ∧
      t.flag (fDPW_Cc_CAL_REFUSED c) = false ∧ t.flag (fDPW_Cc_CAL_DONE c) = false ∧ State.Frame [.dpw, .regs] s t ∧
      State.OnlyRegs [rDPW_Cc_CAL c] s t) ∧
    (¬ granted → Completes (.dpwCalStart p c) s fun t => t.dpw = s.dpw ∧ t.flag (fDPW_Cc_CAL_REFUSED c) = true ∧
      t.fld (fDPW_Cc_CAL_REASON c) = 0x02 ∧ State.Frame [.regs] s t ∧ State.OnlyRegs [rDPW_Cc_CAL c] s t)) ∧
  (∀ (s : State), s.dpwRuns = true →
    Completes .xchkDue s fun t => t = { s with dpw := { s.dpw with xchk := true } }) ∧
  (∀ (p : Path) (i : Fin 320) (s : State), s.mayWrite p (rDPW_ACC_i_CLR i) = true →
    Completes (.dpwAccClr p i) s fun t => (∀ off ∈ accOffsets i, t.reg off = 0) ∧ State.Frame [.regs] s t ∧
      State.OnlyRegs (accOffsets i) s t) ∧
  (∀ (p : Path) (i : Fin 320) (s : State), s.reachable (rDPW_ACC_i_SUM_L i) = true →
    s.snapCovers p (rDPW_ACC_i_SUM_L i) = false → Completes (.accSumRead p i) s fun t =>
      t.out = s.out ++ [.readData p (rDPW_ACC_i_SUM_L i) (s.reg (rDPW_ACC_i_SUM_L i))] ∧
      (t.busRead p (rDPW_ACC_i_SUM_H i)).2 = s.reg (rDPW_ACC_i_SUM_H i) ∧
      (t.busRead p (rDPW_ACC_i_COUNT i)).2 = s.reg (rDPW_ACC_i_COUNT i) ∧
      (t.busRead p (rDPW_ACC_i_MIN i)).2 = s.extreme i (rDPW_ACC_i_MIN i) ∧
      (t.busRead p (rDPW_ACC_i_MAX i)).2 = s.extreme i (rDPW_ACC_i_MAX i) ∧
      (s.flag (fDPW_ACC_i_CFG_CLR_ON_READ i) = true → ∀ off ∈ accOffsets i, t.reg off = 0) ∧
      (s.flag (fDPW_ACC_i_CFG_CLR_ON_READ i) = false → t.regs = s.regs) ∧
      State.Frame [.regs, .latches, .out] s t ∧ State.OnlyRegs (accOffsets i) s t)

/-! ### Boot and the control stores -/

/-- R390 to R395, R397 to R402 (15_boot_control_stores.md): a candidate image is accepted or rejected with its reason and the next
source follows; LOAD fills the control stores and changes OTP; REBOOT, RELOAD and AUTO_RELOAD; corrected and uncorrectable errors.
The verdicts of the cryptographic checks are operands. -/
def Obligations.ImagesLoadAndControlStoresAreRepaired : Prop :=
  (∀ (i : BootImage) (s : State), s.mode = modeBoot →
    (∀ r, s.imageFault i = some r → s.stage ∈ [stRomInit, stPrimary, stFallback, stPush] →
      Completes (.imageCheck i) s fun t => t.fld fSEC_STATUS_REASON = r ∧ t.faultLog = s.faultLog ++ [0x0E01] ∧
        t.mode = modeBoot ∧ t.sec.retained = s.sec.retained ∧
        (s.stage ∈ [stRomInit, stPrimary] → t.stage = stFallback) ∧
        (s.stage = stFallback → s.fld fSEC_LIFECYCLE_BOOT_SRC = 1 → t.stage = stFailed ∧ t.sec = s.sec) ∧
        (s.stage = stFallback → s.fld fSEC_LIFECYCLE_BOOT_SRC ≠ 1 → t.stage = stWaitPush ∧ t.sec.linkOn = true) ∧
        (s.stage = stPush → t.stage = stWaitPush) ∧ State.Frame [.regs, .sec, .faultLog] s t ∧
        State.OnlyRegs [rSEC_STATUS] s t) ∧
    (i.delivered = false → s.imageFault i = some 0xF7) ∧
    (i.delivered = true → i.header.length = 256 → imageLe i.header 0 4 ≠ 0x5EC0B007 → s.imageFault i = some 0xF0) ∧
    (s.imageFault i = none → i.delivered = true ∧ i.sigOk = true ∧ i.tagOk = true ∧
      imageLe i.header 0 4 = 0x5EC0B007 ∧ s.fld (fSEC_OTP_ARBk_COUNT 0) ≤ imageLe i.header 12 1 ∧
      bitOf (s.fld fSEC_KEY_STATUS_PROGRAMMED) (imageLe i.header 13 1) = true ∧
      bitOf (s.fld fSEC_KEY_STATUS_REVOKED) (imageLe i.header 13 1) = false ∧
      SMap.get (fun _ => 0) s.sec.hashes (imageLe i.header 13 1) = i.digest.toNat ∧ plainValid i.plain = true) ∧
    (s.imageFault i = none → s.stage ∈ [stRomInit, stPrimary, stFallback, stPush] → s.pdWanted modeLoad ≠ [] →
      Completes (.imageCheck i) s fun t => t.stage = stLoad ∧ t.flag fPM_STATUS_TRANSITION = true ∧
        t.pm.target = some modeLoad ∧ t.pm.todo = s.pdWanted modeLoad ∧ t.sec.retained = i.plain ∧
        t.fld fSEC_IMAGE_SVN = imageLe i.header 12 1 ∧ t.fld fSEC_IMAGE_KEY_SLOT = imageLe i.header 13 1 ∧
        t.fld fSEC_IMAGE_SRC = (if s.stage = stPush then 2 else if s.stage = stFallback then 1 else 0) ∧
        (∀ x, sectionAt i.plain 2 0 = some x → t.sec.secPatch = x.bytes i.plain) ∧
        (sectionAt i.plain 2 0 = none → t.sec.secPatch = [] ∧ t.fld fSEC_CS_VERSION_PATCH_SVN = 0 ∧
          t.fld fSEC_CS_VERSION_PATCH_ID = 0) ∧
        State.Frame [.regs, .sec, .pm] s t ∧
        State.OnlyRegs [rSEC_STATUS, rSEC_IMAGE, rSEC_CS_VERSION, rPM_CS_VERSION, rPM_STATUS] s t)) ∧
  (∀ (p : Path) (s : State), s.mayWrite p rSEC_CTRL = true →
    (s.mode = modeBoot → s.stage = stWaitPush → Completes (.push p) s fun t => t.stage = stPush ∧
      State.Frame [.regs] s t ∧ State.OnlyRegs [rSEC_STATUS] s t) ∧
    (s.mode ≠ modeBoot ∨ s.stage ≠ stWaitPush → Completes (.push p) s fun t => t = s) ∧
    (s.mode ∉ [modeConfig, modeReady, modeSafe, modeDiag] → Completes (.reboot p) s fun t =>
      t.flag fSEC_STATUS_REFUSED = true ∧ t.fld fSEC_STATUS_REASON = 0x02 ∧ State.Frame [.regs] s t ∧
      t.mode = s.mode) ∧
    (s.mode ∈ [modeConfig, modeReady, modeSafe] → s.calm → Completes (.reboot p) s fun t =>
      t.mode = modeBoot ∧ t.stage = (if s.fld fSEC_LIFECYCLE_BOOT_SRC = 2 then stWaitPush else stPrimary) ∧
      (∀ u ≤ 10, t.flag (fSEC_CSu_STATUS_LOADED u) = false ∧ t.flag (fSEC_CSu_STATUS_RETAINED_BAD u) = false) ∧
      t.sec.retained = [] ∧ t.fld fPM_PD_STATUS_ON = s.fld fPM_PD_STATUS_ON ∧
      t.fld fPM_CAL_STATUS_POOL_CAL = s.fld fPM_CAL_STATUS_POOL_CAL ∧ t.slu = s.slu ∧ t.dpw = s.dpw ∧
      t.peat = s.peat ∧ t.dmem = s.dmem ∧ t.imem = s.imem ∧ t.weights = s.weights)) ∧
  (∀ (s : State), s.mode = modeLoad → s.flag fPM_STATUS_TRANSITION = false → s.stage = stLoad →
    s.pdWanted modeConfig = [] → s.anyCause = false → s.calm → Completes .loadComplete s fun t =>
      t.mode = modeConfig ∧ t.stage = stDone ∧
      (∀ u ≤ 10, s.csPresent u = true →
        (∀ x, sectionAt s.sec.retained 1 u = some x → s.csPowered u = true →
          t.flag (fSEC_CSu_STATUS_LOADED u) = true ∧ t.regN (rSEC_CSu_VERSION u) = x.version ∧
          SMap.get (fun _ => []) t.sec.stores u = x.bytes s.sec.retained) ∧
        (sectionAt s.sec.retained 1 u = none →
          t.flag (fSEC_CSu_STATUS_LOADED u) = false ∧ t.reg (rSEC_CSu_VERSION u) = 0)) ∧
      (∀ a b c, s.sec.arb = some (a, b, c) → a ≤ 64 → b ≤ 64 → c ≤ 64 →
        t.fld (fSEC_OTP_ARBk_COUNT 0) = max a (s.fld (fSEC_OTP_ARBk_COUNT 0)) ∧
        t.fld (fSEC_OTP_ARBk_COUNT 1) = max b (s.fld (fSEC_OTP_ARBk_COUNT 1)) ∧
        t.fld (fSEC_OTP_ARBk_COUNT 2) = max c (s.fld (fSEC_OTP_ARBk_COUNT 2))) ∧
      (s.sec.arb = none → ∀ k < 3, t.fld (fSEC_OTP_ARBk_COUNT k) = s.fld (fSEC_OTP_ARBk_COUNT k)) ∧
      (∀ x, sectionAt s.sec.retained 5 0 = some x → ∀ j < 4, bitOf (imageLe (x.bytes s.sec.retained) 1 1) j = true →
        (j ≠ s.fld fSEC_IMAGE_KEY_SLOT → bitOf (t.fld fSEC_KEY_STATUS_REVOKED) j = true) ∧
        (j = s.fld fSEC_IMAGE_KEY_SLOT → bitOf (t.fld fSEC_KEY_STATUS_REVOKED) j =
          bitOf (s.fld fSEC_KEY_STATUS_REVOKED) j ∧ t.flag fSEC_OTP_STATUS_IGNORED = true))) ∧
  (∀ (p : Path) (u : Fin 11) (s : State), s.mayWrite p (rSEC_CSu_CTRL u.val) = true → s.csPresent u = true →
    (s.flag (fSEC_CSu_STATUS_RELOADING u) = true → Completes (.reload p u) s fun t => t = s) ∧
    (s.flag (fSEC_CSu_STATUS_RELOADING u) = false → s.flag (fSEC_CSu_STATUS_RETAINED_BAD u) = true →
      Completes (.reload p u) s fun t => t.flag fSEC_STATUS_REFUSED = true ∧ t.fld fSEC_STATUS_REASON = 0x0A ∧
        State.Frame [.regs] s t ∧ t.reg (rSEC_CSu_STATUS u) = s.reg (rSEC_CSu_STATUS u)) ∧
    (s.flag (fSEC_CSu_STATUS_RELOADING u) = false → s.flag (fSEC_CSu_STATUS_RETAINED_BAD u) = false → s.calm →
      Completes (.reload p u) s fun t => t.flag fSEC_STATUS_REFUSED = false ∧
        ∀ v ≤ 10, s.csPresent v = true → (v = u.val ∨ (1 ≤ v ∧ v ≤ 8 ∧ 1 ≤ u.val ∧ u.val ≤ 8)) →
          t.flag (fSEC_CSu_STATUS_RELOADING v) = true)) ∧
  (∀ (u : Fin 11) (s : State),
    (s.flag (fSEC_CSu_STATUS_RELOADING u) = false → Completes (.reloadDone u) s fun t => t = s) ∧
    (∀ x, s.flag (fSEC_CSu_STATUS_RELOADING u) = true → sectionAt s.sec.retained 1 u = some x → s.csPowered u = true →
      Completes (.reloadDone u) s fun t => t.flag (fSEC_CSu_STATUS_RELOADING u) = false ∧
        t.flag (fSEC_CSu_STATUS_HALTED u) = false ∧ t.flag (fSEC_CSu_STATUS_LOADED u) = true ∧
        t.regN (rSEC_CSu_VERSION u) = x.version ∧
        SMap.get (fun _ => []) t.sec.stores u = x.bytes s.sec.retained ∧
        (1 ≤ u.val → u.val ≤ 8 → t.flag (fCW_Pp_CTRL_ENABLE (u.val - 1)) = false) ∧
        (u.val = 10 → t.flag fDPW_STATUS_ENABLED = false)) ∧
    (s.csRuns u = true → Completes (.csSingleBitError u) s fun t =>
      t.fld (fSEC_CSu_COUNT_SBE u) = min (s.fld (fSEC_CSu_COUNT_SBE u) + 1) 65535 ∧
      t.faultLog = s.faultLog ++ [0x0E02] ∧ t.sec = s.sec ∧ State.OnlyRegsIc [rSEC_CSu_COUNT u] s t) ∧
    (s.csRuns u = true → s.calm → s.flag fSEC_CTRL_AUTO_RELOAD = false → Completes (.csDoubleBitError u) s fun t =>
      t.flag (fSEC_CSu_STATUS_HALTED u) = true ∧ t.flag (fSEC_CSu_STATUS_RELOADING u) = false ∧
      t.fld (fSEC_CSu_COUNT_DBE u) = min (s.fld (fSEC_CSu_COUNT_DBE u) + 1) 255 ∧ State.Raises s t 0x0E03 ∧
      (u.val = 9 → t.fld fSDG_STATUS_STATE = sdgHalted) ∧ (u.val = 10 → t.dpwRuns = false ∧ t.slu = s.slu)) ∧
    (s.csRuns u = true → s.calm → s.flag fSEC_CTRL_AUTO_RELOAD = true → s.flag (fSEC_CSu_STATUS_RETAINED_BAD u) = false →
      Completes (.csDoubleBitError u) s fun t => t.flag (fSEC_CSu_STATUS_HALTED u) = true ∧
        t.flag (fSEC_CSu_STATUS_RELOADING u) = true ∧ State.Raises s t 0x0E03) ∧
    (s.csRuns u = false → Completes (.csDoubleBitError u) s fun t => t = s) ∧
    Completes (.retainedStoreError u) s (fun t => t.flag (fSEC_CSu_STATUS_RETAINED_BAD u) = true ∧
      t.faultLog = s.faultLog ++ [0x0E04] ∧ State.Frame [.regs, .faultLog] s t ∧
      State.OnlyRegs [rSEC_CSu_STATUS u] s t) ∧
    (∀ w, s.csRuns u = true → Completes (.scrub [⟨u, w, false⟩]) s fun t =>
      t.sec.scrubbed = [(u.val, w)] ∧ t.fld (fSEC_CSu_COUNT_SBE u) = min (s.fld (fSEC_CSu_COUNT_SBE u) + 1) 65535 ∧
      t.faultLog = s.faultLog ++ [0x0E02] ∧
      t.flag (fSEC_CSu_STATUS_STUCK u) = (s.flag (fSEC_CSu_STATUS_STUCK u) || s.sec.scrubbed.contains (u.val, w)))) ∧
  (∀ (s : State), Completes (.scrub []) s fun t => t = { s with sec := { s.sec with scrubbed := [] } }) ∧
  (∀ (pm : Bool) (s : State),
    (s.sec.retained ≠ [] → Completes (.patchRamError pm) s fun t => t.faultLog = s.faultLog ++ [0x0E05] ∧
      State.Frame [.faultLog] s t) ∧
    (s.sec.retained = [] → Completes (.patchRamError pm) s fun t => t.faultLog = s.faultLog ++ [0x0E05] ∧
      (pm = true → t.sec.pmPatch = [] ∧ t.fld fPM_CS_VERSION_PATCH_SVN = 0 ∧ t.fld fPM_CS_VERSION_PATCH_ID = 0) ∧
      (pm = false → t.sec.secPatch = [] ∧ t.fld fSEC_CS_VERSION_PATCH_SVN = 0 ∧ t.fld fSEC_CS_VERSION_PATCH_ID = 0)))

/-! ### Modes, power and resets -/

/-- R319, R409 to R420 (12_host_rings.md, 16_modes_power_clocks.md): mode requests with their refusals, CALIBRATE's end, power domains
coming on in order or failing, KEEP_OFF, wake sources and the end of sleep. Stated from modes in which no timed output plays. -/
def Obligations.ModesPowerDomainsAndWake : Prop :=
  (∀ (p : Path) (m : Fin 16) (s : State), s.mayWrite p rPM_CTRL = true →
    (∀ r, s.requestRefusal m = some r → Completes (.modeRequest p m) s fun t => t.flag fPM_STATUS_REFUSED = true ∧
      t.fld fPM_STATUS_REASON = r ∧ t.mode = s.mode ∧ State.Frame [.regs, .pm] s t) ∧
    (s.flag fPM_STATUS_TRANSITION = true → s.requestRefusal m = some 0xFE) ∧
    (s.flag fPM_STATUS_TRANSITION = false → s.runActive = true → m.val ≠ modeDrain → m.val ≠ modeSafe →
      s.requestRefusal m = some 0xFC) ∧
    (s.flag fPM_STATUS_TRANSITION = false → s.runActive = false →
      (s.mode = modeConfig → m.val ∉ [modeCalibrate, modeReady, modeDiag, modeSafe, modeBiasHold, modeDeepSleep] →
        s.requestRefusal m = some 0xF8) ∧
      (s.mode = modeConfig → m.val = modeCalibrate → s.flag fTM_STATUS_REF_LOCK = false →
        s.requestRefusal m = some 0x03) ∧
      (s.mode = modeConfig → m.val = modeReady → (∃ n < 16, s.poolPowered n = true ∧ s.poolCalibrated n = false) →
        s.requestRefusal m = some 0xF9) ∧
      (s.mode = modeConfig → m.val = modeDeepSleep → s.wakeEnabled 0 = false → s.wakeEnabled 1 = false →
        s.wakeEnabled 2 = false → s.requestRefusal m = some 0xFA) ∧
      (s.mode = modeSafe → m.val = modeConfig → s.anyCause = true → s.requestRefusal m = some 0xFB)) ∧
    (s.requestRefusal m = none → m.val ∈ [modeConfig, modeCalibrate, modeReady, modeDiag] →
      s.mode ∈ [modeConfig, modeReady, modeSafe] → s.calm → Completes (.modeRequest p m) s fun t =>
        t.mode = m ∧ t.fld fPM_STATUS_PREV_MODE = s.mode ∧ t.flag fPM_STATUS_REFUSED = false ∧
        0x390 ∈ t.fen.presented) ∧
    (m.val = modeSafe → s.safeReady → Completes (.modeRequest p m) s fun t =>
      State.SafeEntered s t [fPM_SAFE_CAUSE_REQUEST] 0x0F05 ∧ t.flag fPM_STATUS_REFUSED = false) ∧
    (s.requestRefusal m = none → m.val ∈ [modeBiasHold, modeDeepSleep] → s.pm.tie = none → s.calm →
      Completes (.modeRequest p m) s fun t => t.mode = s.mode ∧ t.flag fPM_STATUS_TRANSITION = true ∧
        t.pm.target = some m.val ∧ t.pm.entering = true ∧ t.fld fPM_PD_STATUS_ON % 2 ^ 30 / 2 ^ 14 = 0 ∧
        (∀ d ∈ [4, 5, 6, 7, 8], t.pdOn d = false) ∧ (∀ d ∈ [1, 9, 10, 11, 12, 13], t.pdOn d = s.pdOn d) ∧
        (m.val = modeDeepSleep → ∀ c < 256, s.chState c = chConnected → State.ZeroEntered s t c chOpen))) ∧
  (∀ (s : State),
    (s.mode = modeCalibrate → s.calm → Completes .calibrationComplete s fun t => t.mode = modeReady ∧
      t.flag fPM_CAL_STATUS_DONE = true ∧ ∀ n < 16, s.poolPowered n = true → t.poolCalibrated n = true) ∧
    (s.mode ≠ modeCalibrate → Completes .calibrationComplete s fun t => t = s)) ∧
  (∀ (d : Fin 30) (s : State),
    (s.pm.todo.head? ≠ some d.val → (Completes (.powerGood d) s fun t => t = s) ∧
      Completes (.powerGoodTimeout d) s fun t => t = s) ∧
    (∀ e rest, s.pm.todo = d.val :: e :: rest →
      (Completes (.powerGood d) s fun t => t.pdOn d = true ∧ t.pdFailed d = false ∧ t.pm.todo = e :: rest ∧
        t.pm.target = s.pm.target ∧ t.mode = s.mode ∧ ∀ x < 30, x ≠ d.val → t.pdOn x = s.pdOn x) ∧
      Completes (.powerGoodTimeout d) s fun t => t.pdFailed d = true ∧ (pdSwitchable d = true → t.heldOff d = true) ∧
        t.fld fPM_PD_STATUS_ON = s.fld fPM_PD_STATUS_ON ∧ t.pm.todo = e :: rest ∧ t.mode = s.mode ∧
        t.faultLog = s.faultLog ++ [0x0F04]) ∧
    (s.pm.todo = [d.val] → s.pm.target = some modeLoad → s.mode = modeBoot → s.calm →
      Completes (.powerGood d) s fun t => t.pdOn d = true ∧ t.mode = modeLoad ∧ t.stage = stLoad ∧
        t.sec.linkOn = true ∧ t.flag fPM_STATUS_TRANSITION = false ∧ t.pm.target = none)) ∧
  (∀ (p : Path) (v : Word) (s : State), s.mayWrite p rPM_PD_KEEP_OFF = true →
    (s.mode ∉ [modeConfig, modeReady] → (∃ d < 30, pdSwitchable d = true ∧ s.pdPresent d = true ∧
        v.getLsbD d ≠ s.heldOff d) → Completes (.keepOffWrite p v) s fun t => t.flag fPM_STATUS_REFUSED = true ∧
      t.fld fPM_STATUS_REASON = 0xFD ∧ State.Frame [.regs] s t ∧ ∀ d < 30, t.heldOff d = s.heldOff d) ∧
    (s.mode = modeConfig → s.calm → s.part.sedge = true → v.getLsbD 8 = true → s.heldOff 8 = false →
      (∀ d < 30, d ≠ 8 → pdSwitchable d = true → s.pdPresent d = true → v.getLsbD d = s.heldOff d) →
      Completes (.keepOffWrite p v) s fun t => t.heldOff 8 = true ∧ t.pdOn 8 = false ∧
        t.flag fPM_STATUS_REFUSED = false ∧ (s.pdOn 8 = true → t.locked 7 = false ∧ t.sdg = {} ∧
          t.flag (fSEC_CSu_STATUS_LOADED 9) = false) ∧ ∀ d < 30, d ≠ 8 → t.pdOn d = s.pdOn d) ∧
    (∀ d < 30, s.mode = modeConfig → pdSwitchable d = true → s.pdPresent d = true → v.getLsbD d = false →
      s.heldOff d = true → s.pdOn d = false → d ∉ s.pm.todo →
      (∀ x < 30, x ≠ d → pdSwitchable x = true → s.pdPresent x = true → v.getLsbD x = s.heldOff x) →
      Completes (.keepOffWrite p v) s fun t => t.heldOff d = false ∧ t.pm = { s.pm with todo := s.pm.todo ++ [d] } ∧
        State.Frame [.regs, .pm] s t)) ∧
  (∀ (src : Fin 3) (s : State),
    (s.wakeEnabled src = false → ∀ tie, Completes (.wake src tie) s fun t => t = s) ∧
    (s.wakeEnabled src = true → s.pm.entering = true → ∀ tie, Completes (.wake src tie) s fun t =>
      State.WakeLatched s t src) ∧
    (s.wakeEnabled src = true → s.pm.entering = false → modeConfig ≤ s.mode →
      (Completes (.wake src true) s fun t => t = { s with pm := { s.pm with tie := some src.val } }) ∧
      Completes (.wake src false) s fun t => t = s) ∧
    (s.wakeEnabled src = true → s.pm.entering = false → s.flag fPM_STATUS_TRANSITION = false →
      (s.mode = modeDeepSleep → ({ s with pm := { s.pm with retry := true } }).pdWanted modeBoot ≠ [] →
        ∀ tie, Completes (.wake src tie) s fun t => State.WakeBegins s t src modeBoot) ∧
      (s.mode = modeBiasHold → ({ s with pm := { s.pm with retry := true } }).pdWanted modeLoad ≠ [] →
        ∀ tie, Completes (.wake src tie) s fun t => State.WakeBegins s t src modeLoad))) ∧
  (∀ (s : State),
    (s.pm.entering = true →
      (s.wakeEnabled 2 = true → Completes .pmWake s fun t => State.WakeLatched s t 2) ∧
      (s.wakeEnabled 0 = true → Completes .wakeNEdge s fun t => State.WakeLatched s t 0 ∧
        t.fen.presented = s.fen.presented ++ [0x330]) ∧
      (s.wakeEnabled 1 = true → Completes .perstNRelease s fun t => State.WakeLatched s t 1 ∧ t.sec.perst = false)) ∧
    (s.pm.entering = false → s.mode = modeDeepSleep → s.flag fPM_STATUS_TRANSITION = false →
      ({ s with pm := { s.pm with retry := true } }).pdWanted modeBoot ≠ [] →
      (s.wakeEnabled 2 = true → Completes .pmWake s fun t => State.WakeBegins s t 2 modeBoot) ∧
      (s.wakeEnabled 0 = true → Completes .wakeNEdge s fun t => State.WakeBegins s t 0 modeBoot) ∧
      (s.wakeEnabled 1 = true → Completes .perstNRelease s fun t => State.WakeBegins s t 1 modeBoot ∧
        t.sec.perst = false)) ∧
    (s.wakeEnabled 2 = false → Completes .pmWake s fun t => State.Frame [.fen] s t) ∧
    (s.wakeEnabled 0 = false → Completes .wakeNEdge s fun t => State.Frame [.fen] s t ∧
      t.fen.presented = s.fen.presented ++ [0x330]) ∧
    (s.wakeEnabled 1 = false → Completes .perstNRelease s fun t =>
      t = { s with sec := { s.sec with perst := false } })) ∧
  (∀ (speed : Fin 8) (width : Fin 16) (s : State),
    (s.sec.linkOn = true → s.sec.perst = false → s.pdOn 3 = true → Completes (.pcieLinkUp speed width) s fun t =>
      t.fld fBW_PCIE_SPEED = speed ∧ t.fld fBW_PCIE_WIDTH = width ∧ t.flag fBW_PCIE_LINK_UP = true ∧
      t.pm = { s.pm with hostWake := 0 } ∧ State.Frame [.regs, .pm] s t ∧ State.OnlyRegs [rBW_PCIE] s t) ∧
    (s.sec.linkOn = false ∨ s.sec.perst = true ∨ s.pdOn 3 = false → Completes (.pcieLinkUp speed width) s fun t => t = s))

/-- R95, R202, R257, R315, R421, R459 (03_drive_synthesis.md, 07_reed_core_architecture.md, 09_sedge_decoder.md, 11_causeway.md,
16_modes_power_clocks.md, 17_checks_and_faults.md): power-on reset, brown-out, the keyed cold and warm resets, and the resets of a
Pool, of Sedge and of Causeway. The key is 0xA55A; the reset values that the specification does not give are the model's (log
entry 2). -/
def Obligations.ResetsLeaveWhatTheyName : Prop :=
  (∀ (strap : Fin 16) (s : State), Completes (.powerOnReset strap) s fun t =>
    t.mode = modeBoot ∧ t.fld fCW_NODE_STRAP = strap ∧ t.fld fPM_CLK_STATUS_LOCKED = 0x119 ∧
    t.stage = (if s.fld fSEC_LIFECYCLE_BOOT_SRC = 2 then stWaitPush else stPrimary) ∧
    (∀ k < 3, t.reg (rSEC_OTP_ARBk k) = s.reg (rSEC_OTP_ARBk k)) ∧ t.sec.hashes = s.sec.hashes ∧
    t.reg rSEC_KEY_STATUS = s.reg rSEC_KEY_STATUS ∧ t.tm = {} ∧ t.peat = [] ∧ t.dmem = [] ∧ t.imem = [] ∧ t.cores = [] ∧
    t.chains = [] ∧ t.slu = [] ∧ t.dpw = {} ∧ t.runs = [] ∧ t.cw = [] ∧ t.sdg = {} ∧ t.reg rPM_RESET_CAUSE = 1) ∧
  (∀ (s : State), Completes .brownOut s fun t => t.fld fPM_PD_STATUS_ON = 0 ∧ t.fld fPM_CLK_STATUS_LOCKED = 0 ∧
    t.mode = 0 ∧ t.runs = [] ∧ t.cores = [] ∧ t.slu = [] ∧ t.sec.hashes = s.sec.hashes) ∧
  (∀ (p : Path) (key : BitVec 16) (s : State), s.mayWrite p rPM_RESET = true →
    (key ≠ 0xA55A ∨ Path.secure p = false → (Completes (.coldReset p key) s fun t => t = s) ∧
      Completes (.warmReset p key) s fun t => t = s) ∧
    (key = 0xA55A → Path.secure p = true →
      (Completes (.coldReset p key) s fun t => t.flag fPM_STATUS_TRANSITION = true ∧ t.pm.cold = some 1 ∧
        t.mode = s.mode ∧ (∀ c < 256, (s.chState c = chOpen → t.chState c = chOpen) ∧
          (s.chState c = chConnected → State.ZeroEntered s t c chOpen)) ∧ State.Frame [.regs, .pm, .slu] s t) ∧
      (s.mode ∈ [modeConfig, modeReady] → s.calm → s.pdWanted modeLoad = [] → Completes (.warmReset p key) s fun t =>
        t.mode = modeLoad ∧ t.stage = stLoad ∧ t.regN rPM_RESET_CAUSE = 4 ∧ t.fld fPM_CAL_STATUS_POOL_CAL = 0 ∧
        (∀ u < 10, t.flag (fSEC_CSu_STATUS_LOADED u) = false) ∧ t.fld fPM_PD_STATUS_ON = s.fld fPM_PD_STATUS_ON ∧
        t.slu = s.slu ∧ t.dpw = s.dpw ∧ t.peat = s.peat ∧ t.imem = s.imem ∧ t.dmem = s.dmem ∧ t.tm = {}))) ∧
  (∀ (p : Path) (s : State), s.mayWrite p rPM_UNIT_RESET = true →
    (s.mode ∉ [modeConfig, modeReady, modeSafe, modeDiag] → ∀ n,
      ∀ i ∈ [Instr.poolReset p n, .sedgeReset p, .causewayReset p], Completes i s fun t =>
        t.flag fPM_STATUS_REFUSED = true ∧ t.fld fPM_STATUS_REASON = 0x02 ∧ State.Frame [.regs] s t) ∧
    (s.mode ∈ [modeConfig, modeReady, modeSafe, modeDiag] →
      (∀ n : Fin 16, s.poolPowered n = true → s.poolInRun n = true → Completes (.poolReset p n) s fun t =>
        t.flag fPM_STATUS_REFUSED = true ∧ t.fld fPM_STATUS_REASON = 0xFC ∧ State.Frame [.regs] s t) ∧
      (∀ n : Fin 16, s.poolPowered n = true → s.poolInRun n = false → Completes (.poolReset p n) s fun t =>
        (∀ e < 72, t.chain n e = {}) ∧ (∀ i < 4, t.core (4 * n + i) = {} ∧ t.rcState (4 * n + i) = rcReset) ∧
        (∀ k < 32, t.tone n k = {}) ∧ (∀ off, rDRV_CTRL n ≤ off → off < rSEG_e n 0 → t.reg off = regReset off) ∧
        (∀ k < 32, t.reg (rDN_SLOT_s (32 * n + k)) = 0) ∧
        (∀ e < 4096, ∀ j < 8, t.reg (rSEG_e n e + 4 * j) = s.reg (rSEG_e n e + 4 * j)) ∧
        (∀ m < 16, m ≠ n.val → ∀ e < 72, t.chain m e = s.chain m e) ∧ t.peat = s.peat ∧ t.dmem = s.dmem ∧
        t.imem = s.imem ∧ t.weights = s.weights ∧ t.flag fPM_STATUS_REFUSED = false) ∧
      (s.sedgePowered = true → s.fld fSDG_STATUS_STATE = 0 → Completes (.sedgeReset p) s fun t =>
        t.sdg = { graph := s.sdg.graph } ∧ t.reg rSDG_GRAPH = s.reg rSDG_GRAPH ∧ t.reg rSDG_CTRL = regReset rSDG_CTRL ∧
        t.reg rSDG_STATUS = regReset rSDG_STATUS ∧ (∀ q < 512, t.reg (rSDG_FRAME_q q) = s.reg (rSDG_FRAME_q q)) ∧
        t.reg rSDG_UNTRUSTED = s.reg rSDG_UNTRUSTED) ∧
      (s.pdOn 4 = true → Completes (.causewayReset p) s fun t => ∀ q < s.part.ports,
        t.cwState q = (if s.cwState q = cwDisabled then cwDisabled else cwDetect) ∧ t.reg (rCW_Pp_COUNT_A q) = 0 ∧
        t.reg (rCW_Pp_COUNT_B q) = 0 ∧ t.reg (rCW_Pp_COUNT_C q) = 0)))

/-! ### Causes of SAFE, clocks, timers and pins -/

/-- R41, R370, R422, R423, R425, R439 to R446 (02_fabric_time.md, 14_sluice_dipwell.md, 16_modes_power_clocks.md,
17_checks_and_faults.md): interlocks, temperature and lost clocks bring the device to SAFE, and a cause clears once its condition is
over; general timers strobe and scan; GPIO. Stated from modes in which no timed output plays. -/
def Obligations.SafeCausesTimersAndPins : Prop :=
  (∀ (s : State), s.safeReady → Completes .pmSafe s fun t =>
    State.SafeEntered s t [fPM_SAFE_CAUSE_INTERLOCK, fPM_SAFE_CAUSE_FEN_ILK] 0x0F01 ∧
    (s.pdOn 3 = true → s.icVector 3 < 256 → t.icPending 3 = true)) ∧
  (∀ (k : Fin 8) (s : State),
    (bitOf s.pm.ilkLow k = false → bitOf (s.fld fPM_ILK_CFG_EN) k = true → s.safeReady →
      Completes (.ilkEdge k true) s fun t => bitOf t.pm.ilkLow k = true ∧ bitOf (t.fld fPM_ILK_STATUS_LATCHED) k = true ∧
        0x338 + k.val ∈ t.fen.presented ∧ State.SafeEntered s t [fPM_SAFE_CAUSE_INTERLOCK] 0x0F01) ∧
    (bitOf s.pm.ilkLow k = false → bitOf (s.fld fPM_ILK_CFG_EN) k = false → Completes (.ilkEdge k true) s fun t =>
      bitOf t.pm.ilkLow k = true ∧ t.fen.presented = s.fen.presented ++ [0x338 + k.val] ∧ State.Frame [.pm, .fen] s t) ∧
    (Completes (.ilkEdge k false) s fun t => bitOf t.pm.ilkLow k = false ∧ State.Frame [.pm] s t) ∧
    (s.fld (fPM_GPIOk_FUNC k) = 0 → Completes (.gpioEdge k) s fun t =>
      t.fen.presented = s.fen.presented ++ [0x328 + k.val] ∧ State.Frame [.fen] s t) ∧
    (s.fld (fPM_GPIOk_FUNC k) ≠ 0 → Completes (.gpioEdge k) s fun t => t = s) ∧
    (s.fld (fPM_GPIOk_FUNC k) = 1 → Completes (.gpioPulse k) s fun t => bitOf t.pm.gpioHigh k = true ∧
      State.Frame [.pm, .fen] s t) ∧
    (s.fld (fPM_GPIOk_FUNC k) ≠ 1 → Completes (.gpioPulse k) s fun t => State.Frame [.fen] s t) ∧
    (Completes (.gpioPulseEnd k) s fun t => bitOf t.pm.gpioHigh k = false ∧ State.Frame [.pm] s t) ∧
    (∀ (p : Path) (v : Word), s.mayWrite p rPM_ILK_CFG = true →
      ((∀ j < 8, bitOf s.pm.ilkLow j = true → v.getLsbD j = true → v.getLsbD (8 + j) = true → s.ilkLevel j = true) →
        Completes (.ilkConfigWrite p v) s fun t => t.fld fPM_ILK_CFG_EN = fieldOf v 7 0 ∧
          t.fld fPM_ILK_CFG_LEVEL = fieldOf v 15 8 ∧ State.Frame [.regs] s t ∧ State.OnlyRegs [rPM_ILK_CFG] s t) ∧
      (v.getLsbD k = true → v.getLsbD (8 + k) = true → bitOf s.pm.ilkLow k = true → s.ilkLevel k = false →
        (∀ j < 8, j ≠ k.val → bitOf s.pm.ilkLow j = false) → s.safeReady → Completes (.ilkConfigWrite p v) s fun t =>
          t.fld fPM_ILK_CFG_EN = fieldOf v 7 0 ∧ bitOf (t.fld fPM_ILK_STATUS_LATCHED) k = true ∧
          State.SafeEntered s t [fPM_SAFE_CAUSE_INTERLOCK] 0x0F01))) ∧
  (∀ (p : Path) (v : Word) (s : State), s.mayWrite p rPM_SAFE_CAUSE = true → Completes (.safeCauseClear p v) s fun t =>
    (∀ b < 6, bitOf (t.regN rPM_SAFE_CAUSE) b =
      (bitOf (s.regN rPM_SAFE_CAUSE) b && !(v.getLsbD b && !s.causePersists b))) ∧
    t.fld fPM_SAFE_CAUSE_FIRST = s.fld fPM_SAFE_CAUSE_FIRST ∧ State.Frame [.regs] s t ∧
    State.OnlyRegs [rPM_SAFE_CAUSE] s t) ∧
  (∀ (s : State),
    (s.flag fTM_STATUS_REF_LOCK = true → s.safeReady → Completes .refLost s fun t =>
      State.SafeEntered s t [fPM_SAFE_CAUSE_REFERENCE] 0x0B01 ∧ t.flag fTM_STATUS_REF_LOCK = false ∧
      t.locked 1 = false ∧ t.locked 2 = false ∧ t.tmState = tmIdle ∧ t.tm = s.tm) ∧
    (s.flag fTM_STATUS_REF_LOCK = false → Completes .refLost s fun t => t = s) ∧
    Completes .refRelock s (fun t => t.flag fTM_STATUS_REF_LOCK = true ∧ t.locked 1 = true ∧ t.locked 2 = s.pdOn 7 ∧
      t.mode = s.mode ∧
      (s.flag fTM_STATUS_REF_LOCK = false → s.tm.enabled = true → s.flag fTM_CTRL_ROLE = false →
        t.tmState = tmAcquire ∧ t.tm.exchanges = 0) ∧
      (s.flag fTM_STATUS_REF_LOCK = true ∨ s.tm.enabled = false ∨ s.flag fTM_CTRL_ROLE = true →
        t.tmState = s.tmState ∧ State.Frame [.regs] s t ∧ State.OnlyRegs [rTM_STATUS, rPM_CLK_STATUS] s t))) ∧
  (∀ (d : Fin 25) (s : State),
    (d.val = 0 ∨ s.locked d = false → Completes (.clockLockLoss d) s fun t => t = s) ∧
    (d.val ∉ [0, 1, 2, 5, 6, 7] → s.locked d = true → s.safeReady → Completes (.clockLockLoss d) s fun t =>
      State.SafeEntered s t [fPM_SAFE_CAUSE_CLOCK] 0x0F03 ∧ t.locked d = false ∧
      (9 ≤ d.val → ∀ k < 32, t.flag (fDN_SLOT_s_VALID (32 * (d - 9) + k)) = false ∧
        t.fld (fDN_SLOT_s_SEQ (32 * (d - 9) + k)) = s.fld (fDN_SLOT_s_SEQ (32 * (d - 9) + k)))) ∧
    (d.val = 7 → s.locked 7 = true → s.fld fSDG_STATUS_STATE = 0 → Completes (.clockLockLoss d) s fun t =>
      t.locked 7 = false ∧ t.faultLog = s.faultLog ++ [0x0F03] ∧ t.mode = s.mode ∧ State.Frame [.regs, .faultLog] s t ∧
      State.OnlyRegs [rPM_CLK_STATUS] s t) ∧
    (d.val ∈ [5, 6] → s.locked d = true → Completes (.clockLockLoss d) s fun t => t.locked d = false ∧
      State.Raises s t 0x0F03 ∧ t.mode = s.mode ∧ ∀ q < 8, s.cwState q = cwActive → t.cwState q = cwRetrain) ∧
    (s.clockPowered d = true → d.val ∉ [1, 2] → Completes (.clockRelock d) s fun t => t.locked d = true ∧
      (d.val < 9 → State.Frame [.regs] s t ∧ State.OnlyRegs [rPM_CLK_STATUS] s t) ∧ t.mode = s.mode) ∧
    (s.clockPowered d = false → Completes (.clockRelock d) s fun t => t = s)) ∧
  (∀ (x : BitVec 12) (s : State),
    let v : Int := x.toInt
    let warn : Int := 4 * s.fld fPM_THERM_CFG_WARN
    let crit : Int := 4 * s.fld fPM_THERM_CFG_CRIT
    let hyst : Int := 4 * s.fld fPM_THERM_CFG_HYST
    let warned := s.flag fPM_THERM_STATUS_THERMAL_WARN
    let hot := s.flag fPM_THERM_STATUS_CRIT
    (s.pm.cooling = false → hot = false → v < crit → v < 500 →
      (warned = false → warn ≤ v → Completes (.thermalSample x) s fun t => t.flag fPM_THERM_STATUS_THERMAL_WARN = true ∧
        t.tmax = v ∧ t.fen.presented = s.fen.presented ++ [0x391] ∧ t.faultLog = s.faultLog ∧ t.mode = s.mode) ∧
      (warned = true → v < warn - hyst → Completes (.thermalSample x) s fun t =>
        t.flag fPM_THERM_STATUS_THERMAL_WARN = false ∧ t.tmax = v ∧ t.fen.presented = s.fen.presented ++ [0x391]) ∧
      ((warned = false ∧ v < warn) ∨ (warned = true ∧ warn - hyst ≤ v) → Completes (.thermalSample x) s fun t =>
        t.tmax = v ∧ t.flag fPM_THERM_STATUS_THERMAL_WARN = warned ∧ State.Frame [.regs] s t ∧
        State.OnlyRegs [rPM_THERM_STATUS] s t)) ∧
    (s.pm.cooling = false → hot = false → crit ≤ v → v < 500 → s.safeReady → Completes (.thermalSample x) s fun t =>
      t.flag fPM_THERM_STATUS_CRIT = true ∧ State.SafeEntered s t [fPM_SAFE_CAUSE_THERMAL] 0x0F02) ∧
    (s.pm.cooling = false → hot = true → warned = true → warn - hyst ≤ v → crit - hyst ≤ v → 500 ≤ v → s.pm.cold = none →
      Completes (.thermalSample x) s fun t => t.flag fPM_THERM_STATUS_SHUTDOWN_SEEN = true ∧ t.pm.cold = some 3 ∧
        t.flag fPM_STATUS_TRANSITION = true ∧
        ∀ c < 256, s.chState c = chConnected → State.ZeroEntered s t c chOpen) ∧
    (s.pm.cooling = true →
      (v < crit - hyst → Completes (.thermalSample x) s fun t => t.pm.cooling = false ∧ t.mode = modeBoot ∧
        t.fld fPM_CLK_STATUS_LOCKED = 0x119 ∧ t.tmax = v) ∧
      (crit - hyst ≤ v → Completes (.thermalSample x) s fun t => t.tmax = v ∧ State.Frame [.regs] s t ∧
        State.OnlyRegs [rPM_THERM_STATUS] s t))) ∧
  (∀ (p : Path) (g : Fin 8) (v : Word) (s : State), s.mayWrite p (rPM_GTg_CTRL g) = true →
    (s.gtOn g = false → s.regN (rPM_GTg_PERIOD g) ≠ 0 → Completes (.gtimerEnable p g v) s fun t => t.gtOn g = true ∧
      t.flag (fPM_GTg_CTRL_PERIODIC g) = v.getLsbD 1 ∧ t.flag (fPM_GTg_CTRL_BASE g) = v.getLsbD 2 ∧
      t.flag (fPM_GTg_CTRL_EN g) = true ∧ t.flag (fPM_GTg_CTRL_REFUSED g) = false ∧
      ∀ h < 8, h ≠ g.val → t.gtOn h = s.gtOn h) ∧
    (s.gtOn g = false → s.regN (rPM_GTg_PERIOD g) = 0 → Completes (.gtimerEnable p g v) s fun t => t.gtOn g = false ∧
      t.flag (fPM_GTg_CTRL_REFUSED g) = true ∧ t.fld (fPM_GTg_CTRL_REASON g) = 0x07) ∧
    (s.gtOn g = true → Completes (.gtimerEnable p g v) s fun t => t.gtOn g = true ∧
      t.flag (fPM_GTg_CTRL_PERIODIC g) = s.flag (fPM_GTg_CTRL_PERIODIC g) ∧
      t.flag (fPM_GTg_CTRL_BASE g) = s.flag (fPM_GTg_CTRL_BASE g) ∧ State.Frame [.regs] s t ∧
      State.OnlyRegs [rPM_GTg_CTRL g] s t)) ∧
  (∀ (g : Fin 8) (s : State), s.gtOn g = true → (s.flag (fPM_GTg_CTRL_BASE g) = true ∨ s.locked 8 = true) →
    (s.sluClaims g = false → s.dpwClaims 0 g = false → s.dpwClaims 1 g = false → Completes (.gtimerExpiry g) s fun t =>
      t.fen.presented = s.fen.presented ++ [0x360 + g.val] ∧ t.gtOn g = s.flag (fPM_GTg_CTRL_PERIODIC g) ∧
      State.Frame [.regs, .fen, .pm] s t ∧ State.OnlyRegs [rPM_GTg_CTRL g] s t) ∧
    (∀ y < 16, s.flag (fPM_GTg_CTRL_PERIODIC g) = true → s.flag fSLU_STATUS_ENABLED = true →
      (∀ x < 16, (s.flag (fSLU_Gg_CFG_SRC_TIMER x) = true ∧ s.fld (fSLU_Gg_CFG_TIMER x) = g) ↔ x = y) →
      s.chLive (16 * y) = true → s.mode ≠ modeSafe → s.biasHeld = false → s.dpwClaims 0 g = false →
      s.dpwClaims 1 g = false → Completes (.gtimerExpiry g) s fun t => State.Transferred s t y ∧
        t.fen.presented = s.fen.presented ++ [0x360 + g.val] ∧ t.gtOn g = true) ∧
    (∀ k < 2, s.flag (fPM_GTg_CTRL_PERIODIC g) = true → s.sluClaims g = false → s.dpwClaims k g = true →
      s.dpwClaims (1 - k) g = false → (s.conv k).cal = false → (s.conv k).scan = none →
      Completes (.gtimerExpiry g) s fun t => t.conv k = { s.conv k with scan := some (0, 0) } ∧
        t.fen.presented = s.fen.presented ++ [0x360 + g.val] ∧ State.Frame [.fen, .dpw] s t))

/-! ### Register accesses, the management SPI and JTAG -/

/-- R14, R321, R450, R451, R452 (12_host_rings.md, 18_address_map.md): writes by field type, writes that a row of the table names,
ignored and ill-formed accesses, and the debug window. -/
def Obligations.RegisterAndWindowAccessesFollowTheMap : Prop :=
  (∀ (p : Path) (v : Word) (s : State),
    (∀ c : Fin 256, s.mayWrite p (rSLU_CHc_CODE c) = true →
      Completes (.registerWrite p (BitVec.ofNat 26 (rSLU_CHc_CODE c)) v) s fun t =>
        t.fld (fSLU_CHc_CODE_CODE c) = fieldOf v 17 0 ∧ State.Frame [.regs] s t ∧ State.OnlyRegs [rSLU_CHc_CODE c] s t) ∧
    (s.mayWrite p rDPW_AUX_CFG = true → Completes (.registerWrite p (BitVec.ofNat 26 rDPW_AUX_CFG) v) s fun t =>
      t.fld fDPW_AUX_CFG_DIFF = (if s.flag fDPW_STATUS_ENABLED then s.fld fDPW_AUX_CFG_DIFF else fieldOf v 3 0) ∧
      State.Frame [.regs] s t ∧ State.OnlyRegs [rDPW_AUX_CFG] s t) ∧
    (s.mayWrite p rGLB_XING_OVF = true → Completes (.registerWrite p (BitVec.ofNat 26 rGLB_XING_OVF) v) s fun t =>
      t.reg rGLB_XING_OVF = s.reg rGLB_XING_OVF &&& ~~~(v &&& 0x01FFFFFF) ∧ State.Frame [.regs] s t ∧
      State.OnlyRegs [rGLB_XING_OVF] s t) ∧
    (s.mayWrite p rTM_COUNT = true → Completes (.registerWrite p (BitVec.ofNat 26 rTM_COUNT) v) s fun t =>
      State.Frame [.regs] s t ∧ State.OnlyRegs [] s t) ∧
    (s.mayWrite p rSLU_CTRL = true → exec (.registerWrite p (BitVec.ofNat 26 rSLU_CTRL) 1) s = exec (.sluEnable p) s) ∧
    (∀ m : Fin 16, s.mayWrite p rPM_CTRL = true →
      exec (.registerWrite p (BitVec.ofNat 26 rPM_CTRL) (BitVec.ofNat 32 (16 + m))) s = exec (.modeRequest p m) s) ∧
    (∀ off : BitVec 26, off.toNat % 4 = 0 → off.toNat < 0x3000000 →
      (s.reachable off.toNat = false → (Completes (.registerWrite p off v) s fun t => t = s) ∧
        Completes (.latchingRead p off) s fun t => t = { s with out := s.out ++ [.readData p off.toNat 0] }) ∧
      (∀ k, p = .vf k → s.reachable off.toNat = true → s.partitionMay k off.toNat = false → off.toNat / 0x100000 ≠ 0x28 →
        Completes (.registerWrite p off v) s fun t =>
          t.fld fBW_SEC_LOG_COUNT = min (s.fld fBW_SEC_LOG_COUNT + 1) 65535 ∧ t.fld fBW_SEC_LOG_FUNC = 1 + k ∧
          t.fld fBW_SEC_LOG_OFFSET = off.toNat / 2 ^ 20 ∧ State.OnlyRegsIc [rBW_SEC_LOG] s t ∧
          State.Frame [.regs, .ic, .out] s t)) ∧
    (∀ off : BitVec 26, s.reachable 0 = true →
      let noted (t : State) : Prop := t.fld fGLB_ACCESS_ERR_COUNT = min (s.fld fGLB_ACCESS_ERR_COUNT + 1) 65535 ∧
        t.fld fGLB_ACCESS_ERR_PATH = Path.idx p ∧ t.fld fGLB_ACCESS_ADDR_OFFSET = off.toNat ∧
        State.OnlyRegs [rGLB_ACCESS_ERR, rGLB_ACCESS_ADDR] s t
      (off.toNat % 4 ≠ 0 → (Completes (.registerWrite p off v) s fun t => noted t ∧ State.Frame [.regs] s t) ∧
        Completes (.latchingRead p off) s fun t => noted t ∧ t.out = s.out ++ [.readData p off.toNat 0] ∧
          State.Frame [.regs, .out] s t) ∧
      (Completes (.badAccess p off true) s fun t => noted t ∧ State.Frame [.regs] s t) ∧
      Completes (.badAccess p off false) s fun t => noted t ∧ t.out = s.out ++ [.readData p off.toNat 0] ∧
        State.Frame [.regs, .out] s t) ∧
    (s.reachable rTM_NOW_L = true → s.snapCovers p rTM_NOW_L = false → s.tmState ≠ tmIdle →
      s.latched p (rTM_NOW_L + 1) = 0 → Completes (.latchingRead p (BitVec.ofNat 26 rTM_NOW_L)) s fun t =>
        t.out = s.out ++ [.readData p rTM_NOW_L (s.tm.ft.extractLsb' 0 32 &&& 0xFFFF0000)] ∧
        (t.busRead p rTM_NOW_M).2 = s.tm.ft.extractLsb' 32 32 ∧
        (t.busRead p rTM_NOW_H).2 = (s.tm.ft.extractLsb' 64 16).setWidth 32 ∧ State.Frame [.latches, .out] s t)) ∧
  (∀ (p : Path) (w : BitVec 24) (bytes : List (BitVec 8)) (size : Nat) (s : State),
    let n := s.page p
    let taken (k : Nat) : Prop := windowFits w.toNat k = true ∧ s.windowLive p = true ∧ s.windowMay p = true
    (w.toNat < 0x400000 →
      (taken bytes.length → Completes (.debugWindowAccess p w (.write bytes)) s fun t =>
        (∀ i < bytes.length, t.peat.read (2 ^ 22 * n + w.toNat + i) = bytes.getD i 0) ∧
        (∀ a, a < 2 ^ 22 * n + w.toNat ∨ 2 ^ 22 * n + w.toNat + bytes.length ≤ a → t.peat.read a = s.peat.read a) ∧
        State.Frame [.peat] s t) ∧
      (taken size → Completes (.debugWindowAccess p w (.read size)) s fun t =>
        t = { s with out := s.out ++ [.windowData p w.toNat (s.peat.readBytes (2 ^ 22 * n + w.toNat) size)] })) ∧
    (∀ i a, i < 4 → a < 0x10000 → w.toNat = 0x420000 + 0x40000 * i + a →
      (taken bytes.length → Completes (.debugWindowAccess p w (.write bytes)) s fun t =>
        (∀ j < bytes.length, t.dmem.read (65536 * (4 * n + i) + a + j) = bytes.getD j 0) ∧ State.Frame [.dmem] s t) ∧
      (taken size → Completes (.debugWindowAccess p w (.read size)) s fun t =>
        t = { s with out := s.out ++ [.windowData p w.toNat (s.dmem.readBytes (65536 * (4 * n + i) + a) size)] })) ∧
    (∀ i a, i < 4 → a < 0x20000 → w.toNat = 0x400000 + 0x40000 * i + a → taken bytes.length →
      s.rcState (4 * n + i) ∈ [rcRunning, rcHalting, rcHalted] →
      Completes (.debugWindowAccess p w (.write bytes)) s fun t => t = s) ∧
    (windowFits w.toNat bytes.length = false → s.reachable 0 = true →
      Completes (.debugWindowAccess p w (.write bytes)) s fun t =>
        t.fld fGLB_ACCESS_ERR_COUNT = min (s.fld fGLB_ACCESS_ERR_COUNT + 1) 65535 ∧ State.Frame [.regs] s t) ∧
    (windowFits w.toNat bytes.length = true → s.windowLive p = true → s.windowMay p = false →
      Completes (.debugWindowAccess p w (.write bytes)) s fun t =>
        t.fld fBW_SEC_LOG_COUNT = min (s.fld fBW_SEC_LOG_COUNT + 1) 65535 ∧ t.peat = s.peat ∧ t.dmem = s.dmem ∧
        t.imem = s.imem))

/-- R199, R334, R405, R406, R455, R475 (07_reed_core_architecture.md, 12_host_rings.md, 15_boot_control_stores.md,
18_address_map.md, 19_electrical_package.md): snapshots, PARAM, the step of a core in DIAG, the management SPI and JTAG. -/
def Obligations.SnapshotsParamStepSpiAndJtag : Prop :=
  (∀ (p : Path) (mask : BitVec 24) (s : State),
    (s.mayWrite p rGLB_SNAP_REQ = true →
      ((s.snap p).busy = false → Completes (.snapReq p mask) s fun t => (t.snap p).busy = true ∧ (t.snap p).done = false ∧
        (t.snap p).mask = mask.toNat ∧ (t.snap p).tick % 16 = 0 ∧ s.now + 512 ≤ (t.snap p).tick ∧
        (t.snap p).tick < s.now + 528 ∧ State.Frame [.snaps] s t) ∧
      ((s.snap p).busy = true → Completes (.snapReq p mask) s fun t =>
        t.snap p = { s.snap p with ignored := true } ∧ State.Frame [.snaps] s t) ∧
      Completes (.snapRelease p) s fun t => (t.snap p).done = false ∧ State.Frame [.snaps] s t) ∧
    ((s.snap p).busy = false → Completes (.snapCapture p) s fun t => t = s) ∧
    ((s.snap p).busy = true → (s.snap p).mask = 2 ^ 16 → Completes (.snapCapture p) s fun t =>
      (t.snap p).busy = false ∧ (t.snap p).done = true ∧ State.Frame [.snaps] s t ∧
      ∀ u : State, u.snaps = t.snaps → u.reachable rTM_COUNT = true →
        (u.busRead p rTM_COUNT).2 = s.view p rTM_COUNT)) ∧
  (∀ (p : Fin 4) (r : Fin 8) (d : Desc) (s : State), s.descReady p r 0x05 d →
    (d.le 8 1 ≠ 0 → Completes (.param p r) s fun t =>
      State.Completed (s.setReg64 rTM_EPOCH_L (d.le 16 8)) t p r d (s.okRecord d 1)) ∧
    (d.le 8 1 = 0 → d.le 9 1 = 0 → Completes (.param p r) s fun t => State.Completed s t p r d (s.okRecord d 0)) ∧
    (d.le 8 1 = 0 → d.le 9 1 = 1 →
      let w := s.busWrite (.vf p) (d.le 16 4) (BitVec.ofNat 32 (d.le 20 4))
      w.descReady p r 0x05 d → Completes (.param p r) s fun t => State.Completed w t p r d (w.okRecord d 1))) ∧
  (∀ (p : Path) (c : Fin 64) (s : State), s.mayWrite p (rRC_i_CTRL (c / 4) (c % 4)) = true →
    (s.mode ≠ modeDiag ∨ s.flag (fRC_i_CTRL_DBG_HALT (c / 4) (c % 4)) = false →
      Completes (.coreStep p c) s fun t => t = s) ∧
    (s.mode = modeDiag → s.flag (fRC_i_CTRL_DBG_HALT (c / 4) (c % 4)) = true → s.coreReady c = true →
      (s.core c).half = false → (s.core c).post = {} → s.pc c < s.fld (fRC_i_IMG_NBUNDLE (c / 4) (c % 4)) →
      (s.flat c = true → decodeBundle c (s.bundleAt c (s.pc c)) = some [.nop c, .tnop c false] →
        Completes (.coreStep p c) s fun t =>
          State.Closed s t c (s.core c) (s.pc c + 1) [rRC_i_CTRL (c / 4) (c % 4)]) ∧
      (decodeBundle c (s.bundleAt c (s.pc c)) = none → Completes (.coreStep p c) s fun t =>
        State.Faulted s t c 0x0502))) ∧
  (∀ (cmd : BitVec 8) (off : Word) (a b c d : BitVec 8) (busy : Bool) (s : State),
    (s.spiServed = false → ∀ data n, (Completes (.spiWrite cmd off data busy) s fun t => t = s) ∧
      (Completes (.spiRead off n busy) s fun t => t = s) ∧ Completes (.spiStatus busy) s fun t => t = s) ∧
    (s.spiServed = true → cmd = 0x02 → (busy = false ∨ s.spi.writing = false) → s.flag fSEC_LIFECYCLE_SPI_RO = false →
      off.toNat % 4 = 0 → Completes (.spiWrite cmd off [a, b, c, d] busy) s fun t =>
        t = ({ s with spi := { s.spi with writing := true } }).busWrite .spi off.toNat (a ++ b ++ c ++ d)) ∧
    (s.spiServed = true → cmd ≠ 0x02 ∨ (busy = true ∧ s.spi.writing = true) ∨ s.flag fSEC_LIFECYCLE_SPI_RO = true →
      ∀ data, Completes (.spiWrite cmd off data busy) s fun t => t.spi.err = true ∧ State.Frame [.spi] s t) ∧
    (s.spiServed = true → (busy = false ∨ s.spi.writing = false) → off.toNat % 4 = 0 →
      Completes (.spiRead off 1 busy) s fun t =>
        t = ({ s with spi := { s.spi with writing := false } }).readOut .spi off.toNat) ∧
    (s.spiServed = true → busy = true → s.spi.writing = true → ∀ n, Completes (.spiRead off n busy) s fun t =>
      t.spi.err = true ∧ State.Frame [.spi] s t) ∧
    (s.spiServed = true → Completes (.spiStatus busy) s fun t => ∃ x : BitVec 8, t.out = s.out ++ [.spiStatus x] ∧
      x.getLsbD 0 = (busy && s.spi.writing) ∧ x.getLsbD 1 = s.spi.err ∧
      x.getLsbD 2 = decide (s.fld fSEC_STATUS_STAGE = 6) ∧ x.getLsbD 3 = decide (s.mode = modeSafe) ∧
      x.extractLsb' 4 4 = BitVec.ofNat 4 s.mode ∧ t.spi.err = false ∧ State.Frame [.out, .spi] s t)) ∧
  (∀ (x y : List Bool) (s : State),
    let through (n : Nat) (o : List Output) (t : State) : Prop := t.out = s.out ++ o ++ [.tdo ((false :: x).take n)] ∧
      t.jtag.boundary = s.jtag.boundary ∧ State.Frame [.out, .jtag] s t
    (Completes (.bypass x) s fun t => t.jtag.ir = .bypass ∧ through x.length [] t) ∧
    (Completes (.clamp x) s fun t => t.jtag.ir = .clamp ∧ through x.length [.balls s.jtag.boundary] t) ∧
    (Completes (.highz x) s fun t => t.jtag.ir = .highz ∧ through x.length [.balls s.jtag.boundary] t) ∧
    (Completes (.samplePreload y x) s fun t => t.out = s.out ++ [.tdo y] ∧ t.jtag = { ir := .sample, boundary := x } ∧
      State.Frame [.out, .jtag] s t) ∧
    (Completes (.extest y x) s fun t => t.out = s.out ++ [.balls s.jtag.boundary, .tdo y, .balls x] ∧
      t.jtag = { ir := .extest, boundary := x } ∧ State.Frame [.out, .jtag] s t) ∧
    (Completes .idcode s fun t => t.jtag = { s.jtag with ir := .idcode } ∧ State.Frame [.out, .jtag] s t ∧
      (s.part = .pl5120 → ∃ bits : List Bool, t.out = s.out ++ [.tdo bits] ∧ bits.length = 32 ∧
        ∀ i < 32, bits.getD i false = (0x0512076F#32).getLsbD i)))

/-! ### The whole machine -/

/-- The queue (no numbered rule: the queue is this model's): a step takes the command at the front and runs it with the rest of
the queue left. With nothing waiting and no sleep entry or cold reset under way, one tick of fabric time passes: that is the
model's own choice (log entry 1). -/
def Obligations.StepRunsTheCommandAtTheFront : Prop :=
  (∀ (c : Instr) (l : List Instr) (s : State), step { s with pending := c :: l } = exec c { s with pending := l }) ∧
  (∀ s : State, s.pending = [] → ∃ t, step s = .next t ∧ t.pending = [] ∧
    (s.pm.cold = none → s.pm.entering = false →
      t.tm.ft = (if s.fld fTM_STATUS_STATE = 0 then s.tm.ft else s.tm.ft + 65536) ∧ State.Frame [.regs, .tm] s t))

/-- The canonical form of the stores of the state (the registers, the memories and the records of the units) is kept by each
step, whatever the command. -/
def Obligations.EveryStepKeepsCanonicalForm : Prop :=
  ∀ s t : State, State.Canonical s → step s = .next t → State.Canonical t

/-- R168, R169, R173, R178 (07_reed_core_architecture.md): each step keeps the pipeline of every Reed core in order (`Core.Tidy`):
nothing is left to EX1 between bundles, one late result at most is open, and no result overtakes an older one to its
register. -/
def Obligations.EveryStepKeepsPipelinesTidy : Prop :=
  ∀ s t : State, (∀ c, Core.Tidy (s.core c)) → step s = .next t → ∀ c, Core.Tidy (t.core c)

/-- R61, R136, R138, R371, R390, R409 (02_fabric_time.md, 05_readout_receivers.md, 14_sluice_dipwell.md, 15_boot_control_stores.md,
16_modes_power_clocks.md): the state after power-on reset meets both invariants, waits for nothing, is in BOOT with the domains
that BOOT powers, has fabric time stopped, and its registers hold the reset values of the tables. Memory that nothing has
written reads as log entry 3 says. -/
def Obligations.ResetState : Prop :=
  State.Canonical State.reset ∧ (∀ c, Core.Tidy (State.reset.core c)) ∧ State.reset.pending = [] ∧
  State.reset.mode = 3 ∧ (∀ d < 30, State.reset.pdOn d = (Decidable.decide (d < 4) || (Decidable.decide (9 ≤ d) && Decidable.decide (d < 14)))) ∧
  State.reset.fld fTM_STATUS_STATE = 0 ∧ State.reset.tm.ft = 0 ∧
  (∀ n < 16, ∀ l < 2, State.reset.fld (fRO_Ll_CFG_SHIFT n l) = 4 ∧ State.reset.fld (fRO_Ll_CAL_CFG_FREEZE_MAX n l) = 1000) ∧
  (∀ n < 16, ∀ d < 4, State.reset.flag (fDRV_DACd_CFG_ISINC n d) = true) ∧
  (∀ c < 256, State.reset.chState c = chOpen ∧ State.reset.chOut c = 0 ∧
    State.reset.fld (fSLU_CHc_CFG_FAULT_STEP c) = 65535) ∧
  (∀ c < 64, State.reset.rcState c = 0 ∧ (State.reset.core c).queue = []) ∧
  State.reset.faultLog = [] ∧ State.reset.out = [] ∧ State.reset.runs = []
end

