-- ==== Sys2Proof/Laws/SMap.lean ====
section
/-!
SUPPORT. Laws of the sparse stores: what a read gives after a write, and that every operation keeps the canonical form.
-/
namespace Sys2Proof.Machine

/-! ### Reading after writing -/

section
variable {α : Type} (d : Nat → α)

theorem SMap.get_filter (p : Nat → Bool) (m : SMap α) (k : Nat) :
    SMap.get d (m.filter (fun e => p e.1)) k = if p k then SMap.get d m k else d k := by
  induction m with
  | nil => simp [SMap.get]
  | cons e m ih =>
    obtain ⟨k', v'⟩ := e
    by_cases hp : p k' = true
    · rw [List.filter_cons_of_pos (by simpa using hp)]
      by_cases hk : k' = k
      · subst hk; simp [SMap.get, hp]
      · simp only [SMap.get, hk, if_false, ih]
    · rw [List.filter_cons_of_neg (by simpa using hp), ih]
      by_cases hk : k' = k
      · subst hk; simp [hp]
      · simp only [SMap.get, hk, if_false]

theorem SMap.get_insert (m : SMap α) (k : Nat) (v : α) (j : Nat) :
    SMap.get d (SMap.insert m k v) j = if j = k then v else SMap.get d m j := by
  induction m with
  | nil => simp only [SMap.insert, SMap.get, eq_comm]
  | cons e m ih =>
    obtain ⟨k', v'⟩ := e
    simp only [SMap.insert]
    split
    · rename_i h
      by_cases hj : k' = j
      · subst hj; simp [SMap.get, Nat.ne_of_lt h]
      · simp only [SMap.get, hj, if_false, ih]
    · split
      · rename_i h; subst h
        by_cases hj : k' = j
        · subst hj; simp [SMap.get]
        · simp [SMap.get, hj, Ne.symm hj]
      · by_cases hj : k = j
        · subst hj; simp [SMap.get]
        · simp [SMap.get, hj, Ne.symm hj]

/-- A read after a write: the value written at its key, and every other key as before. -/
theorem SMap.get_set [DecidableEq α] (m : SMap α) (k : Nat) (v : α) (j : Nat) :
    SMap.get d (SMap.set d m k v) j = if j = k then v else SMap.get d m j := by
  unfold SMap.set
  split
  · rename_i h
    rw [SMap.get_filter d (fun i => i != k) m j]
    by_cases hj : j = k
    · subst hj; simp [h]
    · simp [hj]
  · exact SMap.get_insert d m k v j

/-- A read after a drop: an unlisted key at every key dropped. -/
theorem SMap.get_drop (p : Nat → Bool) (m : SMap α) (k : Nat) :
    SMap.get d (SMap.drop p m) k = if p k then d k else SMap.get d m k := by
  unfold SMap.drop
  rw [SMap.get_filter d (fun i => !p i) m k]
  cases p k <;> simp

end

/-! ### The canonical form -/

section
variable {α : Type} [DecidableEq α] (d : Nat → α)

theorem SMap.wf_iff (m : SMap α) :
    SMap.wf d m = true ↔ m.Pairwise (fun a b => a.1 < b.1) ∧ ∀ e ∈ m, e.2 ≠ d e.1 := by
  induction m with
  | nil => simp [SMap.wf]
  | cons e m ih =>
    obtain ⟨k, v⟩ := e
    cases m with
    | nil => simp [SMap.wf]
    | cons e' m' =>
      obtain ⟨k', v'⟩ := e'
      simp only [SMap.wf, Bool.and_eq_true, decide_eq_true_eq, ih, List.pairwise_cons, List.mem_cons,
        forall_eq_or_imp]
      constructor
      · rintro ⟨⟨hv, hk⟩, ⟨h1, h2⟩, h3, h4⟩
        exact ⟨⟨⟨hk, fun e he => Nat.lt_trans hk (h1 e he)⟩, h1, h2⟩, hv, h3, h4⟩
      · rintro ⟨⟨⟨hk, -⟩, h1, h2⟩, hv, h3, h4⟩
        exact ⟨⟨hv, hk⟩, ⟨h1, h2⟩, h3, h4⟩

theorem SMap.mem_insert {m : SMap α} {k : Nat} {v : α} {e : Nat × α} (h : e ∈ SMap.insert m k v) :
    e = (k, v) ∨ e ∈ m := by
  induction m with
  | nil => simpa [SMap.insert] using h
  | cons e' m ih =>
    obtain ⟨k', v'⟩ := e'
    simp only [SMap.insert] at h
    split at h
    · rcases List.mem_cons.mp h with h | h
      · simp [h]
      · rcases ih h with h | h <;> simp [h]
    · split at h <;> rcases List.mem_cons.mp h with h | h <;> simp_all

theorem SMap.pairwise_insert {m : SMap α} (h : m.Pairwise (fun a b => a.1 < b.1)) (k : Nat) (v : α) :
    (SMap.insert m k v).Pairwise (fun a b => a.1 < b.1) := by
  induction m with
  | nil => simp [SMap.insert]
  | cons e' m ih =>
    obtain ⟨k', v'⟩ := e'
    rw [List.pairwise_cons] at h
    simp only [SMap.insert]
    split
    · rename_i hk
      rw [List.pairwise_cons]
      refine ⟨fun e he => ?_, ih h.2⟩
      rcases SMap.mem_insert he with rfl | he
      · exact hk
      · exact h.1 e he
    · split
      · rename_i hk
        rw [List.pairwise_cons]
        exact ⟨fun e he => by have := h.1 e he; simp at this ⊢; omega, h.2⟩
      · rw [List.pairwise_cons, List.pairwise_cons]
        refine ⟨fun e he => ?_, h⟩
        rcases List.mem_cons.mp he with rfl | he
        · simp; omega
        · have := h.1 e he; simp at this ⊢; omega

/-- Taking entries out keeps the canonical form. -/
theorem SMap.wf_filter {m : SMap α} (h : SMap.wf d m = true) (p : Nat × α → Bool) :
    SMap.wf d (m.filter p) = true := by
  rw [SMap.wf_iff] at h ⊢
  exact ⟨h.1.filter p, fun e he => h.2 e (List.mem_filter.mp he).1⟩

/-- A write keeps the canonical form. -/
theorem SMap.wf_set {m : SMap α} (h : SMap.wf d m = true) (k : Nat) (v : α) : SMap.wf d (SMap.set d m k v) = true := by
  unfold SMap.set
  split
  · exact SMap.wf_filter d h _
  · rename_i hv
    rw [SMap.wf_iff] at h ⊢
    refine ⟨SMap.pairwise_insert h.1 k v, fun e he => ?_⟩
    rcases SMap.mem_insert he with rfl | he
    · exact hv
    · exact h.2 e he

/-- A drop keeps the canonical form. -/
theorem SMap.wf_drop {m : SMap α} (h : SMap.wf d m = true) (p : Nat → Bool) : SMap.wf d (SMap.drop p m) = true :=
  SMap.wf_filter d h _

/-- Changing values under their keys keeps the canonical form where no value becomes the unlisted one. -/
theorem SMap.wf_map {m : SMap α} (h : SMap.wf d m = true) (f : Nat × α → Nat × α) (hk : ∀ e, (f e).1 = e.1)
    (hv : ∀ e, e.2 ≠ d e.1 → (f e).2 ≠ d e.1) : SMap.wf d (m.map f) = true := by
  rw [SMap.wf_iff] at h ⊢
  refine ⟨List.pairwise_map.mpr (h.1.imp fun hab => by rw [hk, hk]; exact hab), fun e he => ?_⟩
  obtain ⟨x, hx, rfl⟩ := List.mem_map.mp he
  rw [hk]
  exact hv x (h.2 x hx)

/-- Changing values under their keys and taking out what then holds the unlisted value keeps the canonical form. -/
theorem SMap.wf_mapFilter {m : SMap α} (h : SMap.wf d m = true) (f : Nat × α → Nat × α) (p : Nat × α → Bool)
    (hk : ∀ e, (f e).1 = e.1) (hp : ∀ e, p e = true → e.2 ≠ d e.1) : SMap.wf d ((m.map f).filter p) = true := by
  rw [SMap.wf_iff] at h ⊢
  refine ⟨(List.pairwise_map.mpr (h.1.imp fun hab => by rw [hk, hk]; exact hab)).filter _, fun e he => ?_⟩
  exact hp e (List.mem_filter.mp he).2

/-- The empty store is canonical. -/
theorem SMap.wf_nil : SMap.wf d ([] : SMap α) = true := rfl

end

/-! ### Memories -/

theorem Memory.wf_write {m : Memory} (h : m.wf = true) (a : Nat) (b : Byte) : (m.write a b).wf = true :=
  SMap.wf_set blank h a b

theorem Memory.wf_writeBytes {m : Memory} (h : m.wf = true) (a : Nat) (bs : List Byte) :
    (m.writeBytes a bs).wf = true := by
  induction bs generalizing m a with
  | nil => exact h
  | cons b bs ih => exact ih (Memory.wf_write h a b) (a + 1)

theorem Memory.wf_writeLe {m : Memory} (h : m.wf = true) (a n v : Nat) : (m.writeLe a n v).wf = true :=
  Memory.wf_writeBytes h a _

theorem imemWrite_wf {m : SMap Byte} (h : SMap.wf unloaded m = true) (a : Nat) (bs : List Byte) :
    SMap.wf unloaded (imemWrite m a bs) = true := by
  induction bs generalizing m a with
  | nil => exact h
  | cons b bs ih => exact ih (SMap.wf_set unloaded h a b) (a + 1)

/-- A read after a write of one byte. -/
theorem Memory.read_write (m : Memory) (a : Nat) (b : Byte) (j : Nat) :
    (m.write a b).read j = if j = a then b else m.read j := SMap.get_set blank m a b j

/-- Bytes outside the range written stay. -/
theorem Memory.read_writeBytes_other {m : Memory} {a a' : Nat} {bs : List Byte} (h : a' < a ∨ a + bs.length ≤ a') :
    (m.writeBytes a bs).read a' = m.read a' := by
  induction bs generalizing m a with
  | nil => rfl
  | cons b bs ih =>
    simp only [Memory.writeBytes]
    rw [ih (by simp at h; omega), Memory.read_write, if_neg (by simp at h; omega)]

/-- A byte inside the range written is the byte written there. -/
theorem Memory.read_writeBytes_inside {m : Memory} {a : Nat} {bs : List Byte} {i : Nat} (h : i < bs.length) :
    (m.writeBytes a bs).read (a + i) = bs[i] := by
  induction bs generalizing m a i with
  | nil => simp at h
  | cons b bs ih =>
    cases i with
    | zero =>
      rw [Memory.writeBytes, Memory.read_writeBytes_other (by omega)]
      simp [Memory.read_write]
    | succ i =>
      have := @ih (m.write a b) (a + 1) i (by simpa using h)
      rw [Memory.writeBytes, show a + (i + 1) = a + 1 + i by omega, this]
      simp

end Sys2Proof.Machine
end

