-- ==== Sys2Proof/Laws/Keeps.lean ====
section
/-!
SUPPORT. What an operation may change.
-/
namespace Sys2Proof.Machine

/-- P survives a change of the pieces in the mask. -/
structure Keeps (mask : Nat) (P : State → Prop) : Prop where
  pending : mask.testBit 0 = true → ∀ s v, P s → P { s with pending := v }
  part : mask.testBit 1 = true → ∀ s v, P s → P { s with part := v }
  regs : mask.testBit 2 = true → ∀ s v, P s → (SMap.wf regReset s.regs = true → SMap.wf regReset v = true) → P { s with regs := v }
  latches : mask.testBit 3 = true → ∀ s v, P s → (SMap.wf (fun _ => 0) s.latches = true → SMap.wf (fun _ => 0) v = true) → P { s with latches := v }
  out : mask.testBit 4 = true → ∀ s v, P s → P { s with out := v }
  faultLog : mask.testBit 5 = true → ∀ s v, P s → P { s with faultLog := v }
  freeIdx : mask.testBit 6 = true → ∀ s v, P s → P { s with freeIdx := v }
  tm : mask.testBit 7 = true → ∀ s v, P s → P { s with tm := v }
  tmPorts : mask.testBit 8 = true → ∀ s v, P s → (SMap.wf (fun _ => {}) s.tmPorts = true → SMap.wf (fun _ => {}) v = true) → P { s with tmPorts := v }
  tpos : mask.testBit 9 = true → ∀ s v, P s → (SMap.wf (fun _ => {}) s.tpos = true → SMap.wf (fun _ => {}) v = true) → P { s with tpos := v }
  ppsStage : mask.testBit 10 = true → ∀ s v, P s → (SMap.wf (fun _ => 0) s.ppsStage = true → SMap.wf (fun _ => 0) v = true) → P { s with ppsStage := v }
  ic : mask.testBit 11 = true → ∀ s v, P s → P { s with ic := v }
  fen : mask.testBit 12 = true → ∀ s v, P s → P { s with fen := v }
  segStage : mask.testBit 13 = true → ∀ s v, P s → (SMap.wf (fun _ => 0) s.segStage = true → SMap.wf (fun _ => 0) v = true) → P { s with segStage := v }
  chains : mask.testBit 14 = true → ∀ s v, P s → (SMap.wf (fun _ => {}) s.chains = true → SMap.wf (fun _ => {}) v = true) → P { s with chains := v }
  sbufs : mask.testBit 15 = true → ∀ s v, P s → (SMap.wf (fun _ => {}) s.sbufs = true → SMap.wf (fun _ => {}) v = true) → P { s with sbufs := v }
  markers : mask.testBit 16 = true → ∀ s v, P s → (SMap.wf (fun _ => {}) s.markers = true → SMap.wf (fun _ => {}) v = true) → P { s with markers := v }
  filters : mask.testBit 17 = true → ∀ s v, P s → (SMap.wf (fun _ => {}) s.filters = true → SMap.wf (fun _ => {}) v = true) → P { s with filters := v }
  peat : mask.testBit 18 = true → ∀ s v, P s → (SMap.wf blank s.peat = true → SMap.wf blank v = true) → P { s with peat := v }
  dmem : mask.testBit 19 = true → ∀ s v, P s → (SMap.wf blank s.dmem = true → SMap.wf blank v = true) → P { s with dmem := v }
  imem : mask.testBit 20 = true → ∀ s v, P s → (SMap.wf unloaded s.imem = true → SMap.wf unloaded v = true) → P { s with imem := v }
  cores : mask.testBit 21 = true → ∀ s v, P s → (SMap.wf (fun _ => {}) s.cores = true → SMap.wf (fun _ => {}) v = true) → P { s with cores := v }
  armed : mask.testBit 22 = true → ∀ s v, P s → (SMap.wf (fun _ => []) s.armed = true → SMap.wf (fun _ => []) v = true) → P { s with armed := v }
  cw : mask.testBit 23 = true → ∀ s v, P s → (SMap.wf (fun _ => {}) s.cw = true → SMap.wf (fun _ => {}) v = true) → P { s with cw := v }
  esqTx : mask.testBit 24 = true → ∀ s v, P s → (SMap.wf (fun _ => 0) s.esqTx = true → SMap.wf (fun _ => 0) v = true) → P { s with esqTx := v }
  esqRx : mask.testBit 25 = true → ∀ s v, P s → (SMap.wf (fun _ => 0) s.esqRx = true → SMap.wf (fun _ => 0) v = true) → P { s with esqRx := v }
  sdg : mask.testBit 26 = true → ∀ s v, P s → P { s with sdg := v }
  tones : mask.testBit 27 = true → ∀ s v, P s → (SMap.wf (fun _ => {}) s.tones = true → SMap.wf (fun _ => {}) v = true) → P { s with tones := v }
  lines : mask.testBit 28 = true → ∀ s v, P s → (SMap.wf (fun _ => {}) s.lines = true → SMap.wf (fun _ => {}) v = true) → P { s with lines := v }
  weights : mask.testBit 29 = true → ∀ s v, P s → (SMap.wf (fun _ => 0) s.weights = true → SMap.wf (fun _ => 0) v = true) → P { s with weights := v }
  fifos : mask.testBit 30 = true → ∀ s v, P s → (SMap.wf (fun _ => []) s.fifos = true → SMap.wf (fun _ => []) v = true) → P { s with fifos := v }
  slu : mask.testBit 31 = true → ∀ s v, P s → (SMap.wf (fun _ => {}) s.slu = true → SMap.wf (fun _ => {}) v = true) → P { s with slu := v }
  dpw : mask.testBit 32 = true → ∀ s v, P s → P { s with dpw := v }
  runs : mask.testBit 33 = true → ∀ s v, P s → P { s with runs := v }
  sqs : mask.testBit 34 = true → ∀ s v, P s → (SMap.wf (fun _ => {}) s.sqs = true → SMap.wf (fun _ => {}) v = true) → P { s with sqs := v }
  cqs : mask.testBit 35 = true → ∀ s v, P s → (SMap.wf (fun _ => {}) s.cqs = true → SMap.wf (fun _ => {}) v = true) → P { s with cqs := v }
  parts : mask.testBit 36 = true → ∀ s v, P s → (SMap.wf (fun _ => {}) s.parts = true → SMap.wf (fun _ => {}) v = true) → P { s with parts := v }
  fetches : mask.testBit 37 = true → ∀ s v, P s → P { s with fetches := v }
  roEver : mask.testBit 38 = true → ∀ s v, P s → P { s with roEver := v }
  sec : mask.testBit 39 = true → ∀ s v, P s → P { s with sec := v }
  pm : mask.testBit 40 = true → ∀ s v, P s → P { s with pm := v }
  pages : mask.testBit 41 = true → ∀ s v, P s → (SMap.wf (fun _ => 0) s.pages = true → SMap.wf (fun _ => 0) v = true) → P { s with pages := v }
  snaps : mask.testBit 42 = true → ∀ s v, P s → (SMap.wf (fun _ => {}) s.snaps = true → SMap.wf (fun _ => {}) v = true) → P { s with snaps := v }
  jtag : mask.testBit 43 = true → ∀ s v, P s → P { s with jtag := v }
  spi : mask.testBit 44 = true → ∀ s v, P s → P { s with spi := v }

theorem Keeps.mono {a b : Nat} {P : State → Prop} (hP : Keeps a P) (h : a &&& b = b) : Keeps b P := by
  have hb : ∀ i, b.testBit i = true → a.testBit i = true := by
    intro i hi
    rw [← h, Nat.testBit_and] at hi
    exact (Bool.and_eq_true _ _ ▸ hi).1
  exact ⟨fun h => hP.pending (hb _ h),
    fun h => hP.part (hb _ h),
    fun h => hP.regs (hb _ h),
    fun h => hP.latches (hb _ h),
    fun h => hP.out (hb _ h),
    fun h => hP.faultLog (hb _ h),
    fun h => hP.freeIdx (hb _ h),
    fun h => hP.tm (hb _ h),
    fun h => hP.tmPorts (hb _ h),
    fun h => hP.tpos (hb _ h),
    fun h => hP.ppsStage (hb _ h),
    fun h => hP.ic (hb _ h),
    fun h => hP.fen (hb _ h),
    fun h => hP.segStage (hb _ h),
    fun h => hP.chains (hb _ h),
    fun h => hP.sbufs (hb _ h),
    fun h => hP.markers (hb _ h),
    fun h => hP.filters (hb _ h),
    fun h => hP.peat (hb _ h),
    fun h => hP.dmem (hb _ h),
    fun h => hP.imem (hb _ h),
    fun h => hP.cores (hb _ h),
    fun h => hP.armed (hb _ h),
    fun h => hP.cw (hb _ h),
    fun h => hP.esqTx (hb _ h),
    fun h => hP.esqRx (hb _ h),
    fun h => hP.sdg (hb _ h),
    fun h => hP.tones (hb _ h),
    fun h => hP.lines (hb _ h),
    fun h => hP.weights (hb _ h),
    fun h => hP.fifos (hb _ h),
    fun h => hP.slu (hb _ h),
    fun h => hP.dpw (hb _ h),
    fun h => hP.runs (hb _ h),
    fun h => hP.sqs (hb _ h),
    fun h => hP.cqs (hb _ h),
    fun h => hP.parts (hb _ h),
    fun h => hP.fetches (hb _ h),
    fun h => hP.roEver (hb _ h),
    fun h => hP.sec (hb _ h),
    fun h => hP.pm (hb _ h),
    fun h => hP.pages (hb _ h),
    fun h => hP.snaps (hb _ h),
    fun h => hP.jtag (hb _ h),
    fun h => hP.spi (hb _ h)⟩

theorem ite_keeps {P : State → Prop} {c : Prop} [Decidable c] {a b : State} (ha : P a) (hb : P b) :
    P (if c then a else b) := by
  split <;> assumption

theorem foldl_keeps {P : State → Prop} {α : Type} {f : State → α → State} {xs : List α} {s : State} (h : P s)
    (hf : ∀ t x, P t → P (f t x)) : P (xs.foldl f s) := by
  induction xs generalizing s with
  | nil => exact h
  | cons x xs ih => exact ih (hf s x h)

theorem foldl_fst_keeps {P : State → Prop} {α β : Type} {f : State × β → α → State × β} {xs : List α} {s : State × β}
    (h : P s.1) (hf : ∀ t x, P t.1 → P (f t x).1) : P (xs.foldl f s).1 := by
  induction xs generalizing s with
  | nil => exact h
  | cons x xs ih => exact ih (hf s x h)

/-- P holds of the state that an answer carries. -/
def KeepsOpt (P : State → Prop) (o : Option State) : Prop := ∀ t, o = some t → P t

theorem opt_keeps {P : State → Prop} {o : Option State} {t : State} (e : o = some t) (h : KeepsOpt P o) : P t := h t e

theorem none_keeps {P : State → Prop} : KeepsOpt P none := fun _ h => nomatch h

theorem some_keeps {P : State → Prop} {s : State} (h : P s) : KeepsOpt P (some s) := fun _ e => Option.some.inj e ▸ h

theorem orElse_keeps {P : State → Prop} {a b : Option State} (ha : KeepsOpt P a) (hb : KeepsOpt P b) :
    KeepsOpt P (a <|> b) := by
  cases a with
  | none => exact hb
  | some x => exact ha

theorem map_keeps {P : State → Prop} {α : Type} {f : α → State} {o : Option α} (h : ∀ a, P (f a)) :
    KeepsOpt P (o.map f) := by
  cases o with
  | none => exact none_keeps
  | some x => exact some_keeps (h x)

theorem getD_keeps {P : State → Prop} {o : Option State} {s : State} (ho : KeepsOpt P o) (h : P s) : P (o.getD s) := by
  cases o with
  | none => exact h
  | some x => exact ho x rfl

theorem fst_keeps {P : State → Prop} {α : Type} {x : State × α} {t : State} {a : α} (e : x = (t, a)) (h : P x.1) : P t := by
  rw [e] at h
  exact h

theorem snd_keeps {P : State → Prop} {α : Type} {x : α × State} {t : State} {a : α} (e : x = (a, t)) (h : P x.2) : P t := by
  rw [e] at h
  exact h

theorem forRange_keeps {P : State → Prop} {n : Nat} {f : Nat → State → State} {s : State} (h : P s)
    (hf : ∀ i t, P t → P (f i t)) : P (forRange n f s) := foldl_keeps h (fun t i ht => hf i t ht)

end Sys2Proof.Machine
end

