-- ==== Sys2Proof/Laws/Frame.lean ====
section
/-!
SUPPORT. The two properties that the lemmas on what an operation may change are used for: a frame, and the canonical form
of the stores.
-/
namespace Sys2Proof.Machine

/-- The mask of a list of pieces. -/
def pieceMask (l : List Piece) : Nat := l.foldl (fun m p => m ||| 2 ^ p.index) 0

theorem testBit_foldl_pieces (l : List Piece) (m i : Nat) :
    (l.foldl (fun m p => m ||| 2 ^ p.index) m).testBit i = (m.testBit i || l.any (fun p => p.index == i)) := by
  induction l generalizing m with
  | nil => simp
  | cons p l ih =>
    rw [List.foldl_cons, ih, Nat.testBit_or, Nat.testBit_two_pow]
    have e : decide (p.index = i) = (p.index == i) := by cases h : p.index == i <;> simp_all
    simp [Bool.or_assoc, e]

theorem Piece.index_inj {p q : Piece} (h : p.index = q.index) : p = q := by
  have e : ∀ r : Piece, Piece.ofNat r.index = r := fun r => by cases r <;> rfl
  rw [← e p, h, e q]

/-- The mask of a list has the bits of its pieces. -/
theorem mem_of_testBit_pieceMask {l : List Piece} {p : Piece} (h : (pieceMask l).testBit p.index = true) : p ∈ l := by
  rw [pieceMask, testBit_foldl_pieces, Nat.zero_testBit, Bool.false_or, List.any_eq_true] at h
  obtain ⟨q, hq, e⟩ := h
  exact Piece.index_inj (eq_of_beq e) ▸ hq

theorem State.Frame.refl (l : List Piece) (s : State) : State.Frame l s s := fun p _ => by cases p <;> rfl

theorem State.Frame.trans {l : List Piece} {s t u : State} (h : State.Frame l s t) (k : State.Frame l t u) :
    State.Frame l s u := fun p hp => by
  have h1 := h p hp
  have h2 := k p hp
  revert h1 h2
  cases p <;> exact fun h1 h2 => Eq.trans h2 h1

theorem State.Frame.mono {l m : List Piece} {s t : State} (h : State.Frame l s t) (hl : l ⊆ m) : State.Frame m s t :=
  fun p hp => h p fun hm => hp (hl hm)

/-- An update of the listed pieces keeps a frame. -/
theorem frame_keeps (l : List Piece) (s : State) : Keeps (pieceMask l) (State.Frame l s) := by
  constructor
  case pending =>
    intro hb t v h p hp
    have hm : Piece.pending ∈ l := mem_of_testBit_pieceMask hb
    have := h p hp
    cases p <;> first | exact this | exact absurd hm hp
  case part =>
    intro hb t v h p hp
    have hm : Piece.part ∈ l := mem_of_testBit_pieceMask hb
    have := h p hp
    cases p <;> first | exact this | exact absurd hm hp
  case regs =>
    intro hb t v h _ p hp
    have hm : Piece.regs ∈ l := mem_of_testBit_pieceMask hb
    have := h p hp
    cases p <;> first | exact this | exact absurd hm hp
  case latches =>
    intro hb t v h _ p hp
    have hm : Piece.latches ∈ l := mem_of_testBit_pieceMask hb
    have := h p hp
    cases p <;> first | exact this | exact absurd hm hp
  case out =>
    intro hb t v h p hp
    have hm : Piece.out ∈ l := mem_of_testBit_pieceMask hb
    have := h p hp
    cases p <;> first | exact this | exact absurd hm hp
  case faultLog =>
    intro hb t v h p hp
    have hm : Piece.faultLog ∈ l := mem_of_testBit_pieceMask hb
    have := h p hp
    cases p <;> first | exact this | exact absurd hm hp
  case freeIdx =>
    intro hb t v h p hp
    have hm : Piece.freeIdx ∈ l := mem_of_testBit_pieceMask hb
    have := h p hp
    cases p <;> first | exact this | exact absurd hm hp
  case tm =>
    intro hb t v h p hp
    have hm : Piece.tm ∈ l := mem_of_testBit_pieceMask hb
    have := h p hp
    cases p <;> first | exact this | exact absurd hm hp
  case tmPorts =>
    intro hb t v h _ p hp
    have hm : Piece.tmPorts ∈ l := mem_of_testBit_pieceMask hb
    have := h p hp
    cases p <;> first | exact this | exact absurd hm hp
  case tpos =>
    intro hb t v h _ p hp
    have hm : Piece.tpos ∈ l := mem_of_testBit_pieceMask hb
    have := h p hp
    cases p <;> first | exact this | exact absurd hm hp
  case ppsStage =>
    intro hb t v h _ p hp
    have hm : Piece.ppsStage ∈ l := mem_of_testBit_pieceMask hb
    have := h p hp
    cases p <;> first | exact this | exact absurd hm hp
  case ic =>
    intro hb t v h p hp
    have hm : Piece.ic ∈ l := mem_of_testBit_pieceMask hb
    have := h p hp
    cases p <;> first | exact this | exact absurd hm hp
  case fen =>
    intro hb t v h p hp
    have hm : Piece.fen ∈ l := mem_of_testBit_pieceMask hb
    have := h p hp
    cases p <;> first | exact this | exact absurd hm hp
  case segStage =>
    intro hb t v h _ p hp
    have hm : Piece.segStage ∈ l := mem_of_testBit_pieceMask hb
    have := h p hp
    cases p <;> first | exact this | exact absurd hm hp
  case chains =>
    intro hb t v h _ p hp
    have hm : Piece.chains ∈ l := mem_of_testBit_pieceMask hb
    have := h p hp
    cases p <;> first | exact this | exact absurd hm hp
  case sbufs =>
    intro hb t v h _ p hp
    have hm : Piece.sbufs ∈ l := mem_of_testBit_pieceMask hb
    have := h p hp
    cases p <;> first | exact this | exact absurd hm hp
  case markers =>
    intro hb t v h _ p hp
    have hm : Piece.markers ∈ l := mem_of_testBit_pieceMask hb
    have := h p hp
    cases p <;> first | exact this | exact absurd hm hp
  case filters =>
    intro hb t v h _ p hp
    have hm : Piece.filters ∈ l := mem_of_testBit_pieceMask hb
    have := h p hp
    cases p <;> first | exact this | exact absurd hm hp
  case peat =>
    intro hb t v h _ p hp
    have hm : Piece.peat ∈ l := mem_of_testBit_pieceMask hb
    have := h p hp
    cases p <;> first | exact this | exact absurd hm hp
  case dmem =>
    intro hb t v h _ p hp
    have hm : Piece.dmem ∈ l := mem_of_testBit_pieceMask hb
    have := h p hp
    cases p <;> first | exact this | exact absurd hm hp
  case imem =>
    intro hb t v h _ p hp
    have hm : Piece.imem ∈ l := mem_of_testBit_pieceMask hb
    have := h p hp
    cases p <;> first | exact this | exact absurd hm hp
  case cores =>
    intro hb t v h _ p hp
    have hm : Piece.cores ∈ l := mem_of_testBit_pieceMask hb
    have := h p hp
    cases p <;> first | exact this | exact absurd hm hp
  case armed =>
    intro hb t v h _ p hp
    have hm : Piece.armed ∈ l := mem_of_testBit_pieceMask hb
    have := h p hp
    cases p <;> first | exact this | exact absurd hm hp
  case cw =>
    intro hb t v h _ p hp
    have hm : Piece.cw ∈ l := mem_of_testBit_pieceMask hb
    have := h p hp
    cases p <;> first | exact this | exact absurd hm hp
  case esqTx =>
    intro hb t v h _ p hp
    have hm : Piece.esqTx ∈ l := mem_of_testBit_pieceMask hb
    have := h p hp
    cases p <;> first | exact this | exact absurd hm hp
  case esqRx =>
    intro hb t v h _ p hp
    have hm : Piece.esqRx ∈ l := mem_of_testBit_pieceMask hb
    have := h p hp
    cases p <;> first | exact this | exact absurd hm hp
  case sdg =>
    intro hb t v h p hp
    have hm : Piece.sdg ∈ l := mem_of_testBit_pieceMask hb
    have := h p hp
    cases p <;> first | exact this | exact absurd hm hp
  case tones =>
    intro hb t v h _ p hp
    have hm : Piece.tones ∈ l := mem_of_testBit_pieceMask hb
    have := h p hp
    cases p <;> first | exact this | exact absurd hm hp
  case lines =>
    intro hb t v h _ p hp
    have hm : Piece.lines ∈ l := mem_of_testBit_pieceMask hb
    have := h p hp
    cases p <;> first | exact this | exact absurd hm hp
  case weights =>
    intro hb t v h _ p hp
    have hm : Piece.weights ∈ l := mem_of_testBit_pieceMask hb
    have := h p hp
    cases p <;> first | exact this | exact absurd hm hp
  case fifos =>
    intro hb t v h _ p hp
    have hm : Piece.fifos ∈ l := mem_of_testBit_pieceMask hb
    have := h p hp
    cases p <;> first | exact this | exact absurd hm hp
  case slu =>
    intro hb t v h _ p hp
    have hm : Piece.slu ∈ l := mem_of_testBit_pieceMask hb
    have := h p hp
    cases p <;> first | exact this | exact absurd hm hp
  case dpw =>
    intro hb t v h p hp
    have hm : Piece.dpw ∈ l := mem_of_testBit_pieceMask hb
    have := h p hp
    cases p <;> first | exact this | exact absurd hm hp
  case runs =>
    intro hb t v h p hp
    have hm : Piece.runs ∈ l := mem_of_testBit_pieceMask hb
    have := h p hp
    cases p <;> first | exact this | exact absurd hm hp
  case sqs =>
    intro hb t v h _ p hp
    have hm : Piece.sqs ∈ l := mem_of_testBit_pieceMask hb
    have := h p hp
    cases p <;> first | exact this | exact absurd hm hp
  case cqs =>
    intro hb t v h _ p hp
    have hm : Piece.cqs ∈ l := mem_of_testBit_pieceMask hb
    have := h p hp
    cases p <;> first | exact this | exact absurd hm hp
  case parts =>
    intro hb t v h _ p hp
    have hm : Piece.parts ∈ l := mem_of_testBit_pieceMask hb
    have := h p hp
    cases p <;> first | exact this | exact absurd hm hp
  case fetches =>
    intro hb t v h p hp
    have hm : Piece.fetches ∈ l := mem_of_testBit_pieceMask hb
    have := h p hp
    cases p <;> first | exact this | exact absurd hm hp
  case roEver =>
    intro hb t v h p hp
    have hm : Piece.roEver ∈ l := mem_of_testBit_pieceMask hb
    have := h p hp
    cases p <;> first | exact this | exact absurd hm hp
  case sec =>
    intro hb t v h p hp
    have hm : Piece.sec ∈ l := mem_of_testBit_pieceMask hb
    have := h p hp
    cases p <;> first | exact this | exact absurd hm hp
  case pm =>
    intro hb t v h p hp
    have hm : Piece.pm ∈ l := mem_of_testBit_pieceMask hb
    have := h p hp
    cases p <;> first | exact this | exact absurd hm hp
  case pages =>
    intro hb t v h _ p hp
    have hm : Piece.pages ∈ l := mem_of_testBit_pieceMask hb
    have := h p hp
    cases p <;> first | exact this | exact absurd hm hp
  case snaps =>
    intro hb t v h _ p hp
    have hm : Piece.snaps ∈ l := mem_of_testBit_pieceMask hb
    have := h p hp
    cases p <;> first | exact this | exact absurd hm hp
  case jtag =>
    intro hb t v h p hp
    have hm : Piece.jtag ∈ l := mem_of_testBit_pieceMask hb
    have := h p hp
    cases p <;> first | exact this | exact absurd hm hp
  case spi =>
    intro hb t v h p hp
    have hm : Piece.spi ∈ l := mem_of_testBit_pieceMask hb
    have := h p hp
    cases p <;> first | exact this | exact absurd hm hp

/-- What keeps every property that survives changes of the listed pieces changes nothing else. -/
theorem frame_of_keeps (l : List Piece) {s t : State} (h : ∀ P : State → Prop, Keeps (pieceMask l) P → P s → P t) :
    State.Frame l s t := h _ (frame_keeps l s) (State.Frame.refl l s)

/-- The canonical form survives every change that keeps the form of the store changed. -/
theorem canonical_keeps (m : Nat) : Keeps m State.Canonical := by
  constructor
  case pending => exact fun _ s v h => { h with }
  case part => exact fun _ s v h => { h with }
  case regs => exact fun _ s v h hw => { h with regs := hw h.regs }
  case latches => exact fun _ s v h hw => { h with latches := hw h.latches }
  case out => exact fun _ s v h => { h with }
  case faultLog => exact fun _ s v h => { h with }
  case freeIdx => exact fun _ s v h => { h with }
  case tm => exact fun _ s v h => { h with }
  case tmPorts => exact fun _ s v h hw => { h with tmPorts := hw h.tmPorts }
  case tpos => exact fun _ s v h hw => { h with tpos := hw h.tpos }
  case ppsStage => exact fun _ s v h hw => { h with ppsStage := hw h.ppsStage }
  case ic => exact fun _ s v h => { h with }
  case fen => exact fun _ s v h => { h with }
  case segStage => exact fun _ s v h hw => { h with segStage := hw h.segStage }
  case chains => exact fun _ s v h hw => { h with chains := hw h.chains }
  case sbufs => exact fun _ s v h hw => { h with sbufs := hw h.sbufs }
  case markers => exact fun _ s v h hw => { h with markers := hw h.markers }
  case filters => exact fun _ s v h hw => { h with filters := hw h.filters }
  case peat => exact fun _ s v h hw => { h with peat := hw h.peat }
  case dmem => exact fun _ s v h hw => { h with dmem := hw h.dmem }
  case imem => exact fun _ s v h hw => { h with imem := hw h.imem }
  case cores => exact fun _ s v h hw => { h with cores := hw h.cores }
  case armed => exact fun _ s v h hw => { h with armed := hw h.armed }
  case cw => exact fun _ s v h hw => { h with cw := hw h.cw }
  case esqTx => exact fun _ s v h hw => { h with esqTx := hw h.esqTx }
  case esqRx => exact fun _ s v h hw => { h with esqRx := hw h.esqRx }
  case sdg => exact fun _ s v h => { h with }
  case tones => exact fun _ s v h hw => { h with tones := hw h.tones }
  case lines => exact fun _ s v h hw => { h with lines := hw h.lines }
  case weights => exact fun _ s v h hw => { h with weights := hw h.weights }
  case fifos => exact fun _ s v h hw => { h with fifos := hw h.fifos }
  case slu => exact fun _ s v h hw => { h with slu := hw h.slu }
  case dpw => exact fun _ s v h => { h with }
  case runs => exact fun _ s v h => { h with }
  case sqs => exact fun _ s v h hw => { h with sqs := hw h.sqs }
  case cqs => exact fun _ s v h hw => { h with cqs := hw h.cqs }
  case parts => exact fun _ s v h hw => { h with parts := hw h.parts }
  case fetches => exact fun _ s v h => { h with }
  case roEver => exact fun _ s v h => { h with }
  case sec => exact fun _ s v h => { h with }
  case pm => exact fun _ s v h => { h with }
  case pages => exact fun _ s v h hw => { h with pages := hw h.pages }
  case snaps => exact fun _ s v h hw => { h with snaps := hw h.snaps }
  case jtag => exact fun _ s v h => { h with }
  case spi => exact fun _ s v h => { h with }

end Sys2Proof.Machine
end

