-- ==== Sys2Proof/Laws/KeepsOps.lean ====
section
/-!
SUPPORT. What the operations of Machine/Ops.lean may change.
-/
namespace Sys2Proof.Machine

variable {P : State → Prop}

theorem State.setReg_keeps (hP : Keeps 0x4 P) {s : State} (h : P s)  {off : ℕ} {v : Word} :
    P (State.setReg s off v) := by
  unfold State.setReg
  repeat' first
    | with_reducible assumption
    | exact fun hw => SMap.wf_set _ hw _ _
    | with_reducible refine hP.regs (by decide) _ _ ?_ ?_

theorem State.setFld_keeps (hP : Keeps 0x4 P) {s : State} (h : P s)  {f : Fld} {v : ℕ} :
    P (State.setFld s f v) := by
  unfold State.setFld
  repeat' first
    | with_reducible assumption
    | with_reducible refine State.setReg_keeps (hP.mono (by decide)) ?_

theorem State.incWrap_keeps (hP : Keeps 0x4 P) {s : State} (h : P s)  {f : Fld} {n : optParam ℕ 1} :
    P (State.incWrap s f n) := by
  unfold State.incWrap
  repeat' first
    | with_reducible assumption
    | with_reducible refine State.setFld_keeps (hP.mono (by decide)) ?_

theorem State.emit_keeps (hP : Keeps 0x10 P) {s : State} (h : P s)  {o : Output} :
    P (State.emit s o) := by
  unfold State.emit
  repeat' first
    | with_reducible assumption
    | with_reducible refine hP.out (by decide) _ _ ?_

theorem State.setRegN_keeps (hP : Keeps 0x4 P) {s : State} (h : P s)  {off : ℕ} {v : ℕ} :
    P (State.setRegN s off v) := by
  unfold State.setRegN
  repeat' first
    | with_reducible assumption
    | with_reducible refine State.setReg_keeps (hP.mono (by decide)) ?_

theorem State.setRegBit_keeps (hP : Keeps 0x4 P) {s : State} (h : P s)  {off : ℕ} {i : ℕ} {b : Bool} :
    P (State.setRegBit s off i b) := by
  unfold State.setRegBit
  repeat' first
    | with_reducible assumption
    | with_reducible refine State.setRegN_keeps (hP.mono (by decide)) ?_

theorem State.icSend_keeps (hP : Keeps 0x814 P) {s : State} (h : P s)  {g : ℕ} {ix : ℕ} :
    P (State.icSend s g ix) := by
  unfold State.icSend
  extract_lets a0 a1 a2
  refine have k0 : P a0 := ?_; have k2 : P a2 := ?_; ?_
  all_goals clear_value a1
  repeat' first
    | with_reducible assumption
    | with_reducible refine State.incWrap_keeps (hP.mono (by decide)) ?_
    | with_reducible refine State.emit_keeps (hP.mono (by decide)) ?_
    | with_reducible refine State.setRegBit_keeps (hP.mono (by decide)) ?_
    | with_reducible refine ite_keeps ?_ ?_
    | with_reducible refine foldl_keeps ?_ ?_
    | intro _ _ _
    | intro _ _
    | split
    | extract_lets
    | unfold a0
    | unfold a2
    | with_reducible refine hP.ic (by decide) _ _ ?_

theorem State.icService_keeps (hP : Keeps 0x814 P) {s : State} (h : P s)  {g : ℕ} :
    P (State.icService s g) := by
  unfold State.icService
  repeat' first
    | with_reducible assumption
    | with_reducible refine State.icSend_keeps (hP.mono (by decide)) ?_
    | with_reducible refine ite_keeps ?_ ?_
    | with_reducible refine foldl_keeps ?_ ?_
    | intro _ _ _
    | intro _ _
    | split
    | extract_lets
    | with_reducible refine hP.ic (by decide) _ _ ?_

theorem State.icServiceAll_keeps (hP : Keeps 0x814 P) {s : State} (h : P s) :
    P (State.icServiceAll s) := by
  unfold State.icServiceAll
  repeat' first
    | with_reducible assumption
    | with_reducible refine State.icService_keeps (hP.mono (by decide)) ?_
    | with_reducible refine forRange_keeps ?_ ?_
    | intro _ _ _

theorem State.incSat_keeps (hP : Keeps 0x4 P) {s : State} (h : P s)  {f : Fld} {n : optParam ℕ 1} :
    P (State.incSat s f n) := by
  unfold State.incSat
  repeat' first
    | with_reducible assumption
    | with_reducible refine State.setFld_keeps (hP.mono (by decide)) ?_

theorem State.icPend_keeps (hP : Keeps 0x814 P) {s : State} (h : P s)  {src : ℕ} :
    P (State.icPend s src) := by
  unfold State.icPend
  extract_lets a0 a1
  refine have k0 : P a0 := ?_; have k1 : P a1 := ?_; ?_
  repeat' first
    | with_reducible assumption
    | with_reducible refine State.incSat_keeps (hP.mono (by decide)) ?_
    | with_reducible refine State.setRegBit_keeps (hP.mono (by decide)) ?_
    | with_reducible refine State.icService_keeps (hP.mono (by decide)) ?_
    | with_reducible refine ite_keeps ?_ ?_

theorem State.raise_keeps (hP : Keeps 0x20 P) {s : State} (h : P s)  {code : ℕ} :
    P (State.raise s code) := by
  unfold State.raise
  repeat' first
    | with_reducible assumption
    | with_reducible refine hP.faultLog (by decide) _ _ ?_

theorem State.setFlag_keeps (hP : Keeps 0x4 P) {s : State} (h : P s)  {f : Fld} {b : Bool} :
    P (State.setFlag s f b) := by
  unfold State.setFlag
  repeat' first
    | with_reducible assumption
    | with_reducible refine State.setFld_keeps (hP.mono (by decide)) ?_

theorem State.reportAccepted_keeps (hP : Keeps 0x4 P) {s : State} (h : P s)  {u : ℕ} :
    P (State.reportAccepted s u) := by
  unfold State.reportAccepted
  extract_lets a0 a1
  refine have k0 : P a0 := ?_; have k1 : P a1 := ?_; ?_
  repeat' first
    | with_reducible assumption
    | with_reducible refine State.setFlag_keeps (hP.mono (by decide)) ?_
    | with_reducible refine State.setFld_keeps (hP.mono (by decide)) ?_

theorem State.fire_keeps (hP : Keeps 0x1000 P) {s : State} (h : P s)  {src : ℕ} :
    P (State.fire s src) := by
  unfold State.fire
  extract_lets a0
  all_goals clear_value a0
  repeat' first
    | with_reducible assumption
    | with_reducible refine ite_keeps ?_ ?_
    | split
    | extract_lets
    | with_reducible refine hP.fen (by decide) _ _ ?_

theorem State.icLevel_keeps (hP : Keeps 0x814 P) {s : State} (h : P s)  {src : ℕ} {b : Bool} :
    P (State.icLevel s src b) := by
  unfold State.icLevel
  extract_lets a0 a1
  refine have k1 : P a1 := ?_; ?_
  all_goals clear_value a0
  repeat' first
    | with_reducible assumption
    | with_reducible refine State.setRegBit_keeps (hP.mono (by decide)) ?_
    | with_reducible refine State.icPend_keeps (hP.mono (by decide)) ?_
    | with_reducible refine ite_keeps ?_ ?_

theorem State.setMode_keeps (hP : Keeps 0x1814 P) {s : State} (h : P s)  {m : ℕ} :
    P (State.setMode s m) := by
  unfold State.setMode
  extract_lets a0 a1 a2 a3
  refine have k0 : P a0 := ?_; have k1 : P a1 := ?_; have k2 : P a2 := ?_; have k3 : P a3 := ?_; ?_
  repeat' first
    | with_reducible assumption
    | with_reducible refine State.setFld_keeps (hP.mono (by decide)) ?_
    | with_reducible refine State.fire_keeps (hP.mono (by decide)) ?_
    | with_reducible refine State.icPend_keeps (hP.mono (by decide)) ?_
    | with_reducible refine State.icLevel_keeps (hP.mono (by decide)) ?_

theorem State.mapRun_keeps (hP : Keeps 0x200000000 P) {s : State} (h : P s)  {n : ℕ} {f : Run → Run} :
    P (State.mapRun s n f) := by
  unfold State.mapRun
  repeat' first
    | with_reducible assumption
    | with_reducible refine ite_keeps ?_ ?_
    | split
    | with_reducible refine hP.runs (by decide) _ _ ?_

theorem State.runCommit_keeps (hP : Keeps 0x200000000 P) {s : State} (h : P s)  {core : ℕ} {t : ℕ} {trig : Bool} :
    P (State.runCommit s core t trig) := by
  unfold State.runCommit
  repeat' first
    | with_reducible assumption
    | with_reducible refine State.mapRun_keeps (hP.mono (by decide)) ?_

theorem State.runFault_keeps (hP : Keeps 0x200000000 P) {s : State} (h : P s)  {core : ℕ} {code : ℕ} :
    P (State.runFault s core code) := by
  unfold State.runFault
  repeat' first
    | with_reducible assumption
    | with_reducible refine State.mapRun_keeps (hP.mono (by decide)) ?_

theorem State.showRefusal_keeps (hP : Keeps 0x4 P) {s : State} (h : P s)  {u : ℕ} {reason : ℕ} {item : ℕ} :
    P (State.showRefusal s u reason item) := by
  unfold State.showRefusal
  extract_lets a0 a1 a2
  refine have k0 : P a0 := ?_; have k1 : P a1 := ?_; have k2 : P a2 := ?_; ?_
  repeat' first
    | with_reducible assumption
    | with_reducible refine State.setFlag_keeps (hP.mono (by decide)) ?_
    | with_reducible refine State.setFld_keeps (hP.mono (by decide)) ?_
    | with_reducible refine State.setRegBit_keeps (hP.mono (by decide)) ?_

theorem State.markShot_keeps (hP : Keeps 0x200000000 P) {s : State} (h : P s)  {n : ℕ} {code : ℕ} {at_ : ℕ} :
    P (State.markShot s n code at_) := by
  unfold State.markShot
  repeat' first
    | with_reducible assumption
    | with_reducible refine ite_keeps ?_ ?_
    | split
    | with_reducible refine hP.runs (by decide) _ _ ?_

theorem State.reportRefused_keeps (hP : Keeps 0x814 P) {s : State} (h : P s)  {u : ℕ} {reason : ℕ} {item : ℕ} :
    P (State.reportRefused s u reason item) := by
  unfold State.reportRefused
  repeat' first
    | with_reducible assumption
    | with_reducible refine State.icPend_keeps (hP.mono (by decide)) ?_
    | with_reducible refine State.showRefusal_keeps (hP.mono (by decide)) ?_

theorem State.runWindow_keeps (hP : Keeps 0x200000000 P) {s : State} (h : P s)  {n : ℕ} {k : ℕ} {tEnd : ℕ} :
    P (State.runWindow s n k tEnd) := by
  unfold State.runWindow
  repeat' first
    | with_reducible assumption
    | with_reducible refine State.mapRun_keeps (hP.mono (by decide)) ?_

theorem State.takeAct_keeps (hP : Keeps 0x1000 P) {s : State} (h : P s)  {task : ℕ} :
    P (State.takeAct s task) := by
  unfold State.takeAct
  extract_lets a0
  all_goals clear_value a0
  repeat' first
    | with_reducible assumption
    | split
    | extract_lets
    | with_reducible refine hP.fen (by decide) _ _ ?_

theorem State.setFldS_keeps (hP : Keeps 0x4 P) {s : State} (h : P s)  {f : Fld} {v : ℤ} :
    P (State.setFldS s f v) := by
  unfold State.setFldS
  repeat' first
    | with_reducible assumption
    | with_reducible refine State.setFld_keeps (hP.mono (by decide)) ?_

theorem State.setReg64_keeps (hP : Keeps 0x4 P) {s : State} (h : P s)  {offL : ℕ} {v : ℕ} :
    P (State.setReg64 s offL v) := by
  unfold State.setReg64
  repeat' first
    | with_reducible assumption
    | with_reducible refine State.setRegN_keeps (hP.mono (by decide)) ?_

theorem State.runLost_keeps (hP : Keeps 0x200000000 P) {s : State} (h : P s)  {n : ℕ} :
    P (State.runLost s n) := by
  unfold State.runLost
  repeat' first
    | with_reducible assumption
    | with_reducible refine State.mapRun_keeps (hP.mono (by decide)) ?_

theorem State.when_keeps (hP : Keeps 0x0 P) {s : State} (h : P s)  {c : Bool} {f : State → State} (hf : ∀ y0, P y0 → P (f y0)) :
    P (State.when s c f) := by
  unfold State.when
  repeat' first
    | with_reducible assumption
    | with_reducible refine hf _ ?_
    | with_reducible refine ite_keeps ?_ ?_

theorem State.draw_keeps (hP : Keeps 0x40 P) {s : State} (h : P s) :
    P (State.draw s) := by
  unfold State.draw
  repeat' first
    | with_reducible assumption
    | with_reducible refine hP.freeIdx (by decide) _ _ ?_

theorem State.resetRegs_keeps (hP : Keeps 0x4 P) {s : State} (h : P s)  {lo : ℕ} {hi : ℕ} :
    P (State.resetRegs s lo hi) := by
  unfold State.resetRegs
  repeat' first
    | with_reducible assumption
    | exact fun hw => SMap.wf_drop _ hw _
    | with_reducible refine hP.regs (by decide) _ _ ?_ ?_

theorem State.poolFault_keeps (hP : Keeps 0x200000834 P) {s : State} (h : P s)  {n : ℕ} {code : ℕ} {unit : ℕ} {index : ℕ} {partialAt : Option ℕ} :
    P (State.poolFault s n code unit index partialAt) := by
  unfold State.poolFault
  extract_lets a0 a1 a2 a3 a4 a5 a6
  refine have k0 : P a0 := ?_; have k1 : P a1 := ?_; have k2 : P a2 := ?_; have k3 : P a3 := ?_; have k4 : P a4 := ?_; have k5 : P a5 := ?_; have k6 : P a6 := ?_; ?_
  repeat' first
    | with_reducible assumption
    | with_reducible refine State.raise_keeps (hP.mono (by decide)) ?_
    | with_reducible refine State.setFld_keeps (hP.mono (by decide)) ?_
    | with_reducible refine State.setReg64_keeps (hP.mono (by decide)) ?_
    | with_reducible refine State.incSat_keeps (hP.mono (by decide)) ?_
    | with_reducible refine State.icPend_keeps (hP.mono (by decide)) ?_
    | with_reducible refine State.markShot_keeps (hP.mono (by decide)) ?_
    | with_reducible refine ite_keeps ?_ ?_
    | split
    | extract_lets
    | unfold a0
    | unfold a1
    | unfold a2
    | unfold a3
    | unfold a4
    | unfold a5
    | unfold a6

end Sys2Proof.Machine
end

