-- ==== Sys2Proof/Laws/KeepsAccess.lean ====
section
/-!
SUPPORT. What the operations of Machine/Access.lean may change.
-/
namespace Sys2Proof.Machine

variable {P : State → Prop}

theorem State.secLog_keeps (hP : Keeps 0x814 P) {s : State} (h : P s)  {p : Path} {off : ℕ} :
    P (State.secLog s p off) := by
  unfold State.secLog
  extract_lets a0 a1 a2
  refine have k0 : P a0 := ?_; have k1 : P a1 := ?_; have k2 : P a2 := ?_; ?_
  repeat' first
    | with_reducible assumption
    | with_reducible refine State.incSat_keeps (hP.mono (by decide)) ?_
    | with_reducible refine State.setFld_keeps (hP.mono (by decide)) ?_
    | with_reducible refine State.icPend_keeps (hP.mono (by decide)) ?_

theorem State.writeIgnored_keeps (hP : Keeps 0x814 P) {s : State} (h : P s)  {p : Path} {off : ℕ} :
    P (State.writeIgnored s p off) := by
  unfold State.writeIgnored
  extract_lets a0
  refine have k0 : P a0 := ?_; ?_
  repeat' first
    | with_reducible assumption
    | with_reducible refine State.secLog_keeps (hP.mono (by decide)) ?_
    | with_reducible refine State.incSat_keeps (hP.mono (by decide)) ?_
    | with_reducible refine ite_keeps ?_ ?_
    | split
    | extract_lets
    | unfold a0

theorem State.viaBus_keeps (hP : Keeps 0x814 P) {s : State} (h : P s)  {p : Path} {off : ℕ} {unit : State → State} (hunit : ∀ y0, P y0 → P (unit y0)) :
    P (State.viaBus s p off unit) := by
  unfold State.viaBus
  repeat' first
    | with_reducible assumption
    | with_reducible refine hunit _ ?_
    | with_reducible refine State.writeIgnored_keeps (hP.mono (by decide)) ?_
    | with_reducible refine ite_keeps ?_ ?_

theorem State.accessErr_keeps (hP : Keeps 0x4 P) {s : State} (h : P s)  {p : Path} {off : ℕ} :
    P (State.accessErr s p off) := by
  unfold State.accessErr
  extract_lets a0 a1
  refine have k0 : P a0 := ?_; have k1 : P a1 := ?_; ?_
  repeat' first
    | with_reducible assumption
    | with_reducible refine State.incSat_keeps (hP.mono (by decide)) ?_
    | with_reducible refine State.setFld_keeps (hP.mono (by decide)) ?_

end Sys2Proof.Machine
end

