-- ==== Sys2Proof/Laws/KeepsEngine.lean ====
section
/-!
SUPPORT. What the operations of Machine/Engine.lean may change.
-/
namespace Sys2Proof.Machine

variable {P : State → Prop}

theorem State.engFault_keeps (hP : Keeps 0x200000834 P) {s : State} (h : P s)  {n : ℕ} {e : ℕ} {k : EngFault} {at_ : ℕ} :
    P (State.engFault s n e k at_) := by
  unfold State.engFault
  extract_lets a0
  refine have k0 : P a0 := ?_; ?_
  repeat' first
    | with_reducible assumption
    | with_reducible refine State.poolFault_keeps (hP.mono (by decide)) ?_
    | with_reducible refine State.incSat_keeps (hP.mono (by decide)) ?_
    | with_reducible refine ite_keeps ?_ ?_

theorem State.setChain_keeps (hP : Keeps 0x4000 P) {s : State} (h : P s)  {n : ℕ} {e : ℕ} {c : Chain} :
    P (State.setChain s n e c) := by
  unfold State.setChain
  repeat' first
    | with_reducible assumption
    | exact fun hw => SMap.wf_set _ hw _ _
    | with_reducible refine hP.chains (by decide) _ _ ?_ ?_

theorem State.setFilter_keeps (hP : Keeps 0x20000 P) {s : State} (h : P s)  {n : ℕ} {f : ℕ} {v : Filter} :
    P (State.setFilter s n f v) := by
  unfold State.setFilter
  repeat' first
    | with_reducible assumption
    | exact fun hw => SMap.wf_set _ hw _ _
    | with_reducible refine hP.filters (by decide) _ _ ?_ ?_

theorem State.fluxSample_keeps (hP : Keeps 0x200020834 P) {s : State} (h : P s)  {n : ℕ} {f : ℕ} :
    P (State.fluxSample s n f) := by
  unfold State.fluxSample
  extract_lets a0 a1 a2
  all_goals clear_value a0 a1 a2
  repeat' first
    | with_reducible assumption
    | with_reducible refine State.setFilter_keeps (hP.mono (by decide)) ?_
    | with_reducible refine State.poolFault_keeps (hP.mono (by decide)) ?_
    | with_reducible refine State.incSat_keeps (hP.mono (by decide)) ?_
    | with_reducible refine ite_keeps ?_ ?_
    | with_reducible refine forRange_keeps ?_ ?_
    | intro _ _ _

theorem State.fluxAdvance_keeps (hP : Keeps 0x200020834 P) {s : State} (h : P s)  {n : ℕ} {f : ℕ} {t : ℕ} :
    P (State.fluxAdvance s n f t) := by
  unfold State.fluxAdvance
  extract_lets a0 a1
  all_goals clear_value a0 a1
  repeat' first
    | with_reducible assumption
    | with_reducible refine State.setFilter_keeps (hP.mono (by decide)) ?_
    | with_reducible refine State.fluxSample_keeps (hP.mono (by decide)) ?_
    | with_reducible refine ite_keeps ?_ ?_
    | with_reducible refine forRange_keeps ?_ ?_
    | intro _ _ _

theorem State.engSync_keeps (hP : Keeps 0x200020834 P) {s : State} (h : P s)  {n : ℕ} {e : ℕ} {t : ℕ} :
    P (State.engSync s n e t) := by
  unfold State.engSync
  repeat' first
    | with_reducible assumption
    | with_reducible refine State.fluxAdvance_keeps (hP.mono (by decide)) ?_
    | with_reducible refine ite_keeps ?_ ?_

theorem State.setSBuf_keeps (hP : Keeps 0x8000 P) {s : State} (h : P s)  {n : ℕ} {b : ℕ} {v : SBuf} :
    P (State.setSBuf s n b v) := by
  unfold State.setSBuf
  repeat' first
    | with_reducible assumption
    | exact fun hw => SMap.wf_set _ hw _ _
    | with_reducible refine hP.sbufs (by decide) _ _ ?_ ?_

theorem State.releaseBuf_keeps (hP : Keeps 0x8000 P) {s : State} (h : P s)  {n : ℕ} {e : ℕ} :
    P (State.releaseBuf s n e) := by
  unfold State.releaseBuf
  repeat' first
    | with_reducible assumption
    | with_reducible refine State.setSBuf_keeps (hP.mono (by decide)) ?_
    | with_reducible refine ite_keeps ?_ ?_
    | with_reducible refine forRange_keeps ?_ ?_
    | intro _ _ _

theorem State.chainEnd_keeps (hP : Keeps 0xc004 P) {s : State} (h : P s)  {n : ℕ} {e : ℕ} :
    P (State.chainEnd s n e) := by
  unfold State.chainEnd
  extract_lets a0 a1 a2
  refine have k1 : P a1 := ?_; have k2 : P a2 := ?_; ?_
  all_goals clear_value a0
  repeat' first
    | with_reducible assumption
    | with_reducible refine State.incSat_keeps (hP.mono (by decide)) ?_
    | with_reducible refine State.releaseBuf_keeps (hP.mono (by decide)) ?_
    | with_reducible refine State.setChain_keeps (hP.mono (by decide)) ?_
    | with_reducible refine ite_keeps ?_ ?_

theorem State.takeSample_keeps (hP : Keeps 0x20002c834 P) {s : State} (h : P s)  {n : ℕ} {e : ℕ} :
    P (State.takeSample s n e) := by
  unfold State.takeSample
  extract_lets a0 a1 a2 a3 a4 a5
  refine have k5 : P a5 := ?_; ?_
  all_goals clear_value a0 a1 a2 a3 a4
  repeat' first
    | with_reducible assumption
    | with_reducible refine State.setReg64_keeps (hP.mono (by decide)) ?_
    | with_reducible refine State.setChain_keeps (hP.mono (by decide)) ?_
    | with_reducible refine State.incSat_keeps (hP.mono (by decide)) ?_
    | with_reducible refine State.poolFault_keeps (hP.mono (by decide)) ?_
    | with_reducible refine State.engSync_keeps (hP.mono (by decide)) ?_
    | with_reducible refine State.chainEnd_keeps (hP.mono (by decide)) ?_
    | with_reducible refine ite_keeps ?_ ?_

theorem State.takeUpTo_keeps (hP : Keeps 0x20002c834 P) {s : State} (h : P s)  {n : ℕ} {e : ℕ} {k : ℕ} :
    P (State.takeUpTo s n e k) := by
  unfold State.takeUpTo
  extract_lets a0
  all_goals clear_value a0
  repeat' first
    | with_reducible assumption
    | with_reducible refine State.takeSample_keeps (hP.mono (by decide)) ?_
    | with_reducible refine ite_keeps ?_ ?_
    | with_reducible refine forRange_keeps ?_ ?_
    | intro _ _ _

theorem State.passBegin_keeps (hP : Keeps 0x20000c834 P) {s : State} (h : P s)  {n : ℕ} {e : ℕ} {entry : ℕ} {start : ℕ} {passNo : ℕ} :
    P (State.passBegin s n e entry start passNo) := by
  unfold State.passBegin
  extract_lets a0 a1 a2 a3 a4 a5 a6
  refine have k2 : P a2 := ?_; have k4 : P a4 := ?_; have k6 : P a6 := ?_; ?_
  all_goals clear_value a0 a1 a3 a5
  repeat' first
    | with_reducible assumption
    | with_reducible refine State.engFault_keeps (hP.mono (by decide)) ?_
    | with_reducible refine State.chainEnd_keeps (hP.mono (by decide)) ?_
    | with_reducible refine State.releaseBuf_keeps (hP.mono (by decide)) ?_
    | with_reducible refine State.setSBuf_keeps (hP.mono (by decide)) ?_
    | with_reducible refine State.setChain_keeps (hP.mono (by decide)) ?_
    | with_reducible refine ite_keeps ?_ ?_

theorem State.engJump_keeps (hP : Keeps 0x20002c834 P) {s : State} (h : P s)  {n : ℕ} {e : ℕ} {t : ℕ} {entry : ℕ} {cut : Bool} :
    P (State.engJump s n e t entry cut) := by
  unfold State.engJump
  extract_lets a0 a1 a2 a3 a4 a5 a6 a7 a8
  refine have k3 : P a3 := ?_; have k6 : P a6 := ?_; have k7 : P a7 := ?_; ?_
  all_goals clear_value a0 a1 a2 a4 a5 a8
  repeat' first
    | with_reducible assumption
    | with_reducible refine State.engFault_keeps (hP.mono (by decide)) ?_
    | with_reducible refine State.setChain_keeps (hP.mono (by decide)) ?_
    | with_reducible refine State.takeUpTo_keeps (hP.mono (by decide)) ?_
    | with_reducible refine State.passBegin_keeps (hP.mono (by decide)) ?_
    | with_reducible refine ite_keeps ?_ ?_

theorem State.disarm_keeps (hP : Keeps 0x400000 P) {s : State} (h : P s)  {n : ℕ} {tgt : ℕ → Bool} :
    P (State.disarm s n tgt) := by
  unfold State.disarm
  repeat' first
    | with_reducible assumption
    | exact fun hw => SMap.wf_drop _ hw _
    | with_reducible refine hP.armed (by decide) _ _ ?_ ?_

theorem State.fluxClear_keeps (hP : Keeps 0x20000 P) {s : State} (h : P s)  {n : ℕ} {f : ℕ} :
    P (State.fluxClear s n f) := by
  unfold State.fluxClear
  repeat' first
    | with_reducible assumption
    | with_reducible refine State.setFilter_keeps (hP.mono (by decide)) ?_

theorem State.sbRefuse_keeps (hP : Keeps 0x814 P) {s : State} (h : P s)  {n : ℕ} {b : ℕ} {r : ℕ} {item : ℕ} :
    P (State.sbRefuse s n b r item) := by
  unfold State.sbRefuse
  extract_lets a0 a1
  refine have k0 : P a0 := ?_; have k1 : P a1 := ?_; ?_
  repeat' first
    | with_reducible assumption
    | with_reducible refine State.setFlag_keeps (hP.mono (by decide)) ?_
    | with_reducible refine State.setFld_keeps (hP.mono (by decide)) ?_
    | with_reducible refine State.reportRefused_keeps (hP.mono (by decide)) ?_

theorem State.sbEnable_keeps (hP : Keeps 0x8814 P) {s : State} (h : P s)  {n : ℕ} {b : ℕ} :
    P (State.sbEnable s n b) := by
  unfold State.sbEnable
  extract_lets a0 a1 a2 a3 a4
  refine have k0 : P a0 := ?_; have k1 : P a1 := ?_; have k2 : P a2 := ?_; have k4 : P a4 := ?_; ?_
  all_goals clear_value a3
  repeat' first
    | with_reducible assumption
    | with_reducible refine State.sbRefuse_keeps (hP.mono (by decide)) ?_
    | with_reducible refine State.setFlag_keeps (hP.mono (by decide)) ?_
    | with_reducible refine State.setFld_keeps (hP.mono (by decide)) ?_
    | with_reducible refine State.reportAccepted_keeps (hP.mono (by decide)) ?_
    | with_reducible refine State.setSBuf_keeps (hP.mono (by decide)) ?_
    | with_reducible refine State.setReg64_keeps (hP.mono (by decide)) ?_
    | with_reducible refine ite_keeps ?_ ?_
    | split

theorem State.unitOutcome_keeps (hP : Keeps 0x814 P) {s : State} (h : P s)  {u : ℕ} {enabled : Fld} {refused : Fld} {reason : Fld} {item : Option Fld} {fails : List Failure} :
    P (State.unitOutcome s u enabled refused reason item fails) := by
  unfold State.unitOutcome
  extract_lets a0 a1 a2 a3
  refine have k0 : P a0 := ?_; have k1 : P a1 := ?_; have k2 : P a2 := ?_; have k3 : P a3 := ?_; ?_
  repeat' first
    | with_reducible assumption
    | with_reducible refine State.setFlag_keeps (hP.mono (by decide)) ?_
    | with_reducible refine State.setFld_keeps (hP.mono (by decide)) ?_
    | with_reducible refine State.reportRefused_keeps (hP.mono (by decide)) ?_
    | with_reducible refine State.reportAccepted_keeps (hP.mono (by decide)) ?_
    | split
    | extract_lets
    | unfold a0
    | unfold a1
    | unfold a2
    | unfold a3

theorem State.jumpRequest_keeps (hP : Keeps 0x4004 P) {s : State} (h : P s)  {n : ℕ} {k : ℕ} {target : ℕ} :
    P (State.jumpRequest s n k target) := by
  unfold State.jumpRequest
  extract_lets a0 a1 a2 a3
  refine have k1 : P a1 := ?_; have k3 : P a3 := ?_; ?_
  all_goals clear_value a0 a2
  repeat' first
    | with_reducible assumption
    | with_reducible refine State.incSat_keeps (hP.mono (by decide)) ?_
    | with_reducible refine State.setChain_keeps (hP.mono (by decide)) ?_
    | with_reducible refine ite_keeps ?_ ?_

theorem State.sbDisable_keeps (hP : Keeps 0x20002c834 P) {s : State} (h : P s)  {n : ℕ} {b : ℕ} :
    P (State.sbDisable s n b) := by
  unfold State.sbDisable
  extract_lets a0 a1 a2
  refine have k2 : P a2 := ?_; ?_
  all_goals clear_value a0 a1
  repeat' first
    | with_reducible assumption
    | with_reducible refine State.setSBuf_keeps (hP.mono (by decide)) ?_
    | with_reducible refine State.engSync_keeps (hP.mono (by decide)) ?_
    | with_reducible refine State.engFault_keeps (hP.mono (by decide)) ?_
    | with_reducible refine State.chainEnd_keeps (hP.mono (by decide)) ?_
    | split

theorem State.sbCtrlWrite_keeps (hP : Keeps 0x20002c834 P) {s : State} (h : P s)  {n : ℕ} {b : ℕ} {v : Word} :
    P (State.sbCtrlWrite s n b v) := by
  unfold State.sbCtrlWrite
  extract_lets a0 a1
  refine have k0 : P a0 := ?_; have k1 : P a1 := ?_; ?_
  repeat' first
    | with_reducible assumption
    | with_reducible refine State.setFld_keeps (hP.mono (by decide)) ?_
    | with_reducible refine State.setFlag_keeps (hP.mono (by decide)) ?_
    | with_reducible refine State.sbEnable_keeps (hP.mono (by decide)) ?_
    | with_reducible refine State.sbDisable_keeps (hP.mono (by decide)) ?_
    | with_reducible refine ite_keeps ?_ ?_

theorem State.setReg48_keeps (hP : Keeps 0x4 P) {s : State} (h : P s)  {offL : ℕ} {v : ℕ} :
    P (State.setReg48 s offL v) := by
  unfold State.setReg48
  repeat' first
    | with_reducible assumption
    | with_reducible refine State.setRegN_keeps (hP.mono (by decide)) ?_

theorem State.carrierFreq_keeps (hP : Keeps 0x200000834 P) {s : State} (h : P s)  {n : ℕ} {c : ℕ} {t : ℕ} {ftw : ℕ} {poff : Option ℕ} :
    P (State.carrierFreq s n c t ftw poff) := by
  unfold State.carrierFreq
  extract_lets a0 a1
  refine have k1 : P a1 := ?_; ?_
  all_goals clear_value a0
  repeat' first
    | with_reducible assumption
    | with_reducible refine State.poolFault_keeps (hP.mono (by decide)) ?_
    | with_reducible refine State.setReg48_keeps (hP.mono (by decide)) ?_
    | with_reducible refine ite_keeps ?_ ?_
    | split

theorem State.engPlay_keeps (hP : Keeps 0x20002c834 P) {s : State} (h : P s)  {n : ℕ} {e : ℕ} {t : ℕ} {entry : ℕ} :
    P (State.engPlay s n e t entry) := by
  unfold State.engPlay
  extract_lets a0 a1 a2 a3 a4
  refine have k1 : P a1 := ?_; have k2 : P a2 := ?_; have k3 : P a3 := ?_; ?_
  all_goals clear_value a0 a4
  repeat' first
    | with_reducible assumption
    | with_reducible refine State.takeUpTo_keeps (hP.mono (by decide)) ?_
    | with_reducible refine State.engSync_keeps (hP.mono (by decide)) ?_
    | with_reducible refine State.chainEnd_keeps (hP.mono (by decide)) ?_
    | with_reducible refine State.passBegin_keeps (hP.mono (by decide)) ?_
    | with_reducible refine State.setChain_keeps (hP.mono (by decide)) ?_
    | with_reducible refine ite_keeps ?_ ?_

theorem State.engFrame_keeps (hP : Keeps 0x4 P) {s : State} (h : P s)  {n : ℕ} {e : ℕ} {v : Word} {add : Bool} :
    P (State.engFrame s n e v add) := by
  unfold State.engFrame
  repeat' first
    | with_reducible assumption
    | with_reducible refine State.setReg_keeps (hP.mono (by decide)) ?_

theorem State.segCommit_keeps (hP : Keeps 0x814 P) {s : State} (h : P s)  {n : ℕ} {i : ℕ} {words : List Word} :
    P (State.segCommit s n i words) := by
  unfold State.segCommit
  extract_lets a0 a1 a2 a3 a4 a5 a6
  refine have k2 : P a2 := ?_; have k3 : P a3 := ?_; have k4 : P a4 := ?_; have k5 : P a5 := ?_; have k6 : P a6 := ?_; ?_
  all_goals clear_value a0 a1
  repeat' first
    | with_reducible assumption
    | with_reducible refine State.setReg_keeps (hP.mono (by decide)) ?_
    | with_reducible refine State.setFlag_keeps (hP.mono (by decide)) ?_
    | with_reducible refine State.setFld_keeps (hP.mono (by decide)) ?_
    | with_reducible refine State.reportRefused_keeps (hP.mono (by decide)) ?_
    | with_reducible refine State.reportAccepted_keeps (hP.mono (by decide)) ?_
    | with_reducible refine ite_keeps ?_ ?_
    | with_reducible refine forRange_keeps ?_ ?_
    | intro _ _ _
    | intro _ _
    | split

theorem State.setStaged_keeps (hP : Keeps 0x2000 P) {s : State} (h : P s)  {n : ℕ} {i : ℕ} {j : ℕ} {v : Word} :
    P (State.setStaged s n i j v) := by
  unfold State.setStaged
  repeat' first
    | with_reducible assumption
    | exact fun hw => SMap.wf_set _ hw _ _
    | with_reducible refine hP.segStage (by decide) _ _ ?_ ?_

theorem State.segWrite_keeps (hP : Keeps 0x2814 P) {s : State} (h : P s)  {n : ℕ} {i : ℕ} {j : ℕ} {v : Word} :
    P (State.segWrite s n i j v) := by
  unfold State.segWrite
  repeat' first
    | with_reducible assumption
    | with_reducible refine State.segCommit_keeps (hP.mono (by decide)) ?_
    | with_reducible refine State.setStaged_keeps (hP.mono (by decide)) ?_
    | with_reducible refine ite_keeps ?_ ?_

theorem State.endChains_keeps (hP : Keeps 0xc004 P) {s : State} (h : P s)  {n : ℕ} {lo : ℕ} {hi : ℕ} :
    P (State.endChains s n lo hi) := by
  unfold State.endChains
  repeat' first
    | with_reducible assumption
    | with_reducible refine State.chainEnd_keeps (hP.mono (by decide)) ?_
    | with_reducible refine forRange_keeps ?_ ?_
    | intro _ _ _

theorem State.sbCfgWrite_keeps (hP : Keeps 0x814 P) {s : State} (h : P s)  {n : ℕ} {b : ℕ} {v : Word} :
    P (State.sbCfgWrite s n b v) := by
  unfold State.sbCfgWrite
  repeat' first
    | with_reducible assumption
    | with_reducible refine State.sbRefuse_keeps (hP.mono (by decide)) ?_
    | with_reducible refine State.setReg_keeps (hP.mono (by decide)) ?_
    | with_reducible refine ite_keeps ?_ ?_

theorem State.toneFreq_keeps (hP : Keeps 0x200000834 P) {s : State} (h : P s)  {n : ℕ} {e : ℕ} {t : ℕ} {ftw : ℕ} {poff : Option ℕ} :
    P (State.toneFreq s n e t ftw poff) := by
  unfold State.toneFreq
  extract_lets a0
  refine have k0 : P a0 := ?_; ?_
  repeat' first
    | with_reducible assumption
    | with_reducible refine State.engFault_keeps (hP.mono (by decide)) ?_
    | with_reducible refine State.setReg48_keeps (hP.mono (by decide)) ?_
    | with_reducible refine ite_keeps ?_ ?_
    | split

theorem State.passEnd_keeps (hP : Keeps 0x20002c834 P) {s : State} (h : P s)  {n : ℕ} {e : ℕ} :
    P (State.passEnd s n e) := by
  unfold State.passEnd
  extract_lets a0 a1 a2 a3 a4 a5 a6 a7
  refine have k0 : P a0 := ?_; have k3 : P a3 := ?_; have k5 : ∀ u, P u → P (a5 u) := ?_; have k6 : P a6 := ?_; have k7 : ∀ u, P u → P (a7 u) := ?_; ?_
  all_goals clear_value a1 a2 a4
  repeat' first
    | with_reducible assumption
    | with_reducible refine k5 _ ?_
    | with_reducible refine k7 _ ?_
    | with_reducible refine State.takeUpTo_keeps (hP.mono (by decide)) ?_
    | with_reducible refine State.engSync_keeps (hP.mono (by decide)) ?_
    | with_reducible refine State.passBegin_keeps (hP.mono (by decide)) ?_
    | with_reducible refine State.chainEnd_keeps (hP.mono (by decide)) ?_
    | with_reducible refine State.incSat_keeps (hP.mono (by decide)) ?_
    | with_reducible refine State.setChain_keeps (hP.mono (by decide)) ?_
    | with_reducible refine ite_keeps ?_ ?_
    | intro _ _
    | split

theorem State.jumpCommitPoint_keeps (hP : Keeps 0x4000 P) {s : State} (h : P s)  {n : ℕ} {e : ℕ} :
    P (State.jumpCommitPoint s n e) := by
  unfold State.jumpCommitPoint
  extract_lets a0
  all_goals clear_value a0
  repeat' first
    | with_reducible assumption
    | with_reducible refine State.setChain_keeps (hP.mono (by decide)) ?_
    | with_reducible refine ite_keeps ?_ ?_

theorem State.engAmp_keeps (hP : Keeps 0x200020834 P) {s : State} (h : P s)  {n : ℕ} {e : ℕ} {t : ℕ} {v : ℕ} :
    P (State.engAmp s n e t v) := by
  unfold State.engAmp
  repeat' first
    | with_reducible assumption
    | with_reducible refine State.setFld_keeps (hP.mono (by decide)) ?_
    | with_reducible refine State.engSync_keeps (hP.mono (by decide)) ?_
    | with_reducible refine ite_keeps ?_ ?_

end Sys2Proof.Machine
end

