-- ==== Sys2Proof/Laws/KeepsDrive.lean ====
section
/-!
SUPPORT. What the operations of Machine/Drive.lean may change.
-/
namespace Sys2Proof.Machine

variable {P : State → Prop}

theorem State.drvClrCount_keeps (hP : Keeps 0x4 P) {s : State} (h : P s)  {n : ℕ} :
    P (State.drvClrCount s n) := by
  unfold State.drvClrCount
  repeat' first
    | with_reducible assumption
    | with_reducible refine State.setReg_keeps (hP.mono (by decide)) ?_
    | with_reducible refine forRange_keeps ?_ ?_
    | intro _ _ _

theorem State.drvEnable_keeps (hP : Keeps 0x814 P) {s : State} (h : P s)  {n : ℕ} :
    P (State.drvEnable s n) := by
  unfold State.drvEnable
  extract_lets a0
  refine have k0 : P a0 := ?_; ?_
  repeat' first
    | with_reducible assumption
    | with_reducible refine State.setFlag_keeps (hP.mono (by decide)) ?_
    | with_reducible refine State.unitOutcome_keeps (hP.mono (by decide)) ?_
    | with_reducible refine ite_keeps ?_ ?_

theorem State.setMarker_keeps (hP : Keeps 0x10000 P) {s : State} (h : P s)  {n : ℕ} {m : ℕ} {v : Marker} :
    P (State.setMarker s n m v) := by
  unfold State.setMarker
  repeat' first
    | with_reducible assumption
    | exact fun hw => SMap.wf_set _ hw _ _
    | with_reducible refine hP.markers (by decide) _ _ ?_ ?_

theorem State.clearMarkers_keeps (hP : Keeps 0x10000 P) {s : State} (h : P s)  {n : ℕ} :
    P (State.clearMarkers s n) := by
  unfold State.clearMarkers
  repeat' first
    | with_reducible assumption
    | with_reducible refine State.setMarker_keeps (hP.mono (by decide)) ?_
    | with_reducible refine forRange_keeps ?_ ?_
    | intro _ _ _

theorem State.drvDisable_keeps (hP : Keeps 0x41c004 P) {s : State} (h : P s)  {n : ℕ} :
    P (State.drvDisable s n) := by
  unfold State.drvDisable
  repeat' first
    | with_reducible assumption
    | with_reducible refine State.setFlag_keeps (hP.mono (by decide)) ?_
    | with_reducible refine State.clearMarkers_keeps (hP.mono (by decide)) ?_
    | with_reducible refine State.disarm_keeps (hP.mono (by decide)) ?_
    | with_reducible refine State.endChains_keeps (hP.mono (by decide)) ?_

theorem State.drvCtrlWrite_keeps (hP : Keeps 0x41c814 P) {s : State} (h : P s)  {n : ℕ} {v : Word} :
    P (State.drvCtrlWrite s n v) := by
  unfold State.drvCtrlWrite
  extract_lets a0
  refine have k0 : P a0 := ?_; ?_
  repeat' first
    | with_reducible assumption
    | with_reducible refine State.drvClrCount_keeps (hP.mono (by decide)) ?_
    | with_reducible refine State.drvEnable_keeps (hP.mono (by decide)) ?_
    | with_reducible refine State.drvDisable_keeps (hP.mono (by decide)) ?_
    | with_reducible refine ite_keeps ?_ ?_

theorem State.jumpReqTask_keeps (hP : Keeps 0x4004 P) {s : State} (h : P s)  {n : ℕ} {k : ℕ} :
    P (State.jumpReqTask s n k) := by
  unfold State.jumpReqTask
  repeat' first
    | with_reducible assumption
    | with_reducible refine State.jumpRequest_keeps (hP.mono (by decide)) ?_
    | with_reducible refine ite_keeps ?_ ?_

theorem State.markPulse_keeps (hP : Keeps 0x10000 P) {s : State} (h : P s)  {n : ℕ} {m : ℕ} :
    P (State.markPulse s n m) := by
  unfold State.markPulse
  extract_lets a0
  all_goals clear_value a0
  repeat' first
    | with_reducible assumption
    | with_reducible refine State.setMarker_keeps (hP.mono (by decide)) ?_
    | with_reducible refine ite_keeps ?_ ?_

theorem State.markCmd_keeps (hP : Keeps 0x10000 P) {s : State} (h : P s)  {n : ℕ} {m : ℕ} {at_ : ℕ} {act : ℕ} {width : ℕ} :
    P (State.markCmd s n m at_ act width) := by
  unfold State.markCmd
  extract_lets a0
  all_goals clear_value a0
  repeat' first
    | with_reducible assumption
    | with_reducible refine State.setMarker_keeps (hP.mono (by decide)) ?_
    | with_reducible refine ite_keeps ?_ ?_

theorem State.djCfgWrite_keeps (hP : Keeps 0x4004 P) {s : State} (h : P s)  {n : ℕ} {k : ℕ} {v : Word} :
    P (State.djCfgWrite s n k v) := by
  unfold State.djCfgWrite
  extract_lets a0 a1
  refine have k0 : P a0 := ?_; ?_
  all_goals clear_value a1
  repeat' first
    | with_reducible assumption
    | with_reducible refine State.setReg_keeps (hP.mono (by decide)) ?_
    | with_reducible refine State.setChain_keeps (hP.mono (by decide)) ?_

end Sys2Proof.Machine
end

