-- ==== Sys2Proof/Laws/KeepsIc.lean ====
section
/-!
SUPPORT. What the operations of Machine/Ic.lean may change.
-/
namespace Sys2Proof.Machine

variable {P : State → Prop}

theorem State.icMaskWrite_keeps (hP : Keeps 0x814 P) {s : State} (h : P s)  {w : ℕ} {v : Word} :
    P (State.icMaskWrite s w v) := by
  unfold State.icMaskWrite
  repeat' first
    | with_reducible assumption
    | with_reducible refine State.icServiceAll_keeps (hP.mono (by decide)) ?_
    | with_reducible refine State.setReg_keeps (hP.mono (by decide)) ?_

theorem State.icMaskAlias_keeps (hP : Keeps 0x814 P) {s : State} (h : P s)  {w : ℕ} {v : Word} {set : Bool} :
    P (State.icMaskAlias s w v set) := by
  unfold State.icMaskAlias
  repeat' first
    | with_reducible assumption
    | with_reducible refine State.icMaskWrite_keeps (hP.mono (by decide)) ?_
    | with_reducible refine ite_keeps ?_ ?_

theorem State.icSample_keeps (hP : Keeps 0x4 P) {s : State} (h : P s)  {of : ℕ → Bool} :
    P (State.icSample s of) := by
  unfold State.icSample
  repeat' first
    | with_reducible assumption
    | with_reducible refine State.setRegBit_keeps (hP.mono (by decide)) ?_
    | with_reducible refine ite_keeps ?_ ?_
    | with_reducible refine forRange_keeps ?_ ?_
    | intro _ _ _

theorem State.icEnable_keeps (hP : Keeps 0x814 P) {s : State} (h : P s) :
    P (State.icEnable s) := by
  unfold State.icEnable
  extract_lets a0 a1
  refine have k0 : P a0 := ?_; have k1 : P a1 := ?_; ?_
  repeat' first
    | with_reducible assumption
    | with_reducible refine State.setFlag_keeps (hP.mono (by decide)) ?_
    | with_reducible refine State.unitOutcome_keeps (hP.mono (by decide)) ?_
    | with_reducible refine State.icServiceAll_keeps (hP.mono (by decide)) ?_
    | with_reducible refine State.icSample_keeps (hP.mono (by decide)) ?_
    | with_reducible refine State.setReg_keeps (hP.mono (by decide)) ?_
    | with_reducible refine ite_keeps ?_ ?_
    | with_reducible refine forRange_keeps ?_ ?_
    | intro _ _ _

theorem State.icCfgWrite_keeps (hP : Keeps 0x814 P) {s : State} (h : P s)  {v : Word} :
    P (State.icCfgWrite s v) := by
  unfold State.icCfgWrite
  extract_lets a0 a1
  refine have k0 : P a0 := ?_; have k1 : P a1 := ?_; ?_
  repeat' first
    | with_reducible assumption
    | with_reducible refine State.setFld_keeps (hP.mono (by decide)) ?_
    | with_reducible refine State.setFlag_keeps (hP.mono (by decide)) ?_
    | with_reducible refine State.icEnable_keeps (hP.mono (by decide)) ?_
    | with_reducible refine ite_keeps ?_ ?_

theorem State.msixRelease_keeps (hP : Keeps 0x810 P) {s : State} (h : P s) :
    P (State.msixRelease s) := by
  unfold State.msixRelease
  repeat' first
    | with_reducible assumption
    | with_reducible refine State.emit_keeps (hP.mono (by decide)) ?_
    | with_reducible refine ite_keeps ?_ ?_
    | with_reducible refine forRange_keeps ?_ ?_
    | intro _ _ _
    | intro _ _
    | split
    | extract_lets
    | with_reducible refine hP.ic (by decide) _ _ ?_

theorem State.holdoffExpiry_keeps (hP : Keeps 0x814 P) {s : State} (h : P s)  {g : ℕ} :
    P (State.holdoffExpiry s g) := by
  unfold State.holdoffExpiry
  extract_lets a0
  all_goals clear_value a0
  repeat' first
    | with_reducible assumption
    | with_reducible refine State.icService_keeps (hP.mono (by decide)) ?_
    | extract_lets
    | with_reducible refine hP.ic (by decide) _ _ ?_

theorem State.icReset_keeps (hP : Keeps 0x804 P) {s : State} (h : P s) :
    P (State.icReset s) := by
  unfold State.icReset
  extract_lets a0
  all_goals clear_value a0
  repeat' first
    | with_reducible assumption
    | with_reducible refine State.resetRegs_keeps (hP.mono (by decide)) ?_
    | extract_lets
    | with_reducible refine hP.ic (by decide) _ _ ?_

theorem State.icEoi_keeps (hP : Keeps 0x814 P) {s : State} (h : P s)  {v : Word} :
    P (State.icEoi s v) := by
  unfold State.icEoi
  extract_lets a0
  all_goals clear_value a0
  repeat' first
    | with_reducible assumption
    | with_reducible refine State.icServiceAll_keeps (hP.mono (by decide)) ?_
    | with_reducible refine State.setRegBit_keeps (hP.mono (by decide)) ?_
    | with_reducible refine State.icSample_keeps (hP.mono (by decide)) ?_
    | with_reducible refine ite_keeps ?_ ?_

theorem State.icGateWrite_keeps (hP : Keeps 0x814 P) {s : State} (h : P s)  {v : Word} :
    P (State.icGateWrite s v) := by
  unfold State.icGateWrite
  repeat' first
    | with_reducible assumption
    | with_reducible refine State.icServiceAll_keeps (hP.mono (by decide)) ?_
    | with_reducible refine State.setFlag_keeps (hP.mono (by decide)) ?_
    | with_reducible refine ite_keeps ?_ ?_

theorem State.icPendWrite_keeps (hP : Keeps 0x814 P) {s : State} (h : P s)  {w : ℕ} {v : Word} :
    P (State.icPendWrite s w v) := by
  unfold State.icPendWrite
  repeat' first
    | with_reducible assumption
    | with_reducible refine State.setReg_keeps (hP.mono (by decide)) ?_
    | with_reducible refine State.icServiceAll_keeps (hP.mono (by decide)) ?_
    | with_reducible refine State.setRegN_keeps (hP.mono (by decide)) ?_
    | with_reducible refine ite_keeps ?_ ?_

theorem State.msixWrite_keeps (hP : Keeps 0x810 P) {s : State} (h : P s)  {x1 : MsixWrite} :
    P (State.msixWrite s x1) := by
  unfold State.msixWrite
  extract_lets a0
  all_goals clear_value a0
  repeat' first
    | with_reducible assumption
    | with_reducible refine State.msixRelease_keeps (hP.mono (by decide)) ?_
    | split
    | extract_lets
    | with_reducible refine hP.ic (by decide) _ _ ?_

end Sys2Proof.Machine
end

