-- ==== Sys2Proof/Laws/KeepsLink.lean ====
section
/-!
SUPPORT. What the operations of Machine/Link.lean may change.
-/
namespace Sys2Proof.Machine

variable {P : State → Prop}

theorem State.cwFault_keeps (hP : Keeps 0x834 P) {s : State} (h : P s)  {code : ℕ} :
    P (State.cwFault s code) := by
  unfold State.cwFault
  repeat' first
    | with_reducible assumption
    | with_reducible refine State.icPend_keeps (hP.mono (by decide)) ?_
    | with_reducible refine State.raise_keeps (hP.mono (by decide)) ?_
    | split

theorem State.c0Drop_keeps (hP : Keeps 0x834 P) {s : State} (h : P s)  {p : ℕ} :
    P (State.c0Drop s p) := by
  unfold State.c0Drop
  repeat' first
    | with_reducible assumption
    | with_reducible refine State.cwFault_keeps (hP.mono (by decide)) ?_
    | with_reducible refine State.incSat_keeps (hP.mono (by decide)) ?_

theorem State.setCwPort_keeps (hP : Keeps 0x800000 P) {s : State} (h : P s)  {p : ℕ} {v : CwPort} :
    P (State.setCwPort s p v) := by
  unfold State.setCwPort
  repeat' first
    | with_reducible assumption
    | exact fun hw => SMap.wf_set _ hw _ _
    | with_reducible refine hP.cw (by decide) _ _ ?_ ?_

theorem State.sendOne_keeps (hP : Keeps 0x800010 P) {s : State} (h : P s)  {p : ℕ} :
    P (State.sendOne s p) := by
  unfold State.sendOne
  extract_lets a0
  all_goals clear_value a0
  repeat' first
    | with_reducible assumption
    | with_reducible refine State.emit_keeps (hP.mono (by decide)) ?_
    | with_reducible refine State.setCwPort_keeps (hP.mono (by decide)) ?_
    | with_reducible refine ite_keeps ?_ ?_
    | split

theorem State.pump_keeps (hP : Keeps 0x800010 P) {s : State} (h : P s)  {p : ℕ} :
    P (State.pump s p) := by
  unfold State.pump
  repeat' first
    | with_reducible assumption
    | with_reducible refine State.sendOne_keeps (hP.mono (by decide)) ?_
    | with_reducible refine ite_keeps ?_ ?_
    | with_reducible refine forRange_keeps ?_ ?_
    | intro _ _ _

theorem State.flitLost_keeps (hP : Keeps 0x4 P) {s : State} (h : P s)  {p : ℕ} :
    P (State.flitLost s p) := by
  unfold State.flitLost
  repeat' first
    | with_reducible assumption
    | with_reducible refine State.incSat_keeps (hP.mono (by decide)) ?_

theorem State.queueFlit_keeps (hP : Keeps 0x800014 P) {s : State} (h : P s)  {p : ℕ} {f : Flit} :
    P (State.queueFlit s p f) := by
  unfold State.queueFlit
  extract_lets a0
  all_goals clear_value a0
  repeat' first
    | with_reducible assumption
    | with_reducible refine State.pump_keeps (hP.mono (by decide)) ?_
    | with_reducible refine State.setCwPort_keeps (hP.mono (by decide)) ?_
    | with_reducible refine State.flitLost_keeps (hP.mono (by decide)) ?_
    | with_reducible refine ite_keeps ?_ ?_

theorem State.sendRouted_keeps (hP : Keeps 0x800014 P) {s : State} (h : P s)  {f : Flit} {fromDim : Option ℕ} :
    P (State.sendRouted s f fromDim) := by
  unfold State.sendRouted
  repeat' first
    | with_reducible assumption
    | with_reducible refine State.queueFlit_keeps (hP.mono (by decide)) ?_
    | with_reducible refine State.flitLost_keeps (hP.mono (by decide)) ?_
    | with_reducible refine ite_keeps ?_ ?_
    | split

theorem State.sendPacket_keeps (hP : Keeps 0x800014 P) {s : State} (h : P s)  {cl : ℕ} {kind : ℕ} {dest : ℕ} {payload : BitVec 192} :
    P (State.sendPacket s cl kind dest payload) := by
  unfold State.sendPacket
  repeat' first
    | with_reducible assumption
    | with_reducible refine State.sendRouted_keeps (hP.mono (by decide)) ?_

theorem State.takeToken_keeps (hP : Keeps 0x4 P) {s : State} (h : P s)  {p : ℕ} :
    KeepsOpt P ((State.takeToken s p)) := by
  unfold State.takeToken
  extract_lets a0
  all_goals clear_value a0
  repeat' first
    | with_reducible assumption
    | with_reducible refine State.setFld_keeps (hP.mono (by decide)) ?_
    | with_reducible exact none_keeps
    | with_reducible refine some_keeps ?_
    | with_reducible refine orElse_keeps ?_ ?_
    | with_reducible refine map_keeps (fun _ => ?_)
    | with_reducible refine getD_keeps ?_ ?_
    | with_reducible refine one_keeps ?_
    | with_reducible refine ite_keeps ?_ ?_
    | split

theorem State.polWait_keeps (hP : Keeps 0x800834 P) {s : State} (h : P s)  {p : ℕ} :
    P (State.polWait s p) := by
  unfold State.polWait
  extract_lets a0 a1 a2
  refine have k0 : P a0 := ?_; ?_
  all_goals clear_value a1 a2
  repeat' first
    | with_reducible assumption
    | with_reducible refine State.incSat_keeps (hP.mono (by decide)) ?_
    | with_reducible refine State.cwFault_keeps (hP.mono (by decide)) ?_
    | with_reducible refine State.setCwPort_keeps (hP.mono (by decide)) ?_
    | with_reducible refine ite_keeps ?_ ?_

theorem State.sendTimeFlit_keeps (hP : Keeps 0x800834 P) {s : State} (h : P s)  {p : ℕ} {b : BitVec 256} :
    P (State.sendTimeFlit s p b) := by
  unfold State.sendTimeFlit
  extract_lets a0
  all_goals clear_value a0
  repeat' first
    | with_reducible assumption
    | with_reducible refine State.takeToken_keeps (hP.mono (by decide)) ?_
    | with_reducible refine State.emit_keeps (hP.mono (by decide)) ?_
    | with_reducible refine State.polWait_keeps (hP.mono (by decide)) ?_
    | with_reducible refine State.setCwPort_keeps (hP.mono (by decide)) ?_
    | with_reducible refine opt_keeps (by with_reducible assumption) ?_
    | with_reducible exact none_keeps
    | with_reducible refine some_keeps ?_
    | with_reducible refine orElse_keeps ?_ ?_
    | with_reducible refine map_keeps (fun _ => ?_)
    | with_reducible refine getD_keeps ?_ ?_
    | with_reducible refine one_keeps ?_
    | split

theorem State.nextEseq_keeps (hP : Keeps 0x1000000 P) {s : State} (h : P s)  {dest : ℕ} :
    P ((State.nextEseq s dest).2) := by
  unfold State.nextEseq
  extract_lets a0
  all_goals clear_value a0
  repeat' first
    | with_reducible assumption
    | exact fun hw => SMap.wf_set _ hw _ _
    | extract_lets
    | with_reducible refine hP.esqTx (by decide) _ _ ?_ ?_

theorem State.sendC0_keeps (hP : Keeps 0x1800834 P) {s : State} (h : P s)  {p : ℕ} {which : C0Entry → Bool} :
    P (State.sendC0 s p which) := by
  unfold State.sendC0
  extract_lets a0
  all_goals clear_value a0
  repeat' first
    | with_reducible assumption
    | with_reducible refine State.takeToken_keeps (hP.mono (by decide)) ?_
    | with_reducible refine State.polWait_keeps (hP.mono (by decide)) ?_
    | with_reducible refine State.setCwPort_keeps (hP.mono (by decide)) ?_
    | with_reducible refine State.nextEseq_keeps (hP.mono (by decide)) ?_
    | with_reducible refine State.emit_keeps (hP.mono (by decide)) ?_
    | with_reducible refine opt_keeps (by with_reducible assumption) ?_
    | with_reducible refine snd_keeps (by with_reducible assumption) ?_
    | with_reducible exact none_keeps
    | with_reducible refine some_keeps ?_
    | with_reducible refine orElse_keeps ?_ ?_
    | with_reducible refine map_keeps (fun _ => ?_)
    | with_reducible refine getD_keeps ?_ ?_
    | with_reducible refine one_keeps ?_
    | with_reducible refine ite_keeps ?_ ?_
    | split

theorem State.pumpC0_keeps (hP : Keeps 0x1800834 P) {s : State} (h : P s)  {p : ℕ} :
    P (State.pumpC0 s p) := by
  unfold State.pumpC0
  extract_lets a0 a1 a2 a3 a4
  refine have k1 : P a1 := ?_; have k3 : P a3 := ?_; ?_
  all_goals clear_value a0 a2 a4
  repeat' first
    | with_reducible assumption
    | with_reducible refine State.sendC0_keeps (hP.mono (by decide)) ?_
    | with_reducible refine State.takeToken_keeps (hP.mono (by decide)) ?_
    | with_reducible refine State.emit_keeps (hP.mono (by decide)) ?_
    | with_reducible refine State.setCwPort_keeps (hP.mono (by decide)) ?_
    | with_reducible refine opt_keeps (by with_reducible assumption) ?_
    | with_reducible exact none_keeps
    | with_reducible refine some_keeps ?_
    | with_reducible refine orElse_keeps ?_ ?_
    | with_reducible refine map_keeps (fun _ => ?_)
    | with_reducible refine getD_keeps ?_ ?_
    | with_reducible refine one_keeps ?_
    | with_reducible refine ite_keeps ?_ ?_
    | with_reducible refine forRange_keeps ?_ ?_
    | intro _ _ _
    | intro _ _
    | split
    | extract_lets
    | unfold a1
    | unfold a3

theorem State.queueC0_keeps (hP : Keeps 0x1800834 P) {s : State} (h : P s)  {p : ℕ} {e : C0Entry} :
    P (State.queueC0 s p e) := by
  unfold State.queueC0
  extract_lets a0 a1
  all_goals clear_value a0 a1
  repeat' first
    | with_reducible assumption
    | with_reducible refine State.c0Drop_keeps (hP.mono (by decide)) ?_
    | with_reducible refine State.pumpC0_keeps (hP.mono (by decide)) ?_
    | with_reducible refine State.setCwPort_keeps (hP.mono (by decide)) ?_
    | with_reducible refine ite_keeps ?_ ?_

theorem State.sendSedge0_keeps (hP : Keeps 0x1800834 P) {s : State} (h : P s)  {dest : ℕ} {payload : BitVec 192} :
    P (State.sendSedge0 s dest payload) := by
  unfold State.sendSedge0
  repeat' first
    | with_reducible assumption
    | with_reducible refine State.nextEseq_keeps (hP.mono (by decide)) ?_
    | with_reducible refine State.queueC0_keeps (hP.mono (by decide)) ?_
    | with_reducible refine State.cwFault_keeps (hP.mono (by decide)) ?_
    | with_reducible refine snd_keeps (by with_reducible assumption) ?_
    | split

theorem State.sendDecision_keeps (hP : Keeps 0x1800834 P) {s : State} (h : P s)  {p : ℕ} :
    P (State.sendDecision s p) := by
  unfold State.sendDecision
  repeat' first
    | with_reducible assumption
    | with_reducible refine State.sendC0_keeps (hP.mono (by decide)) ?_
    | with_reducible refine ite_keeps ?_ ?_

theorem State.retryReset_keeps (hP : Keeps 0x800834 P) {s : State} (h : P s)  {p : ℕ} :
    P (State.retryReset s p) := by
  unfold State.retryReset
  extract_lets a0 a1 a2
  refine have k2 : P a2 := ?_; ?_
  all_goals clear_value a0 a1
  repeat' first
    | with_reducible assumption
    | with_reducible refine State.setCwPort_keeps (hP.mono (by decide)) ?_
    | with_reducible refine State.cwFault_keeps (hP.mono (by decide)) ?_
    | with_reducible refine State.incSat_keeps (hP.mono (by decide)) ?_
    | with_reducible refine ite_keeps ?_ ?_

end Sys2Proof.Machine
end

