-- ==== Sys2Proof/Laws/KeepsSedge.lean ====
section
/-!
SUPPORT. What the operations of Machine/Sedge.lean may change.
-/
namespace Sys2Proof.Machine

variable {P : State → Prop}

theorem State.setSdg_keeps (hP : Keeps 0x4000000 P) {s : State} (h : P s)  {g : SdgState} :
    P (State.setSdg s g) := by
  unfold State.setSdg
  repeat' first
    | with_reducible assumption
    | with_reducible refine hP.sdg (by decide) _ _ ?_

theorem State.sdgFlushed_keeps (hP : Keeps 0x4000004 P) {s : State} (h : P s) :
    P (State.sdgFlushed s) := by
  unfold State.sdgFlushed
  extract_lets a0
  all_goals clear_value a0
  repeat' first
    | with_reducible assumption
    | with_reducible refine State.setFld_keeps (hP.mono (by decide)) ?_
    | with_reducible refine State.setSdg_keeps (hP.mono (by decide)) ?_

theorem State.compareSeam_keeps (hP : Keeps 0x4 P) {s : State} (h : P s)  {k : ℕ} {mine : List (ℕ × ℕ)} {theirs : List (ℕ × ℕ)} :
    P (State.compareSeam s k mine theirs) := by
  unfold State.compareSeam
  repeat' first
    | with_reducible assumption
    | with_reducible refine State.incSat_keeps (hP.mono (by decide)) ?_

theorem State.matchSeam_keeps (hP : Keeps 0x4000004 P) {s : State} (h : P s)  {k : ℕ} {round : ℕ} :
    P (State.matchSeam s k round) := by
  unfold State.matchSeam
  repeat' first
    | with_reducible assumption
    | with_reducible refine State.compareSeam_keeps (hP.mono (by decide)) ?_
    | with_reducible refine State.setSdg_keeps (hP.mono (by decide)) ?_
    | split

theorem State.sdgFault_keeps (hP : Keeps 0x834 P) {s : State} (h : P s)  {code : ℕ} :
    P (State.sdgFault s code) := by
  unfold State.sdgFault
  extract_lets a0
  refine have k0 : P a0 := ?_; ?_
  repeat' first
    | with_reducible assumption
    | with_reducible refine State.raise_keeps (hP.mono (by decide)) ?_
    | with_reducible refine State.icPend_keeps (hP.mono (by decide)) ?_
    | with_reducible refine ite_keeps ?_ ?_

theorem State.sdgLogSet_keeps (hP : Keeps 0x4 P) {s : State} (h : P s)  {r : ℕ} {f : ℕ → Fld} :
    P (State.sdgLogSet s r f) := by
  unfold State.sdgLogSet
  repeat' first
    | with_reducible assumption
    | with_reducible refine State.setFlag_keeps (hP.mono (by decide)) ?_
    | with_reducible refine ite_keeps ?_ ?_

theorem State.boundaryTimeout_keeps (hP : Keeps 0x4000834 P) {s : State} (h : P s)  {k : ℕ} {r : ℕ} :
    P (State.boundaryTimeout s k r) := by
  unfold State.boundaryTimeout
  extract_lets a0 a1 a2 a3
  refine have k2 : P a2 := ?_; have k3 : P a3 := ?_; ?_
  all_goals clear_value a0 a1
  repeat' first
    | with_reducible assumption
    | with_reducible refine State.setSdg_keeps (hP.mono (by decide)) ?_
    | with_reducible refine State.sdgLogSet_keeps (hP.mono (by decide)) ?_
    | with_reducible refine State.incSat_keeps (hP.mono (by decide)) ?_
    | with_reducible refine State.sdgFault_keeps (hP.mono (by decide)) ?_
    | with_reducible refine State.setFld_keeps (hP.mono (by decide)) ?_
    | with_reducible refine ite_keeps ?_ ?_

theorem State.sendSeamEvents_keeps (hP : Keeps 0x1800834 P) {s : State} (h : P s)  {g : Graph} {k : ℕ} {node : ℕ} {r : ℕ} {events : List ℕ} :
    P (State.sendSeamEvents s g k node r events) := by
  unfold State.sendSeamEvents
  extract_lets a0
  all_goals clear_value a0
  repeat' first
    | with_reducible assumption
    | with_reducible refine State.sendSedge0_keeps (hP.mono (by decide)) ?_
    | with_reducible refine ite_keeps ?_ ?_
    | with_reducible refine forRange_keeps ?_ ?_
    | intro _ _ _

theorem State.sdgLogRange_keeps (hP : Keeps 0x4 P) {s : State} (h : P s)  {lo : ℕ} {hi : ℕ} {f : ℕ → Fld} :
    P (State.sdgLogRange s lo hi f) := by
  unfold State.sdgLogRange
  extract_lets a0
  all_goals clear_value a0
  repeat' first
    | with_reducible assumption
    | with_reducible refine State.sdgLogSet_keeps (hP.mono (by decide)) ?_
    | with_reducible refine forRange_keeps ?_ ?_
    | intro _ _ _

theorem State.sdgMarkUntrusted_keeps (hP : Keeps 0x800814 P) {s : State} (h : P s) :
    P (State.sdgMarkUntrusted s) := by
  unfold State.sdgMarkUntrusted
  extract_lets a0 a1 a2 a3 a4 a5 a6
  refine have k3 : P a3 := ?_; have k4 : P a4 := ?_; have k5 : P a5 := ?_; have k6 : P a6 := ?_; ?_
  all_goals clear_value a0 a1 a2
  repeat' first
    | with_reducible assumption
    | with_reducible refine State.sdgLogRange_keeps (hP.mono (by decide)) ?_
    | with_reducible refine State.setRegN_keeps (hP.mono (by decide)) ?_
    | with_reducible refine State.icLevel_keeps (hP.mono (by decide)) ?_
    | with_reducible refine State.setFlag_keeps (hP.mono (by decide)) ?_
    | with_reducible refine State.sendPacket_keeps (hP.mono (by decide)) ?_
    | with_reducible refine ite_keeps ?_ ?_
    | with_reducible refine foldl_keeps ?_ ?_
    | intro _ _ _

theorem State.sdgBacklog_keeps (hP : Keeps 0x4801834 P) {s : State} (h : P s) :
    P (State.sdgBacklog s) := by
  unfold State.sdgBacklog
  extract_lets a0 a1 a2
  refine have k0 : P a0 := ?_; have k1 : P a1 := ?_; ?_
  all_goals clear_value a2
  repeat' first
    | with_reducible assumption
    | with_reducible refine State.fire_keeps (hP.mono (by decide)) ?_
    | with_reducible refine State.incSat_keeps (hP.mono (by decide)) ?_
    | with_reducible refine State.sdgFault_keeps (hP.mono (by decide)) ?_
    | with_reducible refine State.sdgMarkUntrusted_keeps (hP.mono (by decide)) ?_
    | with_reducible refine State.setSdg_keeps (hP.mono (by decide)) ?_

theorem State.roundClose_keeps (hP : Keeps 0x5801834 P) {s : State} (h : P s) :
    P (State.roundClose s) := by
  unfold State.roundClose
  extract_lets a0 a1 a2 a3 a4 a5 a6
  all_goals clear_value a0 a1 a2 a3 a4 a5 a6
  repeat' first
    | with_reducible assumption
    | with_reducible refine State.setSdg_keeps (hP.mono (by decide)) ?_
    | with_reducible refine State.setRegN_keeps (hP.mono (by decide)) ?_
    | with_reducible refine State.sdgFault_keeps (hP.mono (by decide)) ?_
    | with_reducible refine State.sdgLogSet_keeps (hP.mono (by decide)) ?_
    | with_reducible refine State.incSat_keeps (hP.mono (by decide)) ?_
    | with_reducible refine State.sendSeamEvents_keeps (hP.mono (by decide)) ?_
    | with_reducible refine State.fire_keeps (hP.mono (by decide)) ?_
    | with_reducible refine State.setFld_keeps (hP.mono (by decide)) ?_
    | with_reducible refine State.sdgBacklog_keeps (hP.mono (by decide)) ?_
    | with_reducible refine ite_keeps ?_ ?_
    | with_reducible refine foldl_keeps ?_ ?_
    | intro _ _ _
    | intro _ _
    | split

theorem State.frameToggle_keeps (hP : Keeps 0x4 P) {s : State} (h : P s)  {q : ℕ} {pauli : ℕ} :
    P (State.frameToggle s q pauli) := by
  unfold State.frameToggle
  extract_lets a0
  refine have k0 : P a0 := ?_; ?_
  repeat' first
    | with_reducible assumption
    | with_reducible refine State.setFlag_keeps (hP.mono (by decide)) ?_
    | with_reducible refine ite_keeps ?_ ?_

theorem State.applyEdge_keeps (hP : Keeps 0x4 P) {s : State} (h : P s)  {e : WEdge} :
    P (State.applyEdge s e) := by
  unfold State.applyEdge
  extract_lets a0
  refine have k0 : P a0 := ?_; ?_
  repeat' first
    | with_reducible assumption
    | with_reducible refine State.frameToggle_keeps (hP.mono (by decide)) ?_
    | with_reducible refine State.setReg64_keeps (hP.mono (by decide)) ?_
    | with_reducible refine ite_keeps ?_ ?_

theorem State.sdgMirror_keeps (hP : Keeps 0x80000 P) {s : State} (h : P s) :
    P (State.sdgMirror s) := by
  unfold State.sdgMirror
  repeat' first
    | with_reducible assumption
    | with_reducible refine ite_keeps ?_ ?_
    | with_reducible refine forRange_keeps ?_ ?_
    | exact fun hw => Memory.wf_writeLe hw _ _ _
    | intro _ _ _
    | intro _ _
    | split
    | with_reducible refine hP.dmem (by decide) _ _ ?_ ?_

theorem State.sdgUntrustedClear_keeps (hP : Keeps 0x814 P) {s : State} (h : P s) :
    P (State.sdgUntrustedClear s) := by
  unfold State.sdgUntrustedClear
  repeat' first
    | with_reducible assumption
    | with_reducible refine State.icLevel_keeps (hP.mono (by decide)) ?_
    | with_reducible refine State.setReg_keeps (hP.mono (by decide)) ?_
    | with_reducible refine State.setFlag_keeps (hP.mono (by decide)) ?_

theorem State.sdgFrameClr_keeps (hP : Keeps 0x814 P) {s : State} (h : P s) :
    P (State.sdgFrameClr s) := by
  unfold State.sdgFrameClr
  extract_lets a0
  refine have k0 : P a0 := ?_; ?_
  repeat' first
    | with_reducible assumption
    | with_reducible refine State.setReg_keeps (hP.mono (by decide)) ?_
    | with_reducible refine State.sdgUntrustedClear_keeps (hP.mono (by decide)) ?_
    | with_reducible refine forRange_keeps ?_ ?_
    | intro _ _ _

theorem State.sdgMeasure_keeps (hP : Keeps 0x4000004 P) {s : State} (h : P s)  {slot : ℕ} {state : ℕ} :
    P (State.sdgMeasure s slot state) := by
  unfold State.sdgMeasure
  extract_lets a0 a1 a2 a3 a4
  all_goals clear_value a0 a1 a2 a3 a4
  repeat' first
    | with_reducible assumption
    | with_reducible refine State.incSat_keeps (hP.mono (by decide)) ?_
    | with_reducible refine State.setSdg_keeps (hP.mono (by decide)) ?_
    | with_reducible refine ite_keeps ?_ ?_

theorem State.sdgReceiveHello_keeps (hP : Keeps 0x4000834 P) {s : State} (h : P s)  {k : ℕ} {node : ℕ} {p : BitVec 192} :
    P (State.sdgReceiveHello s k node p) := by
  unfold State.sdgReceiveHello
  extract_lets a0 a1 a2 a3
  refine have k2 : P a2 := ?_; have k3 : P a3 := ?_; ?_
  all_goals clear_value a0 a1
  repeat' first
    | with_reducible assumption
    | with_reducible refine State.setSdg_keeps (hP.mono (by decide)) ?_
    | with_reducible refine State.setFld_keeps (hP.mono (by decide)) ?_
    | with_reducible refine State.sdgFault_keeps (hP.mono (by decide)) ?_
    | with_reducible refine ite_keeps ?_ ?_

theorem State.sdgEnd_keeps (hP : Keeps 0x4800814 P) {s : State} (h : P s)  {next : ℕ} :
    P (State.sdgEnd s next) := by
  unfold State.sdgEnd
  extract_lets a0 a1 a2
  refine have k0 : P a0 := ?_; have k1 : P a1 := ?_; ?_
  all_goals clear_value a2
  repeat' first
    | with_reducible assumption
    | with_reducible refine State.sdgMarkUntrusted_keeps (hP.mono (by decide)) ?_
    | with_reducible refine State.setFld_keeps (hP.mono (by decide)) ?_
    | with_reducible refine State.setSdg_keeps (hP.mono (by decide)) ?_
    | with_reducible refine ite_keeps ?_ ?_
    | with_reducible refine forRange_keeps ?_ ?_
    | intro _ _ _

theorem State.sdgStop_keeps (hP : Keeps 0x4800814 P) {s : State} (h : P s) :
    P (State.sdgStop s) := by
  unfold State.sdgStop
  repeat' first
    | with_reducible assumption
    | with_reducible refine State.sdgEnd_keeps (hP.mono (by decide)) ?_
    | with_reducible refine ite_keeps ?_ ?_

theorem State.sendSeamCommit_keeps (hP : Keeps 0x1800834 P) {s : State} (h : P s)  {node : ℕ} {round : ℕ} {entries : List (ℕ × ℕ)} :
    P (State.sendSeamCommit s node round entries) := by
  unfold State.sendSeamCommit
  repeat' first
    | with_reducible assumption
    | with_reducible refine State.sendSedge0_keeps (hP.mono (by decide)) ?_
    | with_reducible refine foldl_keeps ?_ ?_
    | intro _ _ _

theorem State.commitRegion_keeps (hP : Keeps 0x5881834 P) {s : State} (h : P s)  {g : Graph} {lo : ℕ} {hi : ℕ} {final : Bool} {corr : List WEdge} {bad : List Cluster} :
    P (State.commitRegion s g lo hi final corr bad) := by
  unfold State.commitRegion
  extract_lets a0 a1 a2 a3 a4 a5 a6 a7 a8 a9 a10 a11 a12 a13
  refine have k2 : P a2 := ?_; have k3 : P a3 := ?_; have k4 : P a4 := ?_; have k5 : P a5 := ?_; have k6 : P a6 := ?_; have k7 : P a7 := ?_; have k9 : P a9 := ?_; have k11 : P a11 := ?_; have k12 : P a12 := ?_; have k13 : P a13 := ?_; ?_
  all_goals clear_value a0 a1 a8 a10
  repeat' first
    | with_reducible assumption
    | with_reducible refine State.applyEdge_keeps (hP.mono (by decide)) ?_
    | with_reducible refine State.setRegN_keeps (hP.mono (by decide)) ?_
    | with_reducible refine State.sdgLogRange_keeps (hP.mono (by decide)) ?_
    | with_reducible refine State.sdgFault_keeps (hP.mono (by decide)) ?_
    | with_reducible refine State.incSat_keeps (hP.mono (by decide)) ?_
    | with_reducible refine State.sdgLogSet_keeps (hP.mono (by decide)) ?_
    | with_reducible refine State.setReg64_keeps (hP.mono (by decide)) ?_
    | with_reducible refine State.sendSeamCommit_keeps (hP.mono (by decide)) ?_
    | with_reducible refine State.setSdg_keeps (hP.mono (by decide)) ?_
    | with_reducible refine State.matchSeam_keeps (hP.mono (by decide)) ?_
    | with_reducible refine State.setFld_keeps (hP.mono (by decide)) ?_
    | with_reducible refine State.sdgMirror_keeps (hP.mono (by decide)) ?_
    | with_reducible refine State.icPend_keeps (hP.mono (by decide)) ?_
    | with_reducible refine State.fire_keeps (hP.mono (by decide)) ?_
    | with_reducible refine State.sdgFlushed_keeps (hP.mono (by decide)) ?_
    | with_reducible refine ite_keeps ?_ ?_
    | with_reducible refine foldl_keeps ?_ ?_
    | intro _ _ _

theorem State.sdgDisable_keeps (hP : Keeps 0x4800814 P) {s : State} (h : P s) :
    P (State.sdgDisable s) := by
  unfold State.sdgDisable
  extract_lets a0
  refine have k0 : P a0 := ?_; ?_
  repeat' first
    | with_reducible assumption
    | with_reducible refine State.sdgEnd_keeps (hP.mono (by decide)) ?_
    | with_reducible refine State.setFlag_keeps (hP.mono (by decide)) ?_
    | with_reducible refine ite_keeps ?_ ?_

theorem State.sdgSeamEvents_keeps (hP : Keeps 0x4000004 P) {s : State} (h : P s)  {k : ℕ} {round : ℕ} {part : ℕ} {bits : ℕ} :
    P (State.sdgSeamEvents s k round part bits) := by
  unfold State.sdgSeamEvents
  extract_lets a0 a1 a2
  all_goals clear_value a0 a1 a2
  repeat' first
    | with_reducible assumption
    | with_reducible refine State.incSat_keeps (hP.mono (by decide)) ?_
    | with_reducible refine State.setSdg_keeps (hP.mono (by decide)) ?_
    | with_reducible refine ite_keeps ?_ ?_

theorem State.sdgSeamCommit_keeps (hP : Keeps 0x4000004 P) {s : State} (h : P s)  {k : ℕ} {round : ℕ} {last : Bool} {entries : List (ℕ × ℕ)} :
    P (State.sdgSeamCommit s k round last entries) := by
  unfold State.sdgSeamCommit
  extract_lets a0 a1 a2 a3
  all_goals clear_value a0 a1 a2 a3
  repeat' first
    | with_reducible assumption
    | with_reducible refine State.matchSeam_keeps (hP.mono (by decide)) ?_
    | with_reducible refine State.setSdg_keeps (hP.mono (by decide)) ?_
    | with_reducible refine ite_keeps ?_ ?_

theorem State.sdgRoundStatus_keeps (hP : Keeps 0x834 P) {s : State} (h : P s)  {k : ℕ} {first : ℕ} {last : ℕ} :
    P (State.sdgRoundStatus s k first last) := by
  unfold State.sdgRoundStatus
  extract_lets a0
  refine have k0 : P a0 := ?_; ?_
  repeat' first
    | with_reducible assumption
    | with_reducible refine State.setFlag_keeps (hP.mono (by decide)) ?_
    | with_reducible refine ite_keeps ?_ ?_
    | with_reducible refine forRange_keeps ?_ ?_
    | intro _ _ _
    | split
    | with_reducible refine State.sdgFault_keeps (hP.mono (by decide)) ?_
    | with_reducible refine State.incSat_keeps (hP.mono (by decide)) ?_

theorem State.sdgMessage_keeps (hP : Keeps 0x4000834 P) {s : State} (h : P s)  {node : ℕ} {p : BitVec 192} :
    P (State.sdgMessage s node p) := by
  unfold State.sdgMessage
  repeat' first
    | with_reducible assumption
    | with_reducible refine State.incSat_keeps (hP.mono (by decide)) ?_
    | with_reducible refine State.sdgSeamEvents_keeps (hP.mono (by decide)) ?_
    | with_reducible refine State.sdgSeamCommit_keeps (hP.mono (by decide)) ?_
    | with_reducible refine State.sdgRoundStatus_keeps (hP.mono (by decide)) ?_
    | with_reducible refine State.sdgReceiveHello_keeps (hP.mono (by decide)) ?_
    | with_reducible refine ite_keeps ?_ ?_
    | split

theorem State.sdgFlush_keeps (hP : Keeps 0x4000004 P) {s : State} (h : P s) :
    P (State.sdgFlush s) := by
  unfold State.sdgFlush
  extract_lets a0 a1
  all_goals clear_value a0 a1
  repeat' first
    | with_reducible assumption
    | with_reducible refine State.sdgFlushed_keeps (hP.mono (by decide)) ?_
    | with_reducible refine State.setFld_keeps (hP.mono (by decide)) ?_
    | with_reducible refine State.setSdg_keeps (hP.mono (by decide)) ?_
    | with_reducible refine ite_keeps ?_ ?_

theorem State.sdgStart_keeps (hP : Keeps 0x4000004 P) {s : State} (h : P s) :
    P (State.sdgStart s) := by
  unfold State.sdgStart
  extract_lets a0 a1 a2
  refine have k0 : P a0 := ?_; have k2 : P a2 := ?_; ?_
  all_goals clear_value a1
  repeat' first
    | with_reducible assumption
    | with_reducible refine State.setFld_keeps (hP.mono (by decide)) ?_
    | with_reducible refine State.setSdg_keeps (hP.mono (by decide)) ?_
    | with_reducible refine ite_keeps ?_ ?_
    | with_reducible refine foldl_keeps ?_ ?_
    | intro _ _ _

theorem State.sdgPowerOff_keeps (hP : Keeps 0x4800814 P) {s : State} (h : P s) :
    P (State.sdgPowerOff s) := by
  unfold State.sdgPowerOff
  extract_lets a0
  refine have k0 : P a0 := ?_; ?_
  repeat' first
    | with_reducible assumption
    | with_reducible refine State.sdgEnd_keeps (hP.mono (by decide)) ?_
    | with_reducible refine State.icLevel_keeps (hP.mono (by decide)) ?_
    | with_reducible refine State.setSdg_keeps (hP.mono (by decide)) ?_
    | with_reducible refine State.resetRegs_keeps (hP.mono (by decide)) ?_
    | with_reducible refine ite_keeps ?_ ?_

theorem State.sdgBegin_keeps (hP : Keeps 0x4000004 P) {s : State} (h : P s) :
    P (State.sdgBegin s) := by
  unfold State.sdgBegin
  extract_lets a0
  all_goals clear_value a0
  repeat' first
    | with_reducible assumption
    | with_reducible refine State.setSdg_keeps (hP.mono (by decide)) ?_
    | with_reducible refine State.setRegN_keeps (hP.mono (by decide)) ?_
    | with_reducible refine State.setFld_keeps (hP.mono (by decide)) ?_
    | with_reducible refine ite_keeps ?_ ?_
    | split

theorem State.sdgEnable_keeps (hP : Keeps 0x814 P) {s : State} (h : P s) :
    P (State.sdgEnable s) := by
  unfold State.sdgEnable
  extract_lets a0
  refine have k0 : P a0 := ?_; ?_
  repeat' first
    | with_reducible assumption
    | with_reducible refine State.setFlag_keeps (hP.mono (by decide)) ?_
    | with_reducible refine State.unitOutcome_keeps (hP.mono (by decide)) ?_
    | with_reducible refine ite_keeps ?_ ?_

theorem State.sdgCtrlWrite_keeps (hP : Keeps 0x4800814 P) {s : State} (h : P s)  {v : Word} :
    P (State.sdgCtrlWrite s v) := by
  unfold State.sdgCtrlWrite
  extract_lets a0 a1 a2 a3
  refine have k0 : P a0 := ?_; have k1 : P a1 := ?_; have k2 : P a2 := ?_; have k3 : P a3 := ?_; ?_
  repeat' first
    | with_reducible assumption
    | with_reducible refine State.sdgEnable_keeps (hP.mono (by decide)) ?_
    | with_reducible refine State.sdgDisable_keeps (hP.mono (by decide)) ?_
    | with_reducible refine State.sdgStop_keeps (hP.mono (by decide)) ?_
    | with_reducible refine State.sdgFrameClr_keeps (hP.mono (by decide)) ?_
    | with_reducible refine State.sdgFlush_keeps (hP.mono (by decide)) ?_
    | with_reducible refine State.sdgStart_keeps (hP.mono (by decide)) ?_
    | with_reducible refine ite_keeps ?_ ?_

theorem State.graphLoad_keeps (hP : Keeps 0x4000004 P) {s : State} (h : P s)  {img : List Byte} :
    P (State.graphLoad s img) := by
  unfold State.graphLoad
  extract_lets a0 a1 a2 a3
  refine have k1 : P a1 := ?_; have k2 : P a2 := ?_; have k3 : P a3 := ?_; ?_
  all_goals clear_value a0
  repeat' first
    | with_reducible assumption
    | with_reducible refine State.setSdg_keeps (hP.mono (by decide)) ?_
    | with_reducible refine State.setFld_keeps (hP.mono (by decide)) ?_
    | with_reducible refine State.setFlag_keeps (hP.mono (by decide)) ?_

theorem State.sdgSafe_keeps (hP : Keeps 0x4800814 P) {s : State} (h : P s) :
    P (State.sdgSafe s) := by
  unfold State.sdgSafe
  repeat' first
    | with_reducible assumption
    | with_reducible refine State.sdgEnd_keeps (hP.mono (by decide)) ?_
    | with_reducible refine ite_keeps ?_ ?_

theorem State.sdgReset_keeps (hP : Keeps 0x4800814 P) {s : State} (h : P s) :
    P (State.sdgReset s) := by
  unfold State.sdgReset
  extract_lets a0 a1 a2 a3 a4 a5 a6
  refine have k0 : P a0 := ?_; have k2 : P a2 := ?_; have k3 : P a3 := ?_; have k4 : P a4 := ?_; have k5 : P a5 := ?_; have k6 : P a6 := ?_; ?_
  all_goals clear_value a1
  repeat' first
    | with_reducible assumption
    | with_reducible refine State.sdgEnd_keeps (hP.mono (by decide)) ?_
    | with_reducible refine State.resetRegs_keeps (hP.mono (by decide)) ?_
    | with_reducible refine State.setSdg_keeps (hP.mono (by decide)) ?_
    | with_reducible refine State.icLevel_keeps (hP.mono (by decide)) ?_
    | with_reducible refine State.setReg_keeps (hP.mono (by decide)) ?_
    | with_reducible refine ite_keeps ?_ ?_

theorem State.sdgHelloDue_keeps (hP : Keeps 0x800014 P) {s : State} (h : P s) :
    P (State.sdgHelloDue s) := by
  unfold State.sdgHelloDue
  repeat' first
    | with_reducible assumption
    | with_reducible refine State.sendPacket_keeps (hP.mono (by decide)) ?_
    | with_reducible refine ite_keeps ?_ ?_
    | with_reducible refine foldl_keeps ?_ ?_
    | intro _ _ _

theorem State.sdgCommit_keeps (hP : Keeps 0x5881834 P) {s : State} (h : P s) :
    P (State.sdgCommit s) := by
  unfold State.sdgCommit
  extract_lets a0
  all_goals clear_value a0
  repeat' first
    | with_reducible assumption
    | with_reducible refine State.commitRegion_keeps (hP.mono (by decide)) ?_
    | with_reducible refine ite_keeps ?_ ?_
    | split

end Sys2Proof.Machine
end

