-- ==== Sys2Proof/Laws/KeepsDecision.lean ====
section
/-!
SUPPORT. What the operations of Machine/Decision.lean may change.
-/
namespace Sys2Proof.Machine

variable {P : State → Prop}

theorem State.showLoads_keeps (hP : Keeps 0x4 P) {s : State} (h : P s) :
    P (State.showLoads s) := by
  unfold State.showLoads
  repeat' first
    | with_reducible assumption
    | with_reducible refine State.setFld_keeps (hP.mono (by decide)) ?_
    | with_reducible refine ite_keeps ?_ ?_
    | with_reducible refine forRange_keeps ?_ ?_
    | intro _ _ _

theorem State.exportSlot_keeps (hP : Keeps 0x1800834 P) {s : State} (h : P s)  {m : ℕ} {state : ℕ} {seq : ℕ} :
    P (State.exportSlot s m state seq) := by
  unfold State.exportSlot
  repeat' first
    | with_reducible assumption
    | with_reducible refine State.incWrap_keeps (hP.mono (by decide)) ?_
    | with_reducible refine State.queueC0_keeps (hP.mono (by decide)) ?_
    | with_reducible refine State.cwFault_keeps (hP.mono (by decide)) ?_
    | with_reducible refine ite_keeps ?_ ?_
    | with_reducible refine forRange_keeps ?_ ?_
    | intro _ _ _
    | intro _ _
    | split
    | extract_lets

theorem State.djSee_keeps (hP : Keeps 0x4004 P) {s : State} (h : P s)  {n : ℕ} {k : ℕ} {m : ℕ} {state : ℕ} {seq : ℕ} :
    P (State.djSee s n k m state seq) := by
  unfold State.djSee
  extract_lets a0 a1 a2
  refine have k2 : P a2 := ?_; ?_
  all_goals clear_value a0 a1
  repeat' first
    | with_reducible assumption
    | with_reducible refine State.setChain_keeps (hP.mono (by decide)) ?_
    | with_reducible refine State.jumpRequest_keeps (hP.mono (by decide)) ?_
    | with_reducible refine ite_keeps ?_ ?_

theorem State.setSlot_keeps (hP : Keeps 0x4 P) {s : State} (h : P s)  {m : ℕ} {state : ℕ} {valid : Bool} {seq : ℕ} :
    P (State.setSlot s m state valid seq) := by
  unfold State.setSlot
  repeat' first
    | with_reducible assumption
    | with_reducible refine State.setRegN_keeps (hP.mono (by decide)) ?_

theorem State.captureAll_keeps (hP : Keeps 0x400000 P) {s : State} (h : P s)  {m : ℕ} {state : ℕ} {valid : Bool} {seq : ℕ} :
    P (State.captureAll s m state valid seq) := by
  unfold State.captureAll
  refine hP.armed (by decide) s _ h (fun hw => SMap.wf_map _ hw _ (fun e => ?_) (fun e he => ?_))
  · split <;> rfl
  · split
    · simpa using he
    · exact he

theorem State.corePend_keeps (hP : Keeps 0x4 P) {s : State} (h : P s)  {n : ℕ} {i : ℕ} {src : ℕ} :
    P (State.corePend s n i src) := by
  unfold State.corePend
  repeat' first
    | with_reducible assumption
    | with_reducible refine State.setFld_keeps (hP.mono (by decide)) ?_

theorem State.poolSee_keeps (hP : Keeps 0x4004 P) {s : State} (h : P s)  {n : ℕ} {m : ℕ} {state : ℕ} {seq : ℕ} :
    P (State.poolSee s n m state seq) := by
  unfold State.poolSee
  extract_lets a0
  refine have k0 : P a0 := ?_; ?_
  repeat' first
    | with_reducible assumption
    | with_reducible refine State.djSee_keeps (hP.mono (by decide)) ?_
    | with_reducible refine State.corePend_keeps (hP.mono (by decide)) ?_
    | with_reducible refine ite_keeps ?_ ?_
    | with_reducible refine forRange_keeps ?_ ?_
    | intro _ _ _

theorem State.slotWrite_keeps (hP : Keeps 0x5c05834 P) {s : State} (h : P s)  {m : ℕ} {state : ℕ} {valid : Bool} {seq : ℕ} :
    P (State.slotWrite s m state valid seq) := by
  unfold State.slotWrite
  extract_lets a0 a1 a2 a3
  refine have k0 : P a0 := ?_; have k1 : P a1 := ?_; have k2 : P a2 := ?_; have k3 : P a3 := ?_; ?_
  repeat' first
    | with_reducible assumption
    | with_reducible refine State.setSlot_keeps (hP.mono (by decide)) ?_
    | with_reducible refine State.captureAll_keeps (hP.mono (by decide)) ?_
    | with_reducible refine State.poolSee_keeps (hP.mono (by decide)) ?_
    | with_reducible refine State.sdgMeasure_keeps (hP.mono (by decide)) ?_
    | with_reducible refine State.fire_keeps (hP.mono (by decide)) ?_
    | with_reducible refine State.exportSlot_keeps (hP.mono (by decide)) ?_
    | with_reducible refine ite_keeps ?_ ?_
    | with_reducible refine forRange_keeps ?_ ?_
    | intro _ _ _

theorem State.slotInvalidate_keeps (hP : Keeps 0x5c05834 P) {s : State} (h : P s)  {m : ℕ} :
    P (State.slotInvalidate s m) := by
  unfold State.slotInvalidate
  repeat' first
    | with_reducible assumption
    | with_reducible refine State.slotWrite_keeps (hP.mono (by decide)) ?_

theorem State.importInvalidate_keeps (hP : Keeps 0x5c05834 P) {s : State} (h : P s)  {j : ℕ} :
    P (State.importInvalidate s j) := by
  unfold State.importInvalidate
  repeat' first
    | with_reducible assumption
    | with_reducible refine State.slotInvalidate_keeps (hP.mono (by decide)) ?_
    | with_reducible refine State.incSat_keeps (hP.mono (by decide)) ?_

theorem State.impClr_keeps (hP : Keeps 0x4 P) {s : State} (h : P s) :
    P (State.impClr s) := by
  unfold State.impClr
  repeat' first
    | with_reducible assumption
    | with_reducible refine State.setReg_keeps (hP.mono (by decide)) ?_
    | with_reducible refine forRange_keeps ?_ ?_
    | intro _ _ _

theorem State.slotDecide_keeps (hP : Keeps 0x5c05834 P) {s : State} (h : P s)  {m : ℕ} {state : ℕ} :
    P (State.slotDecide s m state) := by
  unfold State.slotDecide
  repeat' first
    | with_reducible assumption
    | with_reducible refine State.slotWrite_keeps (hP.mono (by decide)) ?_

theorem State.slotsReset_keeps (hP : Keeps 0x4 P) {s : State} (h : P s)  {n : ℕ} :
    P (State.slotsReset s n) := by
  unfold State.slotsReset
  repeat' first
    | with_reducible assumption
    | with_reducible refine State.setReg_keeps (hP.mono (by decide)) ?_
    | with_reducible refine forRange_keeps ?_ ?_
    | intro _ _ _

theorem State.slotsInvalidate_keeps (hP : Keeps 0x5c05834 P) {s : State} (h : P s)  {n : ℕ} :
    P (State.slotsInvalidate s n) := by
  unfold State.slotsInvalidate
  repeat' first
    | with_reducible assumption
    | with_reducible refine State.slotInvalidate_keeps (hP.mono (by decide)) ?_
    | with_reducible refine forRange_keeps ?_ ?_
    | intro _ _ _

theorem State.dnEnable_keeps (hP : Keeps 0x814 P) {s : State} (h : P s) :
    P (State.dnEnable s) := by
  unfold State.dnEnable
  extract_lets a0
  refine have k0 : P a0 := ?_; ?_
  repeat' first
    | with_reducible assumption
    | with_reducible refine State.setFlag_keeps (hP.mono (by decide)) ?_
    | with_reducible refine State.unitOutcome_keeps (hP.mono (by decide)) ?_
    | with_reducible refine State.showLoads_keeps (hP.mono (by decide)) ?_
    | with_reducible refine ite_keeps ?_ ?_

theorem State.importSlot_keeps (hP : Keeps 0x5c05834 P) {s : State} (h : P s)  {j : ℕ} {state : ℕ} {seq : ℕ} :
    P (State.importSlot s j state seq) := by
  unfold State.importSlot
  repeat' first
    | with_reducible assumption
    | with_reducible refine State.slotWrite_keeps (hP.mono (by decide)) ?_
    | with_reducible refine State.incWrap_keeps (hP.mono (by decide)) ?_

theorem State.dnCtrlWrite_keeps (hP : Keeps 0x814 P) {s : State} (h : P s)  {v : Word} :
    P (State.dnCtrlWrite s v) := by
  unfold State.dnCtrlWrite
  extract_lets a0
  refine have k0 : P a0 := ?_; ?_
  repeat' first
    | with_reducible assumption
    | with_reducible refine State.impClr_keeps (hP.mono (by decide)) ?_
    | with_reducible refine State.dnEnable_keeps (hP.mono (by decide)) ?_
    | with_reducible refine State.setFlag_keeps (hP.mono (by decide)) ?_
    | with_reducible refine ite_keeps ?_ ?_

end Sys2Proof.Machine
end

