-- ==== Sys2Proof/Laws/KeepsReadout.lean ====
section
/-!
SUPPORT. What the operations of Machine/Readout.lean may change.
-/
namespace Sys2Proof.Machine

variable {P : State → Prop}

theorem State.setTone_keeps (hP : Keeps 0x8000000 P) {s : State} (h : P s)  {n : ℕ} {k : ℕ} {v : RoTone} :
    P (State.setTone s n k v) := by
  unfold State.setTone
  repeat' first
    | with_reducible assumption
    | exact fun hw => SMap.wf_set _ hw _ _
    | with_reducible refine hP.tones (by decide) _ _ ?_ ?_

theorem State.windowStart_keeps (hP : Keeps 0x8000004 P) {s : State} (h : P s)  {n : ℕ} {k : ℕ} :
    P (State.windowStart s n k) := by
  unfold State.windowStart
  extract_lets a0 a1
  all_goals clear_value a0 a1
  repeat' first
    | with_reducible assumption
    | with_reducible refine State.incSat_keeps (hP.mono (by decide)) ?_
    | with_reducible refine State.setTone_keeps (hP.mono (by decide)) ?_
    | with_reducible refine ite_keeps ?_ ?_
    | split

theorem State.decide_keeps (hP : Keeps 0x5c05834 P) {s : State} (h : P s)  {n : ℕ} {k : ℕ} {state : ℕ} :
    P (State.decide s n k state) := by
  unfold State.decide
  repeat' first
    | with_reducible assumption
    | with_reducible refine State.slotDecide_keeps (hP.mono (by decide)) ?_
    | with_reducible refine State.incWrap_keeps (hP.mono (by decide)) ?_
    | with_reducible refine ite_keeps ?_ ?_

theorem State.trkEstimate_keeps (hP : Keeps 0x4 P) {s : State} (h : P s)  {n : ℕ} {k : ℕ} :
    P (State.trkEstimate s n k) := by
  unfold State.trkEstimate
  repeat' first
    | with_reducible assumption
    | with_reducible refine State.setFldS_keeps (hP.mono (by decide)) ?_

theorem State.trkDiverge_keeps (hP : Keeps 0x200000834 P) {s : State} (h : P s)  {n : ℕ} {k : ℕ} :
    P (State.trkDiverge s n k) := by
  unfold State.trkDiverge
  extract_lets a0 a1 a2 a3
  refine have k3 : P a3 := ?_; ?_
  all_goals clear_value a0 a1 a2
  repeat' first
    | with_reducible assumption
    | with_reducible refine State.incSat_keeps (hP.mono (by decide)) ?_
    | with_reducible refine State.setFlag_keeps (hP.mono (by decide)) ?_
    | with_reducible refine State.poolFault_keeps (hP.mono (by decide)) ?_
    | with_reducible refine ite_keeps ?_ ?_

theorem State.trkUpdate_keeps (hP : Keeps 0x200000834 P) {s : State} (h : P s)  {n : ℕ} {k : ℕ} {x : ℤ} {soft : ℤ} :
    P (State.trkUpdate s n k x soft) := by
  unfold State.trkUpdate
  extract_lets a0 a1 a2 a3 a4
  refine have k2 : P a2 := ?_; have k3 : P a3 := ?_; have k4 : P a4 := ?_; ?_
  all_goals clear_value a0 a1
  repeat' first
    | with_reducible assumption
    | with_reducible refine State.setFldS_keeps (hP.mono (by decide)) ?_
    | with_reducible refine State.incWrap_keeps (hP.mono (by decide)) ?_
    | with_reducible refine State.trkEstimate_keeps (hP.mono (by decide)) ?_
    | with_reducible refine State.incSat_keeps (hP.mono (by decide)) ?_
    | with_reducible refine State.trkDiverge_keeps (hP.mono (by decide)) ?_
    | with_reducible refine ite_keeps ?_ ?_

theorem State.postRecords_keeps (hP : Keeps 0x240000834 P) {s : State} (h : P s)  {n : ℕ} {r : WinRecs} :
    P (State.postRecords s n r) := by
  unfold State.postRecords
  extract_lets a0
  all_goals clear_value a0
  repeat' first
    | with_reducible assumption
    | with_reducible refine State.runLost_keeps (hP.mono (by decide)) ?_
    | with_reducible refine State.poolFault_keeps (hP.mono (by decide)) ?_
    | with_reducible refine State.incSat_keeps (hP.mono (by decide)) ?_
    | with_reducible refine State.setFld_keeps (hP.mono (by decide)) ?_
    | with_reducible refine ite_keeps ?_ ?_
    | exact fun hw => SMap.wf_set _ hw _ _
    | split
    | extract_lets
    | with_reducible refine hP.fifos (by decide) _ _ ?_ ?_

theorem State.armRamp_keeps (hP : Keeps 0x4000 P) {s : State} (h : P s)  {n : ℕ} {k : ℕ} {tEnd : ℕ} :
    P (State.armRamp s n k tEnd) := by
  unfold State.armRamp
  extract_lets a0
  all_goals clear_value a0
  repeat' first
    | with_reducible assumption
    | with_reducible refine State.setChain_keeps (hP.mono (by decide)) ?_
    | with_reducible refine ite_keeps ?_ ?_

theorem State.accumulate_keeps (hP : Keeps 0x8000004 P) {s : State} (h : P s)  {n : ℕ} {k : ℕ} {wI : ℤ} {wQ : ℤ} {samples : List (ℤ × ℤ)} :
    P (State.accumulate s n k wI wQ samples) := by
  unfold State.accumulate
  extract_lets a0 a1 a2 a3 a4 a5 a6 a7 a8 a9 a10
  refine have k7 : P a7 := ?_; ?_
  all_goals clear_value a0 a1 a2 a3 a4 a5 a6 a8 a9 a10
  repeat' first
    | with_reducible assumption
    | with_reducible refine State.setTone_keeps (hP.mono (by decide)) ?_
    | with_reducible refine State.incSat_keeps (hP.mono (by decide)) ?_
    | with_reducible refine ite_keeps ?_ ?_

theorem State.swapSpare_keeps (hP : Keeps 0x4 P) {s : State} (h : P s)  {n : ℕ} {l : ℕ} :
    P (State.swapSpare s n l) := by
  unfold State.swapSpare
  extract_lets a0
  refine have k0 : P a0 := ?_; ?_
  repeat' first
    | with_reducible assumption
    | with_reducible refine State.setFld_keeps (hP.mono (by decide)) ?_
    | with_reducible refine State.setFlag_keeps (hP.mono (by decide)) ?_
    | with_reducible refine State.incWrap_keeps (hP.mono (by decide)) ?_

theorem State.setRoLine_keeps (hP : Keeps 0x10000000 P) {s : State} (h : P s)  {n : ℕ} {l : ℕ} {v : RoLine} :
    P (State.setRoLine s n l v) := by
  unfold State.setRoLine
  repeat' first
    | with_reducible assumption
    | exact fun hw => SMap.wf_set _ hw _ _
    | with_reducible refine hP.lines (by decide) _ _ ?_ ?_

theorem State.lineWindowEnd_keeps (hP : Keeps 0x210000834 P) {s : State} (h : P s)  {n : ℕ} {l : ℕ} :
    P (State.lineWindowEnd s n l) := by
  unfold State.lineWindowEnd
  extract_lets a0 a1 a2 a3
  refine have k2 : P a2 := ?_; have k3 : P a3 := ?_; ?_
  all_goals clear_value a0 a1
  repeat' first
    | with_reducible assumption
    | with_reducible refine State.swapSpare_keeps (hP.mono (by decide)) ?_
    | with_reducible refine State.setRoLine_keeps (hP.mono (by decide)) ?_
    | with_reducible refine State.incSat_keeps (hP.mono (by decide)) ?_
    | with_reducible refine State.poolFault_keeps (hP.mono (by decide)) ?_
    | with_reducible refine ite_keeps ?_ ?_

theorem State.injAdvance_keeps (hP : Keeps 0x8000000 P) {s : State} (h : P s)  {n : ℕ} {k : ℕ} {tEnd : ℕ} :
    P (State.injAdvance s n k tEnd) := by
  unfold State.injAdvance
  extract_lets a0
  all_goals clear_value a0
  repeat' first
    | with_reducible assumption
    | with_reducible refine State.setTone_keeps (hP.mono (by decide)) ?_
    | with_reducible refine ite_keeps ?_ ?_
    | split

theorem State.closeWindow_keeps (hP : Keeps 0x218000834 P) {s : State} (h : P s)  {n : ℕ} {k : ℕ} {tEnd : ℕ} :
    P (State.closeWindow s n k tEnd) := by
  unfold State.closeWindow
  extract_lets a0
  all_goals clear_value a0
  repeat' first
    | with_reducible assumption
    | with_reducible refine State.lineWindowEnd_keeps (hP.mono (by decide)) ?_
    | with_reducible refine State.injAdvance_keeps (hP.mono (by decide)) ?_
    | with_reducible refine State.runWindow_keeps (hP.mono (by decide)) ?_
    | with_reducible refine State.setTone_keeps (hP.mono (by decide)) ?_

theorem State.finishWindow_keeps (hP : Keeps 0x25dc05834 P) {s : State} (h : P s)  {n : ℕ} {k : ℕ} {w : Win} {early : Bool} :
    P (State.finishWindow s n k w early) := by
  unfold State.finishWindow
  extract_lets a0 a1 a2 a3 a4 a5 a6 a7 a8 a9 a10 a11 a12 a13 a14 a15 a16 a17
  refine have k9 : P a9 := ?_; have k10 : P a10 := ?_; have k11 : P a11 := ?_; have k12 : P a12 := ?_; have k13 : P a13 := ?_; have k16 : P a16 := ?_; have k17 : P a17 := ?_; ?_
  all_goals clear_value a0 a1 a2 a3 a4 a5 a6 a7 a8 a14 a15
  repeat' first
    | with_reducible assumption
    | with_reducible refine State.incSat_keeps (hP.mono (by decide)) ?_
    | with_reducible refine State.decide_keeps (hP.mono (by decide)) ?_
    | with_reducible refine State.setFldS_keeps (hP.mono (by decide)) ?_
    | with_reducible refine State.setFld_keeps (hP.mono (by decide)) ?_
    | with_reducible refine State.trkUpdate_keeps (hP.mono (by decide)) ?_
    | with_reducible refine State.postRecords_keeps (hP.mono (by decide)) ?_
    | with_reducible refine State.armRamp_keeps (hP.mono (by decide)) ?_
    | with_reducible refine State.accumulate_keeps (hP.mono (by decide)) ?_
    | with_reducible refine State.closeWindow_keeps (hP.mono (by decide)) ?_
    | with_reducible refine ite_keeps ?_ ?_

theorem State.histClear_keeps (hP : Keeps 0x4 P) {s : State} (h : P s)  {n : ℕ} {k : ℕ} :
    P (State.histClear s n k) := by
  unfold State.histClear
  repeat' first
    | with_reducible assumption
    | with_reducible refine State.setReg_keeps (hP.mono (by decide)) ?_
    | with_reducible refine forRange_keeps ?_ ?_
    | intro _ _ _

theorem State.fgDone_keeps (hP : Keeps 0x10000004 P) {s : State} (h : P s)  {n : ℕ} {l : ℕ} :
    P (State.fgDone s n l) := by
  unfold State.fgDone
  extract_lets a0 a1
  refine have k0 : P a0 := ?_; ?_
  all_goals clear_value a1
  repeat' first
    | with_reducible assumption
    | with_reducible refine State.setFlag_keeps (hP.mono (by decide)) ?_
    | with_reducible refine State.setRoLine_keeps (hP.mono (by decide)) ?_
    | with_reducible refine ite_keeps ?_ ?_

theorem State.takeDemod_keeps (hP : Keeps 0x25dc05834 P) {s : State} (h : P s)  {n : ℕ} {k : ℕ} {x : ℤ × ℤ} :
    P (State.takeDemod s n k x) := by
  unfold State.takeDemod
  dsimp only
  have h' := fun r => State.setTone_keeps (hP.mono (by decide)) h (n := n) (k := k) (v := r)
  split
  · exact h
  · split
    · exact h
    · split
      · exact h' _
      · split
        · exact State.finishWindow_keeps (hP.mono (by decide)) (State.decide_keeps (hP.mono (by decide)) (h' _))
        · exact State.decide_keeps (hP.mono (by decide)) (h' _)

theorem State.fgStart_keeps (hP : Keeps 0x10000004 P) {s : State} (h : P s)  {n : ℕ} {l : ℕ} :
    P (State.fgStart s n l) := by
  unfold State.fgStart
  extract_lets a0 a1 a2
  refine have k0 : P a0 := ?_; have k1 : P a1 := ?_; ?_
  all_goals clear_value a2
  repeat' first
    | with_reducible assumption
    | with_reducible refine State.setFld_keeps (hP.mono (by decide)) ?_
    | with_reducible refine State.setFlag_keeps (hP.mono (by decide)) ?_
    | with_reducible refine State.setRoLine_keeps (hP.mono (by decide)) ?_
    | with_reducible refine ite_keeps ?_ ?_

theorem State.winFault_keeps (hP : Keeps 0x200000834 P) {s : State} (h : P s)  {n : ℕ} {k : ℕ} {t : ℕ} :
    P (State.winFault s n k t) := by
  unfold State.winFault
  repeat' first
    | with_reducible assumption
    | with_reducible refine State.poolFault_keeps (hP.mono (by decide)) ?_
    | with_reducible refine State.incSat_keeps (hP.mono (by decide)) ?_

theorem State.openAt_keeps (hP : Keeps 0xdc05834 P) {s : State} (h : P s)  {n : ℕ} {k : ℕ} {at_ : ℕ} {inj : Bool} :
    P (State.openAt s n k at_ inj) := by
  unfold State.openAt
  extract_lets a0 a1
  refine have k1 : P a1 := ?_; ?_
  all_goals clear_value a0
  repeat' first
    | with_reducible assumption
    | with_reducible refine State.setTone_keeps (hP.mono (by decide)) ?_
    | with_reducible refine State.slotInvalidate_keeps (hP.mono (by decide)) ?_
    | with_reducible refine ite_keeps ?_ ?_

theorem State.calCfgWrite_keeps (hP : Keeps 0x10000004 P) {s : State} (h : P s)  {n : ℕ} {l : ℕ} {v : Word} :
    P (State.calCfgWrite s n l v) := by
  unfold State.calCfgWrite
  extract_lets a0 a1 a2 a3 a4 a5
  refine have k0 : P a0 := ?_; have k2 : P a2 := ?_; have k4 : P a4 := ?_; ?_
  all_goals clear_value a1 a3 a5
  repeat' first
    | with_reducible assumption
    | with_reducible refine State.setReg_keeps (hP.mono (by decide)) ?_
    | with_reducible refine State.setFlag_keeps (hP.mono (by decide)) ?_
    | with_reducible refine State.setRoLine_keeps (hP.mono (by decide)) ?_
    | with_reducible refine ite_keeps ?_ ?_

theorem State.trkCfgWrite_keeps (hP : Keeps 0x4 P) {s : State} (h : P s)  {n : ℕ} {k : ℕ} {v : Word} :
    P (State.trkCfgWrite s n k v) := by
  unfold State.trkCfgWrite
  extract_lets a0 a1 a2
  refine have k0 : P a0 := ?_; have k1 : P a1 := ?_; have k2 : P a2 := ?_; ?_
  repeat' first
    | with_reducible assumption
    | with_reducible refine State.setFld_keeps (hP.mono (by decide)) ?_
    | with_reducible refine State.setFlag_keeps (hP.mono (by decide)) ?_
    | with_reducible refine State.histClear_keeps (hP.mono (by decide)) ?_
    | with_reducible refine ite_keeps ?_ ?_

theorem State.overRange_keeps (hP : Keeps 0x208000834 P) {s : State} (h : P s)  {n : ℕ} {l : ℕ} :
    P (State.overRange s n l) := by
  unfold State.overRange
  extract_lets a0
  refine have k0 : P a0 := ?_; ?_
  repeat' first
    | with_reducible assumption
    | with_reducible refine State.poolFault_keeps (hP.mono (by decide)) ?_
    | with_reducible refine State.incSat_keeps (hP.mono (by decide)) ?_
    | with_reducible refine State.setTone_keeps (hP.mono (by decide)) ?_
    | with_reducible refine ite_keeps ?_ ?_
    | with_reducible refine forRange_keeps ?_ ?_
    | intro _ _ _
    | intro _ _
    | split
    | extract_lets

theorem State.earlyCloseRamp_keeps (hP : Keeps 0x20002c834 P) {s : State} (h : P s)  {n : ℕ} {k : ℕ} :
    P (State.earlyCloseRamp s n k) := by
  unfold State.earlyCloseRamp
  extract_lets a0
  all_goals clear_value a0
  repeat' first
    | with_reducible assumption
    | with_reducible refine State.chainEnd_keeps (hP.mono (by decide)) ?_
    | with_reducible refine State.takeUpTo_keeps (hP.mono (by decide)) ?_
    | with_reducible refine ite_keeps ?_ ?_
    | split

theorem State.roEnable_keeps (hP : Keeps 0x4000000814 P) {s : State} (h : P s)  {n : ℕ} :
    P (State.roEnable s n) := by
  unfold State.roEnable
  extract_lets a0 a1
  refine have k0 : P a0 := ?_; have k1 : P a1 := ?_; ?_
  repeat' first
    | with_reducible assumption
    | with_reducible refine State.setFlag_keeps (hP.mono (by decide)) ?_
    | with_reducible refine State.unitOutcome_keeps (hP.mono (by decide)) ?_
    | with_reducible refine ite_keeps ?_ ?_
    | split
    | extract_lets
    | unfold a0
    | unfold a1
    | with_reducible refine hP.roEver (by decide) _ _ ?_

theorem State.roClrCount_keeps (hP : Keeps 0x4 P) {s : State} (h : P s)  {n : ℕ} :
    P (State.roClrCount s n) := by
  unfold State.roClrCount
  repeat' first
    | with_reducible assumption
    | with_reducible refine State.setReg_keeps (hP.mono (by decide)) ?_
    | with_reducible refine forRange_keeps ?_ ?_
    | intro _ _ _

theorem State.truncate_keeps (hP : Keeps 0x258000834 P) {s : State} (h : P s)  {n : ℕ} {k : ℕ} {w : Win} :
    P (State.truncate s n k w) := by
  unfold State.truncate
  extract_lets a0 a1 a2 a3 a4 a5
  refine have k3 : P a3 := ?_; have k4 : P a4 := ?_; have k5 : P a5 := ?_; ?_
  all_goals clear_value a0 a1 a2
  repeat' first
    | with_reducible assumption
    | with_reducible refine State.setFld_keeps (hP.mono (by decide)) ?_
    | with_reducible refine State.postRecords_keeps (hP.mono (by decide)) ?_
    | with_reducible refine State.closeWindow_keeps (hP.mono (by decide)) ?_
    | with_reducible refine State.poolFault_keeps (hP.mono (by decide)) ?_
    | with_reducible refine ite_keeps ?_ ?_

theorem State.truncateTone_keeps (hP : Keeps 0x258000834 P) {s : State} (h : P s)  {n : ℕ} {k : ℕ} :
    P (State.truncateTone s n k) := by
  unfold State.truncateTone
  extract_lets a0 a1
  refine have k1 : P a1 := ?_; ?_
  all_goals clear_value a0
  repeat' first
    | with_reducible assumption
    | with_reducible refine State.setTone_keeps (hP.mono (by decide)) ?_
    | with_reducible refine State.truncate_keeps (hP.mono (by decide)) ?_
    | split

theorem State.truncatePool_keeps (hP : Keeps 0x258000834 P) {s : State} (h : P s)  {n : ℕ} :
    P (State.truncatePool s n) := by
  unfold State.truncatePool
  repeat' first
    | with_reducible assumption
    | with_reducible refine State.truncateTone_keeps (hP.mono (by decide)) ?_
    | with_reducible refine forRange_keeps ?_ ?_
    | intro _ _ _

theorem State.roDisable_keeps (hP : Keeps 0x25840c834 P) {s : State} (h : P s)  {n : ℕ} :
    P (State.roDisable s n) := by
  unfold State.roDisable
  repeat' first
    | with_reducible assumption
    | with_reducible refine State.setFlag_keeps (hP.mono (by decide)) ?_
    | with_reducible refine State.disarm_keeps (hP.mono (by decide)) ?_
    | with_reducible refine State.truncatePool_keeps (hP.mono (by decide)) ?_
    | with_reducible refine State.endChains_keeps (hP.mono (by decide)) ?_

theorem State.roCtrlWrite_keeps (hP : Keeps 0x425840c834 P) {s : State} (h : P s)  {n : ℕ} {v : Word} :
    P (State.roCtrlWrite s n v) := by
  unfold State.roCtrlWrite
  extract_lets a0
  refine have k0 : P a0 := ?_; ?_
  repeat' first
    | with_reducible assumption
    | with_reducible refine State.roClrCount_keeps (hP.mono (by decide)) ?_
    | with_reducible refine State.roEnable_keeps (hP.mono (by decide)) ?_
    | with_reducible refine State.roDisable_keeps (hP.mono (by decide)) ?_
    | with_reducible refine ite_keeps ?_ ?_

theorem State.swapTimeout_keeps (hP : Keeps 0x10000000 P) {s : State} (h : P s)  {n : ℕ} {l : ℕ} :
    P (State.swapTimeout s n l) := by
  unfold State.swapTimeout
  extract_lets a0
  all_goals clear_value a0
  repeat' first
    | with_reducible assumption
    | with_reducible refine State.setRoLine_keeps (hP.mono (by decide)) ?_
    | with_reducible refine ite_keeps ?_ ?_

theorem State.setWeight_keeps (hP : Keeps 0x20000000 P) {s : State} (h : P s)  {n : ℕ} {k : ℕ} {i : ℕ} {v : Word} :
    P (State.setWeight s n k i v) := by
  unfold State.setWeight
  repeat' first
    | with_reducible assumption
    | exact fun hw => SMap.wf_set _ hw _ _
    | with_reducible refine hP.weights (by decide) _ _ ?_ ?_

theorem State.winCommit_keeps (hP : Keeps 0x208000834 P) {s : State} (h : P s)  {n : ℕ} {k : ℕ} {t : ℕ} :
    P (State.winCommit s n k t) := by
  unfold State.winCommit
  extract_lets a0
  all_goals clear_value a0
  repeat' first
    | with_reducible assumption
    | with_reducible refine State.winFault_keeps (hP.mono (by decide)) ?_
    | with_reducible refine State.setTone_keeps (hP.mono (by decide)) ?_
    | with_reducible refine ite_keeps ?_ ?_

theorem State.takeDemods_keeps (hP : Keeps 0x25dc05834 P) {s : State} (h : P s)  {n : ℕ} {k : ℕ} {stop : Bool} {x4 : List (BitVec 18 × BitVec 18)} :
    P (State.takeDemods s n k stop x4) := by
  induction x4 generalizing s with
  | nil => exact h
  | cons x xs ih =>
    have h' : P (s.takeDemod n k (x.1.toInt, x.2.toInt)) := State.takeDemod_keeps (hP.mono (by decide)) h
    simp only [State.takeDemods]
    split
    · exact h'
    · exact ih h'

theorem State.windowEnd_keeps (hP : Keeps 0x25dc05834 P) {s : State} (h : P s)  {n : ℕ} {k : ℕ} {xs : List (BitVec 18 × BitVec 18)} :
    P (State.windowEnd s n k xs) := by
  unfold State.windowEnd
  extract_lets a0 a1
  refine have k1 : P a1 := ?_; ?_
  all_goals clear_value a0
  repeat' first
    | with_reducible assumption
    | with_reducible refine State.takeDemods_keeps (hP.mono (by decide)) ?_
    | with_reducible refine State.finishWindow_keeps (hP.mono (by decide)) ?_
    | with_reducible refine ite_keeps ?_ ?_
    | split

theorem State.openTimed_keeps (hP : Keeps 0x20dc05834 P) {s : State} (h : P s)  {n : ℕ} {k : ℕ} {q : WinSeq} :
    P (State.openTimed s n k q) := by
  unfold State.openTimed
  extract_lets a0 a1 a2
  refine have k2 : P a2 := ?_; ?_
  all_goals clear_value a0 a1
  repeat' first
    | with_reducible assumption
    | with_reducible refine State.winFault_keeps (hP.mono (by decide)) ?_
    | with_reducible refine State.setTone_keeps (hP.mono (by decide)) ?_
    | with_reducible refine State.incSat_keeps (hP.mono (by decide)) ?_
    | with_reducible refine State.openAt_keeps (hP.mono (by decide)) ?_
    | with_reducible refine ite_keeps ?_ ?_

theorem State.windowOpen_keeps (hP : Keeps 0x20dc05834 P) {s : State} (h : P s)  {n : ℕ} {k : ℕ} :
    P (State.windowOpen s n k) := by
  unfold State.windowOpen
  extract_lets a0 a1
  all_goals clear_value a0 a1
  repeat' first
    | with_reducible assumption
    | with_reducible refine State.openTimed_keeps (hP.mono (by decide)) ?_
    | with_reducible refine State.openAt_keeps (hP.mono (by decide)) ?_
    | with_reducible refine State.setTone_keeps (hP.mono (by decide)) ?_
    | with_reducible refine ite_keeps ?_ ?_
    | split

theorem State.swapStep_keeps (hP : Keeps 0x4 P) {s : State} (h : P s)  {n : ℕ} {l : ℕ} :
    P (State.swapStep s n l) := by
  unfold State.swapStep
  repeat' first
    | with_reducible assumption
    | with_reducible refine State.setFlag_keeps (hP.mono (by decide)) ?_
    | with_reducible refine State.swapSpare_keeps (hP.mono (by decide)) ?_
    | with_reducible refine ite_keeps ?_ ?_

theorem State.accClear_keeps (hP : Keeps 0x8000004 P) {s : State} (h : P s)  {n : ℕ} {k : ℕ} :
    P (State.accClear s n k) := by
  unfold State.accClear
  extract_lets a0
  all_goals clear_value a0
  repeat' first
    | with_reducible assumption
    | with_reducible refine State.setReg_keeps (hP.mono (by decide)) ?_
    | with_reducible refine State.setTone_keeps (hP.mono (by decide)) ?_

theorem State.fgBegin_keeps (hP : Keeps 0x10000000 P) {s : State} (h : P s)  {n : ℕ} {l : ℕ} :
    P (State.fgBegin s n l) := by
  unfold State.fgBegin
  extract_lets a0
  all_goals clear_value a0
  repeat' first
    | with_reducible assumption
    | with_reducible refine State.setRoLine_keeps (hP.mono (by decide)) ?_
    | with_reducible refine ite_keeps ?_ ?_

theorem State.fgcalWrite_keeps (hP : Keeps 0x10000004 P) {s : State} (h : P s)  {n : ℕ} {l : ℕ} {v : Word} :
    P (State.fgcalWrite s n l v) := by
  unfold State.fgcalWrite
  extract_lets a0
  refine have k0 : P a0 := ?_; ?_
  repeat' first
    | with_reducible assumption
    | with_reducible refine State.setFlag_keeps (hP.mono (by decide)) ?_
    | with_reducible refine State.fgStart_keeps (hP.mono (by decide)) ?_
    | with_reducible refine ite_keeps ?_ ?_

theorem State.freezeExpiry_keeps (hP : Keeps 0x210000834 P) {s : State} (h : P s)  {n : ℕ} {l : ℕ} :
    P (State.freezeExpiry s n l) := by
  unfold State.freezeExpiry
  extract_lets a0
  all_goals clear_value a0
  repeat' first
    | with_reducible assumption
    | with_reducible refine State.poolFault_keeps (hP.mono (by decide)) ?_
    | with_reducible refine State.setFlag_keeps (hP.mono (by decide)) ?_
    | with_reducible refine State.setRoLine_keeps (hP.mono (by decide)) ?_
    | with_reducible refine ite_keeps ?_ ?_

end Sys2Proof.Machine
end

