-- ==== Sys2Proof/Laws/KeepsReed.lean ====
section
/-!
SUPPORT. What the operations of Machine/Reed.lean may change.
-/
namespace Sys2Proof.Machine

variable {P : State → Prop}

theorem State.setCore_keeps (hP : Keeps 0x200000 P) {s : State} (h : P s)  {c : ℕ} {k : Core} :
    P (State.setCore s c k) := by
  unfold State.setCore
  repeat' first
    | with_reducible assumption
    | exact fun hw => SMap.wf_set _ hw _ _
    | with_reducible refine hP.cores (by decide) _ _ ?_ ?_

theorem State.setRcState_keeps (hP : Keeps 0x4 P) {s : State} (h : P s)  {c : ℕ} {v : ℕ} :
    P (State.setRcState s c v) := by
  unfold State.setRcState
  repeat' first
    | with_reducible assumption
    | with_reducible refine State.setFld_keeps (hP.mono (by decide)) ?_

theorem State.setLevel_keeps (hP : Keeps 0x4 P) {s : State} (h : P s)  {c : ℕ} {v : ℕ} :
    P (State.setLevel s c v) := by
  unfold State.setLevel
  repeat' first
    | with_reducible assumption
    | with_reducible refine State.setFld_keeps (hP.mono (by decide)) ?_

theorem State.setPc_keeps (hP : Keeps 0x4 P) {s : State} (h : P s)  {c : ℕ} {v : ℕ} :
    P (State.setPc s c v) := by
  unfold State.setPc
  repeat' first
    | with_reducible assumption
    | with_reducible refine State.setFld_keeps (hP.mono (by decide)) ?_

theorem State.irqTake_keeps (hP : Keeps 0x200004 P) {s : State} (h : P s)  {c : ℕ} {src : ℕ} {ret : ℕ} {under : ℕ} :
    P (State.irqTake s c src ret under) := by
  unfold State.irqTake
  extract_lets a0 a1 a2 a3 a4 a5 a6 a7
  refine have k3 : P a3 := ?_; have k4 : P a4 := ?_; have k5 : P a5 := ?_; have k7 : P a7 := ?_; ?_
  all_goals clear_value a0 a1 a2 a6
  repeat' first
    | with_reducible assumption
    | with_reducible refine State.setFld_keeps (hP.mono (by decide)) ?_
    | with_reducible refine State.setLevel_keeps (hP.mono (by decide)) ?_
    | with_reducible refine State.setCore_keeps (hP.mono (by decide)) ?_
    | with_reducible refine State.setPc_keeps (hP.mono (by decide)) ?_

theorem State.delayDone_keeps (hP : Keeps 0x200004 P) {s : State} (h : P s)  {c : ℕ} {d : Delay} {next : ℕ} :
    P (State.delayDone s c d next) := by
  unfold State.delayDone
  extract_lets a0 a1 a2 a3 a4 a5
  refine have k1 : P a1 := ?_; have k3 : P a3 := ?_; have k4 : P a4 := ?_; ?_
  all_goals clear_value a0 a2 a5
  repeat' first
    | with_reducible assumption
    | with_reducible refine State.setCore_keeps (hP.mono (by decide)) ?_
    | with_reducible refine State.setRcState_keeps (hP.mono (by decide)) ?_
    | with_reducible refine State.irqTake_keeps (hP.mono (by decide)) ?_
    | with_reducible refine State.setPc_keeps (hP.mono (by decide)) ?_
    | with_reducible refine State.setLevel_keeps (hP.mono (by decide)) ?_
    | with_reducible refine ite_keeps ?_ ?_
    | split
    | extract_lets
    | unfold a1
    | unfold a3

theorem State.progRefused_keeps (hP : Keeps 0x4 P) {s : State} (h : P s)  {c : ℕ} {r : ℕ} :
    P (State.progRefused s c r) := by
  unfold State.progRefused
  repeat' first
    | with_reducible assumption
    | with_reducible refine State.setFld_keeps (hP.mono (by decide)) ?_
    | with_reducible refine State.setFlag_keeps (hP.mono (by decide)) ?_

theorem State.dmemWrite_keeps (hP : Keeps 0x80000 P) {s : State} (h : P s)  {c : ℕ} {a : ℕ} {size : ℕ} {v : ℕ} :
    P (State.dmemWrite s c a size v) := by
  unfold State.dmemWrite
  repeat' first
    | with_reducible assumption
    | exact fun hw => Memory.wf_writeLe hw _ _ _
    | with_reducible refine hP.dmem (by decide) _ _ ?_ ?_

theorem State.put_keeps (hP : Keeps 0x200000 P) {s : State} (h : P s)  {c : ℕ} {lat : ℕ} {id : ℕ} {v : ℕ} :
    P (State.put s c lat id v) := by
  unfold State.put
  extract_lets a0
  all_goals clear_value a0
  repeat' first
    | with_reducible assumption
    | with_reducible refine State.setCore_keeps (hP.mono (by decide)) ?_
    | with_reducible refine ite_keeps ?_ ?_

theorem State.putFlag_keeps (hP : Keeps 0x200000 P) {s : State} (h : P s)  {c : ℕ} {id : ℕ} {b : Bool} :
    P (State.putFlag s c id b) := by
  unfold State.putFlag
  repeat' first
    | with_reducible assumption
    | with_reducible refine State.put_keeps (hP.mono (by decide)) ?_

theorem State.writeId_keeps (hP : Keeps 0x200000 P) {s : State} (h : P s)  {c : ℕ} {id : ℕ} {v : ℕ} :
    P (State.writeId s c id v) := by
  unfold State.writeId
  repeat' first
    | with_reducible assumption
    | with_reducible refine State.putFlag_keeps (hP.mono (by decide)) ?_
    | with_reducible refine State.put_keeps (hP.mono (by decide)) ?_
    | with_reducible refine ite_keeps ?_ ?_

theorem State.postActions_keeps (hP : Keeps 0x280000 P) {s : State} (h : P s)  {c : ℕ} {ex1 : ℕ} :
    P (State.postActions s c ex1) := by
  unfold State.postActions
  extract_lets a0 a1 a2 a3 a4
  refine have k1 : P a1 := ?_; have k3 : P a3 := ?_; ?_
  all_goals clear_value a0 a2 a4
  repeat' first
    | with_reducible assumption
    | with_reducible refine State.dmemWrite_keeps (hP.mono (by decide)) ?_
    | with_reducible refine State.put_keeps (hP.mono (by decide)) ?_
    | with_reducible refine State.setCore_keeps (hP.mono (by decide)) ?_
    | with_reducible refine State.writeId_keeps (hP.mono (by decide)) ?_
    | split
    | extract_lets
    | unfold a1
    | unfold a3

theorem State.coreFault_keeps (hP : Keeps 0x200000834 P) {s : State} (h : P s)  {c : ℕ} {code : ℕ} {pc : ℕ} {time : ℕ} {cmd : ℕ} {partialAt : Option ℕ} :
    P (State.coreFault s c code pc time cmd partialAt) := by
  unfold State.coreFault
  extract_lets a0 a1 a2 a3 a4 a5 a6
  refine have k2 : P a2 := ?_; have k3 : P a3 := ?_; have k4 : P a4 := ?_; have k5 : P a5 := ?_; have k6 : P a6 := ?_; ?_
  all_goals clear_value a0 a1
  repeat' first
    | with_reducible assumption
    | with_reducible refine State.setFld_keeps (hP.mono (by decide)) ?_
    | with_reducible refine State.setReg64_keeps (hP.mono (by decide)) ?_
    | with_reducible refine State.icPend_keeps (hP.mono (by decide)) ?_
    | with_reducible refine State.poolFault_keeps (hP.mono (by decide)) ?_
    | with_reducible refine ite_keeps ?_ ?_

theorem State.bundleFault_keeps (hP : Keeps 0x200200834 P) {s : State} (h : P s)  {c : ℕ} {code : ℕ} :
    P (State.bundleFault s c code) := by
  unfold State.bundleFault
  extract_lets a0 a1 a2 a3
  refine have k2 : P a2 := ?_; have k3 : P a3 := ?_; ?_
  all_goals clear_value a0 a1
  repeat' first
    | with_reducible assumption
    | with_reducible refine State.setCore_keeps (hP.mono (by decide)) ?_
    | with_reducible refine State.runFault_keeps (hP.mono (by decide)) ?_
    | with_reducible refine State.setRcState_keeps (hP.mono (by decide)) ?_
    | with_reducible refine State.coreFault_keeps (hP.mono (by decide)) ?_

theorem State.bundleEnd_keeps (hP : Keeps 0x280004 P) {s : State} (h : P s)  {c : ℕ} {ex1 : ℕ} :
    P (State.bundleEnd s c ex1) := by
  unfold State.bundleEnd
  extract_lets a0 a1
  refine have k0 : P a0 := ?_; ?_
  all_goals clear_value a1
  repeat' first
    | with_reducible assumption
    | with_reducible refine State.postActions_keeps (hP.mono (by decide)) ?_
    | with_reducible refine State.setCore_keeps (hP.mono (by decide)) ?_
    | with_reducible refine State.setPc_keeps (hP.mono (by decide)) ?_
    | with_reducible refine State.delayDone_keeps (hP.mono (by decide)) ?_
    | with_reducible refine ite_keeps ?_ ?_
    | split

theorem State.bundleClose_keeps (hP : Keeps 0x200280834 P) {s : State} (h : P s)  {c : ℕ} :
    P (State.bundleClose s c) := by
  unfold State.bundleClose
  repeat' first
    | with_reducible assumption
    | with_reducible refine State.bundleFault_keeps (hP.mono (by decide)) ?_
    | with_reducible refine State.bundleEnd_keeps (hP.mono (by decide)) ?_
    | with_reducible refine ite_keeps ?_ ?_

theorem State.putSat_keeps (hP : Keeps 0x200000 P) {s : State} (h : P s)  {c : ℕ} {b : Bool} :
    P (State.putSat s c b) := by
  unfold State.putSat
  repeat' first
    | with_reducible assumption
    | with_reducible refine State.putFlag_keeps (hP.mono (by decide)) ?_
    | with_reducible refine ite_keeps ?_ ?_

theorem State.closeHalf_keeps (hP : Keeps 0x200280834 P) {s : State} (h : P s)  {c : ℕ} :
    P (State.closeHalf s c) := by
  unfold State.closeHalf
  repeat' first
    | with_reducible assumption
    | with_reducible refine State.bundleClose_keeps (hP.mono (by decide)) ?_
    | with_reducible refine ite_keeps ?_ ?_

theorem State.interruptEntry_keeps (hP : Keeps 0x200280834 P) {s : State} (h : P s)  {c : ℕ} :
    P (State.interruptEntry s c) := by
  unfold State.interruptEntry
  extract_lets a0
  refine have k0 : P a0 := ?_; ?_
  repeat' first
    | with_reducible assumption
    | with_reducible refine State.closeHalf_keeps (hP.mono (by decide)) ?_
    | with_reducible refine State.irqTake_keeps (hP.mono (by decide)) ?_
    | with_reducible refine ite_keeps ?_ ?_
    | split

theorem State.illegalBundle_keeps (hP : Keeps 0x200200834 P) {s : State} (h : P s)  {c : ℕ} :
    P (State.illegalBundle s c) := by
  unfold State.illegalBundle
  repeat' first
    | with_reducible assumption
    | with_reducible refine State.bundleFault_keeps (hP.mono (by decide)) ?_

theorem State.disarmCore_keeps (hP : Keeps 0x400000 P) {s : State} (h : P s)  {c : ℕ} :
    P (State.disarmCore s c) := by
  unfold State.disarmCore
  exact hP.armed (by decide) s _ h (fun hw => SMap.wf_mapFilter _ hw _ _ (fun _ => rfl) (fun e he => by simpa using he))

theorem State.coresReset_keeps (hP : Keeps 0x600004 P) {s : State} (h : P s)  {n : ℕ} :
    P (State.coresReset s n) := by
  unfold State.coresReset
  extract_lets a0
  refine have k0 : P a0 := ?_; ?_
  repeat' first
    | with_reducible assumption
    | with_reducible refine State.setCore_keeps (hP.mono (by decide)) ?_
    | with_reducible refine State.disarmCore_keeps (hP.mono (by decide)) ?_
    | with_reducible refine State.resetRegs_keeps (hP.mono (by decide)) ?_
    | with_reducible refine forRange_keeps ?_ ?_
    | intro _ _ _

theorem State.coreStop_keeps (hP : Keeps 0x600004 P) {s : State} (h : P s)  {c : ℕ} :
    P (State.coreStop s c) := by
  unfold State.coreStop
  extract_lets a0 a1 a2 a3 a4 a5 a6 a7
  refine have k3 : P a3 := ?_; have k4 : P a4 := ?_; have k6 : P a6 := ?_; have k7 : P a7 := ?_; ?_
  all_goals clear_value a0 a1 a2 a5
  repeat' first
    | with_reducible assumption
    | with_reducible refine State.incSat_keeps (hP.mono (by decide)) ?_
    | with_reducible refine State.disarmCore_keeps (hP.mono (by decide)) ?_
    | with_reducible refine State.setCore_keeps (hP.mono (by decide)) ?_
    | with_reducible refine State.setFld_keeps (hP.mono (by decide)) ?_
    | with_reducible refine State.setRcState_keeps (hP.mono (by decide)) ?_
    | with_reducible refine ite_keeps ?_ ?_

theorem State.coreStart_keeps (hP : Keeps 0x200004 P) {s : State} (h : P s)  {c : ℕ} {ts : ℕ} :
    P (State.coreStart s c ts) := by
  unfold State.coreStart
  extract_lets a0 a1 a2 a3 a4 a5 a6 a7 a8 a9 a10 a11 a12 a13 a14
  refine have k4 : P a4 := ?_; have k5 : P a5 := ?_; have k6 : P a6 := ?_; have k7 : P a7 := ?_; have k8 : P a8 := ?_; have k9 : P a9 := ?_; have k10 : P a10 := ?_; have k11 : P a11 := ?_; have k12 : P a12 := ?_; have k13 : P a13 := ?_; have k14 : P a14 := ?_; ?_
  all_goals clear_value a0 a1 a2 a3
  repeat' first
    | with_reducible assumption
    | with_reducible refine State.setLevel_keeps (hP.mono (by decide)) ?_
    | with_reducible refine State.setFld_keeps (hP.mono (by decide)) ?_
    | with_reducible refine State.setCore_keeps (hP.mono (by decide)) ?_
    | with_reducible refine State.setReg_keeps (hP.mono (by decide)) ?_
    | with_reducible refine State.setReg64_keeps (hP.mono (by decide)) ?_
    | with_reducible refine State.setPc_keeps (hP.mono (by decide)) ?_
    | with_reducible refine State.setRcState_keeps (hP.mono (by decide)) ?_

theorem State.putW_keeps (hP : Keeps 0x200000 P) {s : State} (h : P s)  {c : ℕ} {lat : ℕ} {g : ℕ} {v : Word} :
    P (State.putW s c lat g v) := by
  unfold State.putW
  repeat' first
    | with_reducible assumption
    | with_reducible refine State.put_keeps (hP.mono (by decide)) ?_

theorem State.issue_keeps (hP : Keeps 0x0 P) {s : State} (h : P s)  {c : ℕ} {f : State → State} (hf : ∀ y0, P y0 → P (f y0)) :
    P (State.issue s c f) := by
  unfold State.issue
  repeat' first
    | with_reducible assumption
    | with_reducible refine hf _ ?_
    | with_reducible refine ite_keeps ?_ ?_

theorem State.bundleStart_keeps (hP : Keeps 0x200280834 P) {s : State} (h : P s)  {c : ℕ} {f : State → State} (hf : ∀ y0, P y0 → P (f y0)) :
    P (State.bundleStart s c f) := by
  unfold State.bundleStart
  extract_lets a0
  refine have k0 : P a0 := ?_; ?_
  repeat' first
    | with_reducible assumption
    | with_reducible refine hf _ ?_
    | with_reducible refine State.closeHalf_keeps (hP.mono (by decide)) ?_
    | with_reducible refine State.illegalBundle_keeps (hP.mono (by decide)) ?_
    | with_reducible refine ite_keeps ?_ ?_

theorem State.dSlot_keeps (hP : Keeps 0x200280834 P) {s : State} (h : P s)  {c : ℕ} {whole : Bool} {legal : Bool} {op : State → State} (hop : ∀ y0, P y0 → P (op y0)) :
    P (State.dSlot s c whole legal op) := by
  unfold State.dSlot
  repeat' first
    | with_reducible assumption
    | with_reducible refine hop _ ?_
    | with_reducible refine State.bundleStart_keeps (hP.mono (by decide)) ?_ ?_
    | with_reducible refine State.illegalBundle_keeps (hP.mono (by decide)) ?_
    | with_reducible refine State.bundleClose_keeps (hP.mono (by decide)) ?_
    | with_reducible refine State.setCore_keeps (hP.mono (by decide)) ?_
    | with_reducible refine ite_keeps ?_ ?_
    | intro _ _ _
    | intro _ _

theorem State.progLoad_keeps (hP : Keeps 0x380004 P) {s : State} (h : P s)  {c : ℕ} {img : List Byte} :
    P (State.progLoad s c img) := by
  unfold State.progLoad
  have q1 := fun (u : State) (hu : P u) v0 w0 => hP.dmem (by decide) u v0 hu w0
  have q2 := fun (u : State) (hu : P u) v0 w0 v1 w1 => hP.imem (by decide) _ v1 (q1 u hu v0 w0) w1
  dsimp only at q2
  extract_lets a0 a1 a2 a3 a4 a5 a6 a7 a8 a9 a10 a11
  refine have k4 : P a4 := ?_; have k6 : P a6 := ?_; have k7 : P a7 := ?_; have k8 : P a8 := ?_; have k9 : P a9 := ?_; have k10 : P a10 := ?_; have k11 : P a11 := ?_; ?_
  all_goals clear_value a0 a1 a2 a3 a5
  repeat' first
    | with_reducible assumption
    | with_reducible refine State.setCore_keeps (hP.mono (by decide)) ?_
    | with_reducible refine State.setFld_keeps (hP.mono (by decide)) ?_
    | with_reducible refine State.setFlag_keeps (hP.mono (by decide)) ?_
    | with_reducible refine State.setRcState_keeps (hP.mono (by decide)) ?_
    | with_reducible refine ite_keeps ?_ ?_
    | exact fun hw => imemWrite_wf (SMap.wf_drop _ hw _) _ _
    | exact fun hw => SMap.wf_drop _ hw _
    | exact fun hw => Memory.wf_writeBytes hw _ _
    | split
    | extract_lets
    | refine q2 _ ?_ _ ?_ _ ?_

theorem State.control_keeps (hP : Keeps 0x200280834 P) {s : State} (h : P s)  {c : ℕ} {legal : Bool} {op : State → State × Delay} (hop : ∀ y0, P y0 → P (op y0).1) :
    P (State.control s c legal op) := by
  unfold State.control
  repeat' first
    | with_reducible assumption
    | with_reducible refine hop _ ?_
    | with_reducible refine State.bundleStart_keeps (hP.mono (by decide)) ?_ ?_
    | with_reducible refine State.illegalBundle_keeps (hP.mono (by decide)) ?_
    | with_reducible refine State.bundleEnd_keeps (hP.mono (by decide)) ?_
    | with_reducible refine State.setCore_keeps (hP.mono (by decide)) ?_
    | with_reducible refine ite_keeps ?_ ?_
    | intro _ _ _
    | intro _ _

theorem State.coreRelease_keeps (hP : Keeps 0x4 P) {s : State} (h : P s)  {c : ℕ} :
    P (State.coreRelease s c) := by
  unfold State.coreRelease
  repeat' first
    | with_reducible assumption
    | with_reducible refine State.setRcState_keeps (hP.mono (by decide)) ?_
    | with_reducible refine ite_keeps ?_ ?_

theorem State.tSlot_keeps (hP : Keeps 0x200280834 P) {s : State} (h : P s)  {c : ℕ} {long : Bool} {legal : Bool} {op : State → State} (hop : ∀ y0, P y0 → P (op y0)) :
    P (State.tSlot s c long legal op) := by
  unfold State.tSlot
  extract_lets a0
  refine have k0 : ∀ u, P u → P (a0 u) := ?_; ?_
  repeat' first
    | with_reducible assumption
    | with_reducible refine hop _ ?_
    | with_reducible refine k0 _ ?_
    | with_reducible refine State.illegalBundle_keeps (hP.mono (by decide)) ?_
    | with_reducible refine State.bundleFault_keeps (hP.mono (by decide)) ?_
    | with_reducible refine State.bundleStart_keeps (hP.mono (by decide)) ?_ ?_
    | with_reducible refine ite_keeps ?_ ?_
    | intro _ _ _
    | intro _ _
    | intro _ _
    | split
    | extract_lets
    | unfold a0

end Sys2Proof.Machine
end

