-- ==== Sys2Proof/Laws/KeepsBoardwalk.lean ====
section
/-!
SUPPORT. What the operations of Machine/Boardwalk.lean may change.
-/
namespace Sys2Proof.Machine

variable {P : State → Prop}

theorem State.writeWeights_keeps (hP : Keeps 0x20000000 P) {s : State} (h : P s)  {n : ℕ} {k : ℕ} {x3 : ℕ} {x4 : List Word} :
    P (State.writeWeights s n k x3 x4) := by
  induction x4 generalizing s x3 with
  | nil => exact h
  | cons w ws ih => exact ih (State.setWeight_keeps (hP.mono (by decide)) h)

theorem State.hostWrite_keeps (hP : Keeps 0x10 P) {s : State} (h : P s)  {addr : ℕ} {bytes : List Byte} :
    P (State.hostWrite s addr bytes) := by
  unfold State.hostWrite
  repeat' first
    | with_reducible assumption
    | with_reducible refine State.emit_keeps (hP.mono (by decide)) ?_
    | with_reducible refine ite_keeps ?_ ?_

theorem State.writeStatus_keeps (hP : Keeps 0x10 P) {s : State} (h : P s)  {p : ℕ} :
    P (State.writeStatus s p) := by
  unfold State.writeStatus
  repeat' first
    | with_reducible assumption
    | with_reducible refine State.hostWrite_keeps (hP.mono (by decide)) ?_
    | with_reducible refine ite_keeps ?_ ?_

theorem State.writeRecord_keeps (hP : Keeps 0x814 P) {s : State} (h : P s)  {p : ℕ} {cq : ℕ} {seq : ℕ} {flg : ℕ} {c : Completion} :
    P (State.writeRecord s p cq seq flg c) := by
  unfold State.writeRecord
  extract_lets a0 a1 a2 a3 a4 a5
  refine have k0 : P a0 := ?_; have k1 : P a1 := ?_; have k3 : P a3 := ?_; have k4 : P a4 := ?_; have k5 : P a5 := ?_; ?_
  all_goals clear_value a2
  repeat' first
    | with_reducible assumption
    | with_reducible refine State.setFld_keeps (hP.mono (by decide)) ?_
    | with_reducible refine State.incSat_keeps (hP.mono (by decide)) ?_
    | with_reducible refine State.hostWrite_keeps (hP.mono (by decide)) ?_
    | with_reducible refine State.setRegN_keeps (hP.mono (by decide)) ?_
    | with_reducible refine State.icPend_keeps (hP.mono (by decide)) ?_
    | with_reducible refine State.writeStatus_keeps (hP.mono (by decide)) ?_
    | with_reducible refine ite_keeps ?_ ?_

theorem State.setSq_keeps (hP : Keeps 0x400000000 P) {s : State} (h : P s)  {p : ℕ} {r : ℕ} {v : SubRing} :
    P (State.setSq s p r v) := by
  unfold State.setSq
  repeat' first
    | with_reducible assumption
    | exact fun hw => SMap.wf_set _ hw _ _
    | with_reducible refine hP.sqs (by decide) _ _ ?_ ?_

theorem State.endDesc_keeps (hP : Keeps 0x400000814 P) {s : State} (h : P s)  {p : ℕ} {r : ℕ} {c : Completion} :
    P (State.endDesc s p r c) := by
  unfold State.endDesc
  extract_lets a0
  all_goals clear_value a0
  repeat' first
    | with_reducible assumption
    | with_reducible refine State.writeRecord_keeps (hP.mono (by decide)) ?_
    | with_reducible refine State.setSq_keeps (hP.mono (by decide)) ?_
    | split

theorem State.settleRing_keeps (hP : Keeps 0x400000814 P) {s : State} (h : P s)  {p : ℕ} {r : ℕ} :
    P (State.settleRing s p r) := by
  unfold State.settleRing
  repeat' first
    | with_reducible assumption
    | with_reducible refine State.endDesc_keeps (hP.mono (by decide)) ?_
    | with_reducible refine ite_keeps ?_ ?_
    | split

theorem State.settle_keeps (hP : Keeps 0x400000814 P) {s : State} (h : P s)  {p : ℕ} :
    P (State.settle s p) := by
  unfold State.settle
  repeat' first
    | with_reducible assumption
    | with_reducible refine State.settleRing_keeps (hP.mono (by decide)) ?_
    | with_reducible refine forRange_keeps ?_ ?_
    | intro _ _ _

theorem State.finish_keeps (hP : Keeps 0x400000814 P) {s : State} (h : P s)  {p : ℕ} {r : ℕ} {status : ℕ} {reason : ℕ} {fault : ℕ} {steps : ℕ} {shots : ℕ} :
    P (State.finish s p r status reason fault steps shots) := by
  unfold State.finish
  repeat' first
    | with_reducible assumption
    | with_reducible refine State.settle_keeps (hP.mono (by decide)) ?_
    | with_reducible refine State.endDesc_keeps (hP.mono (by decide)) ?_
    | split

theorem State.refuse_keeps (hP : Keeps 0x400000814 P) {s : State} (h : P s)  {p : ℕ} {r : ℕ} {reason : ℕ} :
    P (State.refuse s p r reason) := by
  unfold State.refuse
  repeat' first
    | with_reducible assumption
    | with_reducible refine State.finish_keeps (hP.mono (by decide)) ?_

theorem State.readAcc_keeps (hP : Keeps 0x408000814 P) {s : State} (h : P s)  {p : ℕ} {r : ℕ} :
    P (State.readAcc s p r) := by
  unfold State.readAcc
  repeat' first
    | with_reducible assumption
    | with_reducible refine State.refuse_keeps (hP.mono (by decide)) ?_
    | with_reducible refine State.hostWrite_keeps (hP.mono (by decide)) ?_
    | with_reducible refine State.accClear_keeps (hP.mono (by decide)) ?_
    | with_reducible refine State.finish_keeps (hP.mono (by decide)) ?_
    | with_reducible refine ite_keeps ?_ ?_
    | split

theorem State.setRun_keeps (hP : Keeps 0x200000000 P) {s : State} (h : P s)  {x : Run} :
    P (State.setRun s x) := by
  unfold State.setRun
  repeat' first
    | with_reducible assumption
    | with_reducible refine ite_keeps ?_ ?_
    | split
    | with_reducible refine hP.runs (by decide) _ _ ?_

theorem State.bwFault_keeps (hP : Keeps 0x834 P) {s : State} (h : P s)  {p : ℕ} {code : ℕ} :
    P (State.bwFault s p code) := by
  unfold State.bwFault
  extract_lets a0 a1
  refine have k0 : P a0 := ?_; have k1 : P a1 := ?_; ?_
  repeat' first
    | with_reducible assumption
    | with_reducible refine State.raise_keeps (hP.mono (by decide)) ?_
    | with_reducible refine State.setFld_keeps (hP.mono (by decide)) ?_
    | with_reducible refine State.icPend_keeps (hP.mono (by decide)) ?_
    | with_reducible refine ite_keeps ?_ ?_

theorem State.storeRecords_keeps (hP : Keeps 0x200000834 P) {s : State} (h : P s)  {x : Run} {w : WinRecs} {ok : Bool} :
    P (State.storeRecords s x w ok) := by
  unfold State.storeRecords
  extract_lets a0 a1
  refine have k1 : P a1 := ?_; ?_
  all_goals clear_value a0
  repeat' first
    | with_reducible assumption
    | with_reducible refine State.hostWrite_keeps (hP.mono (by decide)) ?_
    | with_reducible refine State.setRun_keeps (hP.mono (by decide)) ?_
    | with_reducible refine State.bwFault_keeps (hP.mono (by decide)) ?_
    | with_reducible refine ite_keeps ?_ ?_
    | split

theorem State.setPartn_keeps (hP : Keeps 0x1000000000 P) {s : State} (h : P s)  {p : ℕ} {v : Partition} :
    P (State.setPartn s p v) := by
  unfold State.setPartn
  repeat' first
    | with_reducible assumption
    | exact fun hw => SMap.wf_set _ hw _ _
    | with_reducible refine hP.parts (by decide) _ _ ?_ ?_

theorem State.nextBuffer_keeps (hP : Keeps 0x1200000000 P) {s : State} (h : P s)  {p : ℕ} {r : ℕ} :
    P (State.nextBuffer s p r) := by
  unfold State.nextBuffer
  extract_lets a0
  all_goals clear_value a0
  repeat' first
    | with_reducible assumption
    | with_reducible refine State.setPartn_keeps (hP.mono (by decide)) ?_
    | with_reducible refine State.setRun_keeps (hP.mono (by decide)) ?_
    | split

theorem State.retire_keeps (hP : Keeps 0x200000814 P) {s : State} (h : P s)  {x : Run} {full : Bool} {last : Bool} {complete : Bool} :
    P (State.retire s x full last complete) := by
  unfold State.retire
  extract_lets a0
  all_goals clear_value a0
  repeat' first
    | with_reducible assumption
    | with_reducible refine State.hostWrite_keeps (hP.mono (by decide)) ?_
    | with_reducible refine State.setRun_keeps (hP.mono (by decide)) ?_
    | with_reducible refine State.writeRecord_keeps (hP.mono (by decide)) ?_
    | split

theorem State.resultWrite_keeps (hP : Keeps 0x1240000834 P) {s : State} (h : P s)  {n : ℕ} {ok : Bool} :
    P (State.resultWrite s n ok) := by
  unfold State.resultWrite
  repeat' first
    | with_reducible assumption
    | with_reducible refine State.nextBuffer_keeps (hP.mono (by decide)) ?_
    | with_reducible refine State.retire_keeps (hP.mono (by decide)) ?_
    | with_reducible refine State.setFld_keeps (hP.mono (by decide)) ?_
    | with_reducible refine State.storeRecords_keeps (hP.mono (by decide)) ?_
    | with_reducible refine State.bwFault_keeps (hP.mono (by decide)) ?_
    | with_reducible refine State.setRun_keeps (hP.mono (by decide)) ?_
    | with_reducible refine ite_keeps ?_ ?_
    | exact fun hw => SMap.wf_set _ hw _ _
    | split
    | extract_lets
    | with_reducible refine hP.fifos (by decide) _ _ ?_ ?_

theorem State.ringErrLevel_keeps (hP : Keeps 0x814 P) {s : State} (h : P s)  {p : ℕ} :
    P (State.ringErrLevel s p) := by
  unfold State.ringErrLevel
  repeat' first
    | with_reducible assumption
    | with_reducible refine State.icLevel_keeps (hP.mono (by decide)) ?_

theorem State.sqOff_keeps (hP : Keeps 0x400000814 P) {s : State} (h : P s)  {p : ℕ} {r : ℕ} :
    P (State.sqOff s p r) := by
  unfold State.sqOff
  extract_lets a0 a1
  refine have k1 : P a1 := ?_; ?_
  all_goals clear_value a0
  repeat' first
    | with_reducible assumption
    | with_reducible refine State.setFlag_keeps (hP.mono (by decide)) ?_
    | with_reducible refine State.setSq_keeps (hP.mono (by decide)) ?_
    | with_reducible refine State.ringErrLevel_keeps (hP.mono (by decide)) ?_

theorem State.setCq_keeps (hP : Keeps 0x800000000 P) {s : State} (h : P s)  {p : ℕ} {r : ℕ} {v : CplRing} :
    P (State.setCq s p r v) := by
  unfold State.setCq
  repeat' first
    | with_reducible assumption
    | exact fun hw => SMap.wf_set _ hw _ _
    | with_reducible refine hP.cqs (by decide) _ _ ?_ ?_

theorem State.cqOff_keeps (hP : Keeps 0x800000814 P) {s : State} (h : P s)  {p : ℕ} {r : ℕ} :
    P (State.cqOff s p r) := by
  unfold State.cqOff
  extract_lets a0 a1
  refine have k1 : P a1 := ?_; ?_
  all_goals clear_value a0
  repeat' first
    | with_reducible assumption
    | with_reducible refine State.setFlag_keeps (hP.mono (by decide)) ?_
    | with_reducible refine State.setCq_keeps (hP.mono (by decide)) ?_
    | with_reducible refine State.ringErrLevel_keeps (hP.mono (by decide)) ?_

theorem State.loadStopped_keeps (hP : Keeps 0x4 P) {s : State} (h : P s)  {p : ℕ} {r : ℕ} :
    P (State.loadStopped s p r) := by
  unfold State.loadStopped
  repeat' first
    | with_reducible assumption
    | with_reducible refine State.setRcState_keeps (hP.mono (by decide)) ?_
    | with_reducible refine State.setFlag_keeps (hP.mono (by decide)) ?_
    | with_reducible refine ite_keeps ?_ ?_
    | split

theorem State.stopRun_keeps (hP : Keeps 0x25861c834 P) {s : State} (h : P s)  {x : Run} :
    P (State.stopRun s x) := by
  unfold State.stopRun
  extract_lets a0
  refine have k0 : P a0 := ?_; ?_
  repeat' first
    | with_reducible assumption
    | with_reducible refine State.coreStop_keeps (hP.mono (by decide)) ?_
    | with_reducible refine State.truncatePool_keeps (hP.mono (by decide)) ?_
    | with_reducible refine State.endChains_keeps (hP.mono (by decide)) ?_
    | with_reducible refine State.setMarker_keeps (hP.mono (by decide)) ?_
    | with_reducible refine ite_keeps ?_ ?_
    | with_reducible refine foldl_keeps ?_ ?_
    | with_reducible refine forRange_keeps ?_ ?_
    | intro _ _ _

theorem State.runEnd_keeps (hP : Keeps 0x65861c834 P) {s : State} (h : P s)  {x : Run} {code : ℕ} :
    P (State.runEnd s x code) := by
  unfold State.runEnd
  extract_lets a0
  refine have k0 : P a0 := ?_; ?_
  repeat' first
    | with_reducible assumption
    | with_reducible refine State.stopRun_keeps (hP.mono (by decide)) ?_
    | with_reducible refine State.setRun_keeps (hP.mono (by decide)) ?_
    | with_reducible refine State.settle_keeps (hP.mono (by decide)) ?_
    | with_reducible refine State.endDesc_keeps (hP.mono (by decide)) ?_
    | with_reducible refine ite_keeps ?_ ?_
    | split
    | extract_lets
    | unfold a0
    | with_reducible refine hP.runs (by decide) _ _ ?_

theorem State.partDisable_keeps (hP : Keeps 0x1e5861c834 P) {s : State} (h : P s)  {p : ℕ} :
    P (State.partDisable s p) := by
  unfold State.partDisable
  extract_lets a0 a1 a2
  refine have k0 : P a0 := ?_; have k1 : P a1 := ?_; have k2 : P a2 := ?_; ?_
  repeat' first
    | with_reducible assumption
    | with_reducible refine State.setFlag_keeps (hP.mono (by decide)) ?_
    | with_reducible refine State.cqOff_keeps (hP.mono (by decide)) ?_
    | with_reducible refine State.sqOff_keeps (hP.mono (by decide)) ?_
    | with_reducible refine State.loadStopped_keeps (hP.mono (by decide)) ?_
    | with_reducible refine State.setFld_keeps (hP.mono (by decide)) ?_
    | with_reducible refine State.setSq_keeps (hP.mono (by decide)) ?_
    | with_reducible refine State.setPartn_keeps (hP.mono (by decide)) ?_
    | with_reducible refine State.runEnd_keeps (hP.mono (by decide)) ?_
    | with_reducible refine foldl_keeps ?_ ?_
    | with_reducible refine forRange_keeps ?_ ?_
    | intro _ _ _

theorem State.bwReset_keeps (hP : Keeps 0x1e5861c834 P) {s : State} (h : P s) :
    P (State.bwReset s) := by
  unfold State.bwReset
  have q1 := fun (u : State) (hu : P u) v0 w0 => hP.sqs (by decide) u v0 hu w0
  have q2 := fun (u : State) (hu : P u) v0 w0 v1 w1 => hP.cqs (by decide) _ v1 (q1 u hu v0 w0) w1
  have q3 := fun (u : State) (hu : P u) v0 w0 v1 w1 v2 w2 => hP.parts (by decide) _ v2 (q2 u hu v0 w0 v1 w1) w2
  dsimp only at q3
  extract_lets a0 a1 a2 a3
  refine have k0 : P a0 := ?_; have k2 : P a2 := ?_; have k3 : P a3 := ?_; ?_
  all_goals clear_value a1
  repeat' first
    | with_reducible assumption
    | with_reducible refine State.partDisable_keeps (hP.mono (by decide)) ?_
    | with_reducible refine State.setReg_keeps (hP.mono (by decide)) ?_
    | with_reducible refine State.resetRegs_keeps (hP.mono (by decide)) ?_
    | with_reducible refine State.icReset_keeps (hP.mono (by decide)) ?_
    | with_reducible refine forRange_keeps ?_ ?_
    | exact fun _ => rfl
    | intro _ _ _
    | intro _ _
    | extract_lets
    | refine q3 _ ?_ _ ?_ _ ?_ _ ?_

theorem State.timeQuery_keeps (hP : Keeps 0x400000814 P) {s : State} (h : P s)  {p : ℕ} {r : ℕ} :
    P (State.timeQuery s p r) := by
  unfold State.timeQuery
  repeat' first
    | with_reducible assumption
    | with_reducible refine State.settle_keeps (hP.mono (by decide)) ?_
    | with_reducible refine State.endDesc_keeps (hP.mono (by decide)) ?_
    | split

theorem State.partEnable_keeps (hP : Keeps 0x814 P) {s : State} (h : P s)  {p : ℕ} :
    P (State.partEnable s p) := by
  unfold State.partEnable
  extract_lets a0
  refine have k0 : P a0 := ?_; ?_
  repeat' first
    | with_reducible assumption
    | with_reducible refine State.setFlag_keeps (hP.mono (by decide)) ?_
    | with_reducible refine State.unitOutcome_keeps (hP.mono (by decide)) ?_
    | with_reducible refine ite_keeps ?_ ?_

theorem State.resultPost_keeps (hP : Keeps 0x1400000814 P) {s : State} (h : P s)  {p : ℕ} {r : ℕ} :
    P (State.resultPost s p r) := by
  unfold State.resultPost
  extract_lets a0
  all_goals clear_value a0
  repeat' first
    | with_reducible assumption
    | with_reducible refine State.refuse_keeps (hP.mono (by decide)) ?_
    | with_reducible refine State.setPartn_keeps (hP.mono (by decide)) ?_
    | with_reducible refine State.settle_keeps (hP.mono (by decide)) ?_
    | with_reducible refine State.setSq_keeps (hP.mono (by decide)) ?_
    | with_reducible refine ite_keeps ?_ ?_
    | split

theorem State.appendLoop_keeps (hP : Keeps 0x40004 P) {s : State} (h : P s)  {n : ℕ} {b : ℕ} {written : ℕ} {discarded : ℕ} {x5 : List Word} :
    P ((State.appendLoop s n b written discarded x5).1) := by
  induction x5 generalizing s written discarded with
  | nil => exact h
  | cons w ws ih =>
    simp only [State.appendLoop]
    split
    · exact ih (State.setReg64_keeps (hP.mono (by decide)) (State.incSat_keeps (hP.mono (by decide)) h))
    · split
      · exact h
      · exact ih (State.setReg64_keeps (hP.mono (by decide))
          (hP.peat (by decide) s _ h fun hw => Memory.wf_writeBytes hw _ _))

theorem State.readFailed_keeps (hP : Keeps 0x400000834 P) {s : State} (h : P s)  {p : ℕ} {r : ℕ} {steps : ℕ} {shots : ℕ} :
    P (State.readFailed s p r steps shots) := by
  unfold State.readFailed
  repeat' first
    | with_reducible assumption
    | with_reducible refine State.finish_keeps (hP.mono (by decide)) ?_
    | with_reducible refine State.bwFault_keeps (hP.mono (by decide)) ?_

theorem State.setPhase_keeps (hP : Keeps 0x400000000 P) {s : State} (h : P s)  {p : ℕ} {r : ℕ} {ph : DescPhase} :
    P (State.setPhase s p r ph) := by
  unfold State.setPhase
  extract_lets a0
  all_goals clear_value a0
  repeat' first
    | with_reducible assumption
    | with_reducible refine State.setSq_keeps (hP.mono (by decide)) ?_
    | split

theorem State.appendGo_keeps (hP : Keeps 0x400040834 P) {s : State} (h : P s)  {p : ℕ} {r : ℕ} {n : ℕ} {b : ℕ} {written : ℕ} {discarded : ℕ} {short : Bool} {ws : List Word} :
    P (State.appendGo s p r n b written discarded short ws) := by
  unfold State.appendGo
  repeat' first
    | with_reducible assumption
    | with_reducible refine State.finish_keeps (hP.mono (by decide)) ?_
    | with_reducible refine State.appendLoop_keeps (hP.mono (by decide)) ?_
    | with_reducible refine State.readFailed_keeps (hP.mono (by decide)) ?_
    | with_reducible refine State.setPhase_keeps (hP.mono (by decide)) ?_
    | with_reducible refine fst_keeps (by with_reducible assumption) ?_
    | with_reducible refine ite_keeps ?_ ?_
    | split

theorem State.streamContinue_keeps (hP : Keeps 0x400040834 P) {s : State} (h : P s)  {p : ℕ} {r : ℕ} :
    P (State.streamContinue s p r) := by
  unfold State.streamContinue
  repeat' first
    | with_reducible assumption
    | with_reducible refine State.appendGo_keeps (hP.mono (by decide)) ?_
    | split

theorem State.runsSafe_keeps (hP : Keeps 0x200000000 P) {s : State} (h : P s)  {code : ℕ} :
    P (State.runsSafe s code) := by
  unfold State.runsSafe
  repeat' first
    | with_reducible assumption
    | with_reducible refine ite_keeps ?_ ?_
    | split
    | with_reducible refine hP.runs (by decide) _ _ ?_

theorem State.msixReset_keeps (hP : Keeps 0x800 P) {s : State} (h : P s)  {f : ℕ} :
    P (State.msixReset s f) := by
  unfold State.msixReset
  extract_lets a0 a1
  all_goals clear_value a0 a1
  repeat' first
    | with_reducible assumption
    | with_reducible refine ite_keeps ?_ ?_
    | with_reducible refine foldl_keeps ?_ ?_
    | intro _ _ _
    | intro _ _
    | split
    | extract_lets
    | with_reducible refine hP.ic (by decide) _ _ ?_

theorem State.vfFlr_keeps (hP : Keeps 0x1e5861c834 P) {s : State} (h : P s)  {k : ℕ} :
    P (State.vfFlr s k) := by
  unfold State.vfFlr
  repeat' first
    | with_reducible assumption
    | with_reducible refine State.msixReset_keeps (hP.mono (by decide)) ?_
    | with_reducible refine State.partDisable_keeps (hP.mono (by decide)) ?_

theorem State.finishOk_keeps (hP : Keeps 0x400000814 P) {s : State} (h : P s)  {p : ℕ} {r : ℕ} {steps : ℕ} :
    P (State.finishOk s p r steps) := by
  unfold State.finishOk
  repeat' first
    | with_reducible assumption
    | with_reducible refine State.finish_keeps (hP.mono (by decide)) ?_

theorem State.applyWeights_keeps (hP : Keeps 0x420000834 P) {s : State} (h : P s)  {p : ℕ} {r : ℕ} {d : Desc} {ws : List Word} {short : Bool} :
    P (State.applyWeights s p r d ws short) := by
  unfold State.applyWeights
  extract_lets a0
  refine have k0 : P a0 := ?_; ?_
  repeat' first
    | with_reducible assumption
    | with_reducible refine State.writeWeights_keeps (hP.mono (by decide)) ?_
    | with_reducible refine State.readFailed_keeps (hP.mono (by decide)) ?_
    | with_reducible refine State.finishOk_keeps (hP.mono (by decide)) ?_
    | with_reducible refine ite_keeps ?_ ?_

theorem State.loadWeights_keeps (hP : Keeps 0x420000834 P) {s : State} (h : P s)  {p : ℕ} {r : ℕ} {data : List Byte} :
    P (State.loadWeights s p r data) := by
  unfold State.loadWeights
  repeat' first
    | with_reducible assumption
    | with_reducible refine State.refuse_keeps (hP.mono (by decide)) ?_
    | with_reducible refine State.setPhase_keeps (hP.mono (by decide)) ?_
    | with_reducible refine State.applyWeights_keeps (hP.mono (by decide)) ?_
    | with_reducible refine ite_keeps ?_ ?_
    | split

theorem State.weightsApply_keeps (hP : Keeps 0x420000834 P) {s : State} (h : P s)  {p : ℕ} {r : ℕ} :
    P (State.weightsApply s p r) := by
  unfold State.weightsApply
  repeat' first
    | with_reducible assumption
    | with_reducible refine State.applyWeights_keeps (hP.mono (by decide)) ?_
    | with_reducible refine ite_keeps ?_ ?_
    | split

theorem State.kick_keeps (hP : Keeps 0x1000000000 P) {s : State} (h : P s)  {p : ℕ} :
    P (State.kick s p) := by
  unfold State.kick
  extract_lets a0
  all_goals clear_value a0
  repeat' first
    | with_reducible assumption
    | with_reducible refine State.setPartn_keeps (hP.mono (by decide)) ?_

theorem State.pollCq_keeps (hP : Keeps 0x1800000834 P) {s : State} (h : P s)  {p : ℕ} {r : ℕ} {head : ℕ} :
    P (State.pollCq s p r head) := by
  unfold State.pollCq
  extract_lets a0 a1
  refine have k0 : P a0 := ?_; ?_
  all_goals clear_value a1
  repeat' first
    | with_reducible assumption
    | with_reducible refine State.ringErrLevel_keeps (hP.mono (by decide)) ?_
    | with_reducible refine State.bwFault_keeps (hP.mono (by decide)) ?_
    | with_reducible refine State.setFlag_keeps (hP.mono (by decide)) ?_
    | with_reducible refine State.kick_keeps (hP.mono (by decide)) ?_
    | with_reducible refine State.setCq_keeps (hP.mono (by decide)) ?_
    | with_reducible refine ite_keeps ?_ ?_

theorem State.descFetch_keeps (hP : Keeps 0x2400000814 P) {s : State} (h : P s)  {p : ℕ} {r : ℕ} {bits : BitVec 512} :
    P (State.descFetch s p r bits) := by
  unfold State.descFetch
  extract_lets a0 a1 a2 a3 a4 a5 a6 a7
  refine have k2 : P a2 := ?_; have k3 : P a3 := ?_; have k4 : P a4 := ?_; have k5 : P a5 := ?_; have k7 : P a7 := ?_; ?_
  all_goals clear_value a0 a1 a6
  repeat' first
    | with_reducible assumption
    | with_reducible refine State.setRegN_keeps (hP.mono (by decide)) ?_
    | with_reducible refine State.incWrap_keeps (hP.mono (by decide)) ?_
    | with_reducible refine State.setFld_keeps (hP.mono (by decide)) ?_
    | with_reducible refine State.writeStatus_keeps (hP.mono (by decide)) ?_
    | with_reducible refine State.setSq_keeps (hP.mono (by decide)) ?_
    | with_reducible refine State.progRefused_keeps (hP.mono (by decide)) ?_
    | with_reducible refine State.refuse_keeps (hP.mono (by decide)) ?_
    | with_reducible refine ite_keeps ?_ ?_
    | split
    | extract_lets
    | unfold a2
    | unfold a3
    | unfold a4
    | unfold a5
    | unfold a7
    | with_reducible refine hP.fetches (by decide) _ _ ?_

theorem State.ringRefused_keeps (hP : Keeps 0x814 P) {s : State} (h : P s)  {refused : Fld} {reason : Fld} {r : ℕ} :
    P (State.ringRefused s refused reason r) := by
  unfold State.ringRefused
  repeat' first
    | with_reducible assumption
    | with_reducible refine State.reportRefused_keeps (hP.mono (by decide)) ?_
    | with_reducible refine State.setFld_keeps (hP.mono (by decide)) ?_
    | with_reducible refine State.setFlag_keeps (hP.mono (by decide)) ?_

theorem State.cqEnable_keeps (hP : Keeps 0x800000814 P) {s : State} (h : P s)  {p : ℕ} {r : ℕ} :
    P (State.cqEnable s p r) := by
  unfold State.cqEnable
  extract_lets a0 a1 a2 a3
  refine have k0 : P a0 := ?_; have k2 : P a2 := ?_; have k3 : P a3 := ?_; ?_
  all_goals clear_value a1
  repeat' first
    | with_reducible assumption
    | with_reducible refine State.setFlag_keeps (hP.mono (by decide)) ?_
    | with_reducible refine State.ringRefused_keeps (hP.mono (by decide)) ?_
    | with_reducible refine State.setFld_keeps (hP.mono (by decide)) ?_
    | with_reducible refine State.setRegN_keeps (hP.mono (by decide)) ?_
    | with_reducible refine State.reportAccepted_keeps (hP.mono (by decide)) ?_
    | with_reducible refine State.setCq_keeps (hP.mono (by decide)) ?_
    | with_reducible refine ite_keeps ?_ ?_
    | split

theorem State.cqCtrlWrite_keeps (hP : Keeps 0x800000814 P) {s : State} (h : P s)  {p : ℕ} {r : ℕ} {v : Word} :
    P (State.cqCtrlWrite s p r v) := by
  unfold State.cqCtrlWrite
  repeat' first
    | with_reducible assumption
    | with_reducible refine State.cqEnable_keeps (hP.mono (by decide)) ?_
    | with_reducible refine State.ringRefused_keeps (hP.mono (by decide)) ?_
    | with_reducible refine State.cqOff_keeps (hP.mono (by decide)) ?_
    | with_reducible refine ite_keeps ?_ ?_

theorem State.streamAppend_keeps (hP : Keeps 0x400040834 P) {s : State} (h : P s)  {p : ℕ} {r : ℕ} {data : List Byte} :
    P (State.streamAppend s p r data) := by
  unfold State.streamAppend
  repeat' first
    | with_reducible assumption
    | with_reducible refine State.appendGo_keeps (hP.mono (by decide)) ?_
    | split

theorem State.loadSegs_keeps (hP : Keeps 0x2814 P) {s : State} (h : P s)  {n : ℕ} {i : ℕ} {done : ℕ} {x4 : List (List Word)} :
    P ((State.loadSegs s n i done x4).1) := by
  induction x4 generalizing s i done with
  | nil => exact h
  | cons ws rest ih =>
    have h' : P ((forRange 7 (fun j u => u.setStaged n i j (ws.getD j 0)) s).segCommit n i (ws.take 7)) :=
      State.segCommit_keeps (hP.mono (by decide))
        (forRange_keeps h fun _ _ ht => State.setStaged_keeps (hP.mono (by decide)) ht)
    simp only [State.loadSegs]
    split
    · exact h'
    · exact ih h'

theorem State.loadPeat_keeps (hP : Keeps 0x400042834 P) {s : State} (h : P s)  {p : ℕ} {r : ℕ} {data : List Byte} :
    P (State.loadPeat s p r data) := by
  unfold State.loadPeat
  repeat' first
    | with_reducible assumption
    | with_reducible refine State.refuse_keeps (hP.mono (by decide)) ?_
    | with_reducible refine State.readFailed_keeps (hP.mono (by decide)) ?_
    | with_reducible refine State.finishOk_keeps (hP.mono (by decide)) ?_
    | with_reducible refine State.loadSegs_keeps (hP.mono (by decide)) ?_
    | with_reducible refine State.finish_keeps (hP.mono (by decide)) ?_
    | with_reducible refine fst_keeps (by with_reducible assumption) ?_
    | with_reducible refine ite_keeps ?_ ?_
    | exact fun hw => Memory.wf_writeBytes hw _ _
    | split
    | extract_lets
    | with_reducible refine hP.peat (by decide) _ _ ?_ ?_

theorem State.cqShapeWrite_keeps (hP : Keeps 0x814 P) {s : State} (h : P s)  {p : ℕ} {r : ℕ} {off : ℕ} {v : Word} :
    P (State.cqShapeWrite s p r off v) := by
  unfold State.cqShapeWrite
  repeat' first
    | with_reducible assumption
    | with_reducible refine State.ringRefused_keeps (hP.mono (by decide)) ?_
    | with_reducible refine State.setReg_keeps (hP.mono (by decide)) ?_
    | with_reducible refine ite_keeps ?_ ?_

theorem State.ownerWrite_keeps (hP : Keeps 0x4 P) {s : State} (h : P s)  {v : Word} :
    P (State.ownerWrite s v) := by
  unfold State.ownerWrite
  repeat' first
    | with_reducible assumption
    | with_reducible refine State.setReg_keeps (hP.mono (by decide)) ?_
    | with_reducible refine ite_keeps ?_ ?_
    | with_reducible refine forRange_keeps ?_ ?_
    | intro _ _ _

theorem State.partCtrlWrite_keeps (hP : Keeps 0x1e5861c834 P) {s : State} (h : P s)  {p : ℕ} {v : Word} :
    P (State.partCtrlWrite s p v) := by
  unfold State.partCtrlWrite
  extract_lets a0
  refine have k0 : P a0 := ?_; ?_
  repeat' first
    | with_reducible assumption
    | with_reducible refine State.partEnable_keeps (hP.mono (by decide)) ?_
    | with_reducible refine State.partDisable_keeps (hP.mono (by decide)) ?_
    | with_reducible refine State.kick_keeps (hP.mono (by decide)) ?_
    | with_reducible refine ite_keeps ?_ ?_

theorem State.dropPosts_keeps (hP : Keeps 0x1000000814 P) {s : State} (h : P s)  {p : ℕ} {tag : ℕ} :
    P (State.dropPosts s p tag) := by
  unfold State.dropPosts
  extract_lets a0 a1 a2
  refine have k2 : P a2 := ?_; ?_
  all_goals clear_value a0 a1
  repeat' first
    | with_reducible assumption
    | with_reducible refine State.setPartn_keeps (hP.mono (by decide)) ?_
    | with_reducible refine State.writeRecord_keeps (hP.mono (by decide)) ?_
    | with_reducible refine foldl_keeps ?_ ?_
    | intro _ _ _

theorem State.runFinish_keeps (hP : Keeps 0x1600001814 P) {s : State} (h : P s)  {x : Run} :
    P (State.runFinish s x) := by
  unfold State.runFinish
  extract_lets a0 a1 a2 a3 a4
  refine have k1 : P a1 := ?_; have k2 : P a2 := ?_; have k3 : P a3 := ?_; have k4 : P a4 := ?_; ?_
  all_goals clear_value a0
  repeat' first
    | with_reducible assumption
    | with_reducible refine State.retire_keeps (hP.mono (by decide)) ?_
    | with_reducible refine State.coreRelease_keeps (hP.mono (by decide)) ?_
    | with_reducible refine State.icPend_keeps (hP.mono (by decide)) ?_
    | with_reducible refine State.fire_keeps (hP.mono (by decide)) ?_
    | with_reducible refine State.settle_keeps (hP.mono (by decide)) ?_
    | with_reducible refine State.dropPosts_keeps (hP.mono (by decide)) ?_
    | with_reducible refine State.endDesc_keeps (hP.mono (by decide)) ?_
    | with_reducible refine ite_keeps ?_ ?_
    | with_reducible refine forRange_keeps ?_ ?_
    | intro _ _ _
    | intro _ _
    | split
    | extract_lets
    | unfold a1
    | unfold a2
    | unfold a3
    | unfold a4
    | with_reducible refine hP.runs (by decide) _ _ ?_

theorem State.pollSq_keeps (hP : Keeps 0x1400000834 P) {s : State} (h : P s)  {p : ℕ} {r : ℕ} {tail : ℕ} :
    P (State.pollSq s p r tail) := by
  unfold State.pollSq
  extract_lets a0 a1
  refine have k0 : P a0 := ?_; ?_
  all_goals clear_value a1
  repeat' first
    | with_reducible assumption
    | with_reducible refine State.ringErrLevel_keeps (hP.mono (by decide)) ?_
    | with_reducible refine State.bwFault_keeps (hP.mono (by decide)) ?_
    | with_reducible refine State.setFlag_keeps (hP.mono (by decide)) ?_
    | with_reducible refine State.kick_keeps (hP.mono (by decide)) ?_
    | with_reducible refine State.setSq_keeps (hP.mono (by decide)) ?_
    | with_reducible refine ite_keeps ?_ ?_

theorem State.doorbellPoll_keeps (hP : Keeps 0x1c00000834 P) {s : State} (h : P s)  {p : ℕ} {block : Option (BitVec 512)} :
    P (State.doorbellPoll s p block) := by
  unfold State.doorbellPoll
  repeat' first
    | with_reducible assumption
    | with_reducible refine State.bwFault_keeps (hP.mono (by decide)) ?_
    | with_reducible refine State.pollSq_keeps (hP.mono (by decide)) ?_
    | with_reducible refine State.pollCq_keeps (hP.mono (by decide)) ?_
    | with_reducible refine ite_keeps ?_ ?_
    | with_reducible refine forRange_keeps ?_ ?_
    | intro _ _ _
    | intro _ _
    | split

theorem State.sqEnable_keeps (hP : Keeps 0x400000814 P) {s : State} (h : P s)  {p : ℕ} {r : ℕ} :
    P (State.sqEnable s p r) := by
  unfold State.sqEnable
  extract_lets a0 a1 a2 a3 a4
  refine have k0 : P a0 := ?_; have k2 : P a2 := ?_; have k3 : P a3 := ?_; ?_
  all_goals clear_value a1 a4
  repeat' first
    | with_reducible assumption
    | with_reducible refine State.setFlag_keeps (hP.mono (by decide)) ?_
    | with_reducible refine State.ringRefused_keeps (hP.mono (by decide)) ?_
    | with_reducible refine State.setFld_keeps (hP.mono (by decide)) ?_
    | with_reducible refine State.setRegN_keeps (hP.mono (by decide)) ?_
    | with_reducible refine State.reportAccepted_keeps (hP.mono (by decide)) ?_
    | with_reducible refine State.setSq_keeps (hP.mono (by decide)) ?_
    | with_reducible refine ite_keeps ?_ ?_
    | split

theorem State.runTimeout_keeps (hP : Keeps 0x65861c834 P) {s : State} (h : P s)  {p : ℕ} {r : ℕ} :
    P (State.runTimeout s p r) := by
  unfold State.runTimeout
  repeat' first
    | with_reducible assumption
    | with_reducible refine State.runEnd_keeps (hP.mono (by decide)) ?_
    | with_reducible refine State.bwFault_keeps (hP.mono (by decide)) ?_
    | with_reducible refine ite_keeps ?_ ?_
    | split

theorem State.sqShapeWrite_keeps (hP : Keeps 0x814 P) {s : State} (h : P s)  {p : ℕ} {r : ℕ} {off : ℕ} {v : Word} :
    P (State.sqShapeWrite s p r off v) := by
  unfold State.sqShapeWrite
  repeat' first
    | with_reducible assumption
    | with_reducible refine State.ringRefused_keeps (hP.mono (by decide)) ?_
    | with_reducible refine State.setReg_keeps (hP.mono (by decide)) ?_
    | with_reducible refine ite_keeps ?_ ?_

theorem State.refuseWaiting_keeps (hP : Keeps 0x600000814 P) {s : State} (h : P s) :
    P (State.refuseWaiting s) := by
  unfold State.refuseWaiting
  extract_lets a0 a1
  refine have k1 : P a1 := ?_; ?_
  all_goals clear_value a0
  repeat' first
    | with_reducible assumption
    | with_reducible refine State.refuse_keeps (hP.mono (by decide)) ?_
    | with_reducible refine foldl_keeps ?_ ?_
    | intro _ _ _
    | intro _ _
    | extract_lets
    | unfold a1
    | with_reducible refine hP.runs (by decide) _ _ ?_

theorem State.descFence_keeps (hP : Keeps 0x400000814 P) {s : State} (h : P s)  {p : ℕ} {r : ℕ} :
    P (State.descFence s p r) := by
  unfold State.descFence
  repeat' first
    | with_reducible assumption
    | with_reducible refine State.settle_keeps (hP.mono (by decide)) ?_
    | with_reducible refine State.setPhase_keeps (hP.mono (by decide)) ?_
    | split

theorem State.loadProg_keeps (hP : Keeps 0x400380834 P) {s : State} (h : P s)  {p : ℕ} {r : ℕ} {data : List Byte} :
    P (State.loadProg s p r data) := by
  unfold State.loadProg
  repeat' first
    | with_reducible assumption
    | with_reducible refine State.readFailed_keeps (hP.mono (by decide)) ?_
    | with_reducible refine State.refuse_keeps (hP.mono (by decide)) ?_
    | with_reducible refine State.progRefused_keeps (hP.mono (by decide)) ?_
    | with_reducible refine State.finishOk_keeps (hP.mono (by decide)) ?_
    | with_reducible refine State.progLoad_keeps (hP.mono (by decide)) ?_
    | with_reducible refine ite_keeps ?_ ?_
    | split

theorem State.hostReset_keeps (hP : Keeps 0x9e5861c874 P) {s : State} (h : P s)  {kind : ℕ} :
    P (State.hostReset s kind) := by
  unfold State.hostReset
  extract_lets a0 a1 a2 a3 a4 a5 a6
  refine have k1 : P a1 := ?_; have k2 : P a2 := ?_; have k3 : P a3 := ?_; have k4 : P a4 := ?_; have k6 : P a6 := ?_; ?_
  all_goals clear_value a0 a5
  repeat' first
    | with_reducible assumption
    | with_reducible refine State.bwReset_keeps (hP.mono (by decide)) ?_
    | with_reducible refine State.setReg_keeps (hP.mono (by decide)) ?_
    | with_reducible refine State.setFld_keeps (hP.mono (by decide)) ?_
    | with_reducible refine State.msixReset_keeps (hP.mono (by decide)) ?_
    | with_reducible refine State.draw_keeps (hP.mono (by decide)) ?_
    | with_reducible refine State.bwFault_keeps (hP.mono (by decide)) ?_
    | with_reducible refine ite_keeps ?_ ?_
    | with_reducible refine forRange_keeps ?_ ?_
    | intro _ _ _
    | intro _ _
    | split
    | extract_lets
    | unfold a1
    | unfold a2
    | unfold a3
    | unfold a4
    | unfold a6
    | with_reducible refine hP.sec (by decide) _ _ ?_

theorem State.loadGraph_keeps (hP : Keeps 0x404000834 P) {s : State} (h : P s)  {p : ℕ} {r : ℕ} {data : List Byte} :
    P (State.loadGraph s p r data) := by
  unfold State.loadGraph
  repeat' first
    | with_reducible assumption
    | with_reducible refine State.readFailed_keeps (hP.mono (by decide)) ?_
    | with_reducible refine State.refuse_keeps (hP.mono (by decide)) ?_
    | with_reducible refine State.finishOk_keeps (hP.mono (by decide)) ?_
    | with_reducible refine State.graphLoad_keeps (hP.mono (by decide)) ?_
    | with_reducible refine ite_keeps ?_ ?_
    | split

theorem State.sqCtrlWrite_keeps (hP : Keeps 0x400000814 P) {s : State} (h : P s)  {p : ℕ} {r : ℕ} {v : Word} :
    P (State.sqCtrlWrite s p r v) := by
  unfold State.sqCtrlWrite
  extract_lets a0
  refine have k0 : P a0 := ?_; ?_
  repeat' first
    | with_reducible assumption
    | with_reducible refine State.setFld_keeps (hP.mono (by decide)) ?_
    | with_reducible refine State.sqEnable_keeps (hP.mono (by decide)) ?_
    | with_reducible refine State.sqOff_keeps (hP.mono (by decide)) ?_
    | with_reducible refine ite_keeps ?_ ?_

theorem State.descAbort_keeps (hP : Keeps 0x65861c834 P) {s : State} (h : P s)  {p : ℕ} {r : ℕ} :
    P (State.descAbort s p r) := by
  unfold State.descAbort
  repeat' first
    | with_reducible assumption
    | with_reducible refine State.setPhase_keeps (hP.mono (by decide)) ?_
    | with_reducible refine State.settle_keeps (hP.mono (by decide)) ?_
    | with_reducible refine State.runEnd_keeps (hP.mono (by decide)) ?_
    | with_reducible refine foldl_keeps ?_ ?_
    | intro _ _ _
    | intro _ _
    | split

end Sys2Proof.Machine
end

