-- ==== Sys2Proof/Laws/KeepsTime.lean ====
section
/-!
SUPPORT. What the operations of Machine/Time.lean may change.
-/
namespace Sys2Proof.Machine

variable {P : State → Prop}

theorem State.setPpsFifo_keeps (hP : Keeps 0x894 P) {s : State} (h : P s)  {l : List (BitVec 80)} :
    P (State.setPpsFifo s l) := by
  unfold State.setPpsFifo
  extract_lets a0 a1 a2
  refine have k1 : P a1 := ?_; have k2 : P a2 := ?_; ?_
  all_goals clear_value a0
  repeat' first
    | with_reducible assumption
    | with_reducible refine State.setFld_keeps (hP.mono (by decide)) ?_
    | with_reducible refine State.icLevel_keeps (hP.mono (by decide)) ?_
    | extract_lets
    | unfold a1
    | unfold a2
    | with_reducible refine hP.tm (by decide) _ _ ?_

theorem State.ppsEdge_keeps (hP : Keeps 0x1894 P) {s : State} (h : P s)  {falling : Bool} {stamp : BitVec 80} :
    P (State.ppsEdge s falling stamp) := by
  unfold State.ppsEdge
  extract_lets a0 a1 a2 a3
  refine have k2 : P a2 := ?_; have k3 : P a3 := ?_; ?_
  all_goals clear_value a0 a1
  repeat' first
    | with_reducible assumption
    | with_reducible refine State.setFlag_keeps (hP.mono (by decide)) ?_
    | with_reducible refine State.setPpsFifo_keeps (hP.mono (by decide)) ?_
    | with_reducible refine State.fire_keeps (hP.mono (by decide)) ?_
    | with_reducible refine ite_keeps ?_ ?_
    | split
    | extract_lets
    | unfold a2
    | unfold a3
    | with_reducible refine hP.tm (by decide) _ _ ?_

theorem State.setLatch_keeps (hP : Keeps 0x8 P) {s : State} (h : P s)  {p : Path} {off : ℕ} {v : Word} :
    P (State.setLatch s p off v) := by
  unfold State.setLatch
  repeat' first
    | with_reducible assumption
    | exact fun hw => SMap.wf_set _ hw _ _
    | with_reducible refine hP.latches (by decide) _ _ ?_ ?_

theorem State.setLatchOnce_keeps (hP : Keeps 0x8 P) {s : State} (h : P s)  {p : Path} {off : ℕ} {v : Word} :
    P (State.setLatchOnce s p off v) := by
  unfold State.setLatchOnce
  repeat' first
    | with_reducible assumption
    | with_reducible refine State.setLatch_keeps (hP.mono (by decide)) ?_

theorem State.setTmPort_keeps (hP : Keeps 0x100 P) {s : State} (h : P s)  {p : ℕ} {v : TmPort} :
    P (State.setTmPort s p v) := by
  unfold State.setTmPort
  repeat' first
    | with_reducible assumption
    | exact fun hw => SMap.wf_set _ hw _ _
    | with_reducible refine hP.tmPorts (by decide) _ _ ?_ ?_

theorem State.tmStep_keeps (hP : Keeps 0x994 P) {s : State} (h : P s)  {d : ℤ} :
    P (State.tmStep s d) := by
  unfold State.tmStep
  extract_lets a0 a1 a2 a3 a4 a5 a6
  refine have k1 : P a1 := ?_; have k2 : P a2 := ?_; have k3 : P a3 := ?_; have k4 : P a4 := ?_; have k5 : P a5 := ?_; have k6 : P a6 := ?_; ?_
  all_goals clear_value a0
  repeat' first
    | with_reducible assumption
    | with_reducible refine State.setTmPort_keeps (hP.mono (by decide)) ?_
    | with_reducible refine State.setReg64_keeps (hP.mono (by decide)) ?_
    | with_reducible refine State.incSat_keeps (hP.mono (by decide)) ?_
    | with_reducible refine State.setFlag_keeps (hP.mono (by decide)) ?_
    | with_reducible refine State.setFld_keeps (hP.mono (by decide)) ?_
    | with_reducible refine State.icLevel_keeps (hP.mono (by decide)) ?_
    | with_reducible refine forRange_keeps ?_ ?_
    | intro _ _ _
    | intro _ _
    | extract_lets
    | unfold a1
    | unfold a2
    | unfold a3
    | unfold a4
    | unfold a5
    | unfold a6
    | with_reducible refine hP.tm (by decide) _ _ ?_

theorem State.setTmState_keeps (hP : Keeps 0x814 P) {s : State} (h : P s)  {v : ℕ} :
    P (State.setTmState s v) := by
  unfold State.setTmState
  extract_lets a0
  refine have k0 : P a0 := ?_; ?_
  repeat' first
    | with_reducible assumption
    | with_reducible refine State.setFld_keeps (hP.mono (by decide)) ?_
    | with_reducible refine State.icLevel_keeps (hP.mono (by decide)) ?_

theorem State.setQuality_keeps (hP : Keeps 0x1814 P) {s : State} (h : P s)  {q : ℕ} :
    P (State.setQuality s q) := by
  unfold State.setQuality
  extract_lets a0 a1
  refine have k0 : P a0 := ?_; have k1 : P a1 := ?_; ?_
  repeat' first
    | with_reducible assumption
    | with_reducible refine State.setFld_keeps (hP.mono (by decide)) ?_
    | with_reducible refine State.fire_keeps (hP.mono (by decide)) ?_
    | with_reducible refine State.icPend_keeps (hP.mono (by decide)) ?_
    | with_reducible refine ite_keeps ?_ ?_

theorem State.tmAcquired_keeps (hP : Keeps 0x1994 P) {s : State} (h : P s) :
    P (State.tmAcquired s) := by
  unfold State.tmAcquired
  exact State.setQuality_keeps (hP.mono (by decide)) (State.setTmState_keeps (hP.mono (by decide))
    (hP.tm (by decide) _ _ (State.tmStep_keeps (hP.mono (by decide)) h)))

theorem State.tmStartRoot_keeps (hP : Keeps 0x1894 P) {s : State} (h : P s) :
    P (State.tmStartRoot s) := by
  unfold State.tmStartRoot
  extract_lets a0 a1 a2 a3 a4 a5
  refine have k2 : P a2 := ?_; have k3 : P a3 := ?_; have k4 : P a4 := ?_; have k5 : P a5 := ?_; ?_
  all_goals clear_value a0 a1
  repeat' first
    | with_reducible assumption
    | with_reducible refine State.setTmState_keeps (hP.mono (by decide)) ?_
    | with_reducible refine State.setFld_keeps (hP.mono (by decide)) ?_
    | with_reducible refine State.setQuality_keeps (hP.mono (by decide)) ?_
    | extract_lets
    | unfold a2
    | unfold a3
    | unfold a4
    | unfold a5
    | with_reducible refine hP.tm (by decide) _ _ ?_

theorem State.setTpo_keeps (hP : Keeps 0x200 P) {s : State} (h : P s)  {n : ℕ} {v : Tpo} :
    P (State.setTpo s n v) := by
  unfold State.setTpo
  repeat' first
    | with_reducible assumption
    | exact fun hw => SMap.wf_set _ hw _ _
    | with_reducible refine hP.tpos (by decide) _ _ ?_ ?_

theorem State.tpoCtrlWrite_keeps (hP : Keeps 0xa14 P) {s : State} (h : P s)  {n : ℕ} {v : Word} :
    P (State.tpoCtrlWrite s n v) := by
  unfold State.tpoCtrlWrite
  extract_lets a0 a1 a2 a3 a4 a5 a6 a7 a8 a9
  refine have k0 : P a0 := ?_; have k1 : P a1 := ?_; have k3 : P a3 := ?_; have k4 : P a4 := ?_; have k5 : P a5 := ?_; have k6 : P a6 := ?_; have k8 : P a8 := ?_; have k9 : P a9 := ?_; ?_
  all_goals clear_value a2 a7
  repeat' first
    | with_reducible assumption
    | with_reducible refine State.setFld_keeps (hP.mono (by decide)) ?_
    | with_reducible refine State.setFlag_keeps (hP.mono (by decide)) ?_
    | with_reducible refine State.setTpo_keeps (hP.mono (by decide)) ?_
    | with_reducible refine State.reportRefused_keeps (hP.mono (by decide)) ?_
    | with_reducible refine State.reportAccepted_keeps (hP.mono (by decide)) ?_
    | with_reducible refine State.icPend_keeps (hP.mono (by decide)) ?_
    | with_reducible refine ite_keeps ?_ ?_
    | split

theorem State.tmReroute_keeps (hP : Keeps 0x18b4 P) {s : State} (h : P s) :
    P (State.tmReroute s) := by
  unfold State.tmReroute
  extract_lets a0 a1 a2 a3 a4 a5 a6
  refine have k0 : ∀ u, P u → P (a0 u) := ?_; have k1 : P a1 := ?_; have k2 : P a2 := ?_; have k3 : P a3 := ?_; have k4 : P a4 := ?_; have k5 : P a5 := ?_; have k6 : P a6 := ?_; ?_
  repeat' first
    | with_reducible assumption
    | with_reducible refine k0 _ ?_
    | with_reducible refine State.setFldS_keeps (hP.mono (by decide)) ?_
    | with_reducible refine State.setTmState_keeps (hP.mono (by decide)) ?_
    | with_reducible refine State.setQuality_keeps (hP.mono (by decide)) ?_
    | with_reducible refine State.raise_keeps (hP.mono (by decide)) ?_
    | with_reducible refine State.fire_keeps (hP.mono (by decide)) ?_
    | with_reducible refine State.incSat_keeps (hP.mono (by decide)) ?_
    | with_reducible refine ite_keeps ?_ ?_
    | intro _ _
    | split
    | extract_lets
    | unfold a0
    | unfold a1
    | unfold a2
    | unfold a3
    | unfold a4
    | unfold a5
    | unfold a6
    | with_reducible refine hP.tm (by decide) _ _ ?_

theorem State.tmLinkEvent_keeps (hP : Keeps 0x18b4 P) {s : State} (h : P s)  {p : ℕ} :
    P (State.tmLinkEvent s p) := by
  unfold State.tmLinkEvent
  repeat' first
    | with_reducible assumption
    | with_reducible refine State.tmReroute_keeps (hP.mono (by decide)) ?_
    | with_reducible refine ite_keeps ?_ ?_

theorem State.tmReset_keeps (hP : Keeps 0xf94 P) {s : State} (h : P s) :
    P (State.tmReset s) := by
  unfold State.tmReset
  have q1 := fun (u : State) (hu : P u) v0 => hP.tm (by decide) u v0 hu
  have q2 := fun (u : State) (hu : P u) v0 v1 w1 => hP.tmPorts (by decide) _ v1 (q1 u hu v0) w1
  have q3 := fun (u : State) (hu : P u) v0 v1 w1 v2 w2 => hP.tpos (by decide) _ v2 (q2 u hu v0 v1 w1) w2
  have q4 := fun (u : State) (hu : P u) v0 v1 w1 v2 w2 v3 w3 => hP.ppsStage (by decide) _ v3 (q3 u hu v0 v1 w1 v2 w2) w3
  dsimp only at q4
  extract_lets a0 a1 a2 a3
  refine have k1 : P a1 := ?_; have k2 : P a2 := ?_; have k3 : P a3 := ?_; ?_
  all_goals clear_value a0
  repeat' first
    | with_reducible assumption
    | with_reducible refine State.resetRegs_keeps (hP.mono (by decide)) ?_
    | with_reducible refine State.setFlag_keeps (hP.mono (by decide)) ?_
    | with_reducible refine State.icLevel_keeps (hP.mono (by decide)) ?_
    | exact fun _ => rfl
    | extract_lets
    | refine q4 _ ?_ _ _ ?_ _ ?_ _ ?_

theorem State.tmStartChild_keeps (hP : Keeps 0x1894 P) {s : State} (h : P s) :
    P (State.tmStartChild s) := by
  unfold State.tmStartChild
  extract_lets a0 a1 a2
  refine have k1 : P a1 := ?_; have k2 : P a2 := ?_; ?_
  all_goals clear_value a0
  repeat' first
    | with_reducible assumption
    | with_reducible refine State.setTmState_keeps (hP.mono (by decide)) ?_
    | with_reducible refine State.setQuality_keeps (hP.mono (by decide)) ?_
    | extract_lets
    | unfold a1
    | unfold a2
    | with_reducible refine hP.tm (by decide) _ _ ?_

theorem State.tmCorrect_keeps (hP : Keeps 0x9b4 P) {s : State} (h : P s)  {filt : ℤ} :
    P (State.tmCorrect s filt) := by
  unfold State.tmCorrect
  extract_lets a0 a1 a2 a3 a4
  refine have k0 : P a0 := ?_; have k2 : P a2 := ?_; have k3 : P a3 := ?_; have k4 : P a4 := ?_; ?_
  all_goals clear_value a1
  repeat' first
    | with_reducible assumption
    | with_reducible refine State.setFldS_keeps (hP.mono (by decide)) ?_
    | with_reducible refine State.tmStep_keeps (hP.mono (by decide)) ?_
    | with_reducible refine State.setFlag_keeps (hP.mono (by decide)) ?_
    | with_reducible refine State.raise_keeps (hP.mono (by decide)) ?_
    | with_reducible refine State.icLevel_keeps (hP.mono (by decide)) ?_
    | with_reducible refine ite_keeps ?_ ?_

theorem State.tmServo_keeps (hP : Keeps 0x9f4 P) {s : State} (h : P s) :
    P (State.tmServo s) := by
  unfold State.tmServo
  extract_lets a0 a1 a2 a3 a4 a5 a6 a7 a8
  refine have k3 : P a3 := ?_; have k6 : P a6 := ?_; have k8 : P a8 := ?_; ?_
  all_goals clear_value a0 a1 a2 a4 a5 a7
  repeat' first
    | with_reducible assumption
    | with_reducible refine State.draw_keeps (hP.mono (by decide)) ?_
    | with_reducible refine State.setFldS_keeps (hP.mono (by decide)) ?_
    | with_reducible refine State.tmCorrect_keeps (hP.mono (by decide)) ?_
    | with_reducible refine ite_keeps ?_ ?_
    | split
    | extract_lets
    | unfold a3
    | unfold a6
    | unfold a8
    | with_reducible refine hP.tm (by decide) _ _ ?_

theorem State.tmExchange_keeps (hP : Keeps 0x19f4 P) {s : State} (h : P s) :
    P (State.tmExchange s) := by
  unfold State.tmExchange
  extract_lets a0 a1 a2
  refine have k2 : P a2 := ?_; ?_
  all_goals clear_value a0 a1
  repeat' first
    | with_reducible assumption
    | with_reducible refine State.tmAcquired_keeps (hP.mono (by decide)) ?_
    | with_reducible refine State.tmServo_keeps (hP.mono (by decide)) ?_
    | with_reducible refine State.setQuality_keeps (hP.mono (by decide)) ?_
    | with_reducible refine State.setTmState_keeps (hP.mono (by decide)) ?_
    | with_reducible refine ite_keeps ?_ ?_
    | split
    | extract_lets
    | unfold a2
    | with_reducible refine hP.tm (by decide) _ _ ?_

theorem State.setPpsProgress_keeps (hP : Keeps 0x400 P) {s : State} (h : P s)  {p : Path} {n : ℕ} :
    P (State.setPpsProgress s p n) := by
  unfold State.setPpsProgress
  repeat' first
    | with_reducible assumption
    | exact fun hw => SMap.wf_set _ hw _ _
    | with_reducible refine hP.ppsStage (by decide) _ _ ?_ ?_

theorem State.ppsRead_keeps (hP : Keeps 0xc9c P) {s : State} (h : P s)  {p : Path} {word : ℕ} :
    P ((State.ppsRead s p word).1) := by
  unfold State.ppsRead
  extract_lets a0
  all_goals clear_value a0
  repeat' first
    | with_reducible assumption
    | with_reducible refine State.setPpsProgress_keeps (hP.mono (by decide)) ?_
    | with_reducible refine State.setLatch_keeps (hP.mono (by decide)) ?_
    | with_reducible refine State.setPpsFifo_keeps (hP.mono (by decide)) ?_
    | with_reducible refine ite_keeps ?_ ?_
    | exact fun _ => rfl
    | split
    | extract_lets
    | with_reducible refine hP.ppsStage (by decide) _ _ ?_ ?_

theorem State.tpoPulse_keeps (hP : Keeps 0x1204 P) {s : State} (h : P s)  {n : ℕ} :
    P (State.tpoPulse s n) := by
  unfold State.tpoPulse
  extract_lets a0 a1 a2
  refine have k1 : P a1 := ?_; have k2 : P a2 := ?_; ?_
  all_goals clear_value a0
  repeat' first
    | with_reducible assumption
    | with_reducible refine State.setTpo_keeps (hP.mono (by decide)) ?_
    | with_reducible refine State.setFlag_keeps (hP.mono (by decide)) ?_
    | with_reducible refine State.fire_keeps (hP.mono (by decide)) ?_
    | with_reducible refine ite_keeps ?_ ?_

theorem State.tmSendFlit_keeps (hP : Keeps 0x800934 P) {s : State} (h : P s)  {p : ℕ} {stamp : BitVec 80} :
    P (State.tmSendFlit s p stamp) := by
  unfold State.tmSendFlit
  extract_lets a0 a1 a2
  refine have k2 : P a2 := ?_; ?_
  all_goals clear_value a0 a1
  repeat' first
    | with_reducible assumption
    | with_reducible refine State.setTmPort_keeps (hP.mono (by decide)) ?_
    | with_reducible refine State.sendTimeFlit_keeps (hP.mono (by decide)) ?_

theorem State.tmReportPath_keeps (hP : Keeps 0x44 P) {s : State} (h : P s)  {p : ℕ} :
    P (State.tmReportPath s p) := by
  unfold State.tmReportPath
  extract_lets a0 a1
  all_goals clear_value a0 a1
  repeat' first
    | with_reducible assumption
    | with_reducible refine State.setRegN_keeps (hP.mono (by decide)) ?_
    | with_reducible refine State.draw_keeps (hP.mono (by decide)) ?_
    | with_reducible refine ite_keeps ?_ ?_

theorem State.tmReceive_keeps (hP : Keeps 0x19f4 P) {s : State} (h : P s)  {p : ℕ} {f : TimeFlit} {rx : BitVec 80} :
    P (State.tmReceive s p f rx) := by
  unfold State.tmReceive
  extract_lets a0 a1 a2 a3 a4 a5 a6 a7
  refine have k1 : P a1 := ?_; have k3 : P a3 := ?_; have k5 : P a5 := ?_; have k6 : P a6 := ?_; ?_
  all_goals clear_value a0 a2 a4 a7
  repeat' first
    | with_reducible assumption
    | with_reducible refine State.setTmPort_keeps (hP.mono (by decide)) ?_
    | with_reducible refine State.icPend_keeps (hP.mono (by decide)) ?_
    | with_reducible refine State.raise_keeps (hP.mono (by decide)) ?_
    | with_reducible refine State.setFlag_keeps (hP.mono (by decide)) ?_
    | with_reducible refine State.setFld_keeps (hP.mono (by decide)) ?_
    | with_reducible refine State.incSat_keeps (hP.mono (by decide)) ?_
    | with_reducible refine State.tmReportPath_keeps (hP.mono (by decide)) ?_
    | with_reducible refine State.tmExchange_keeps (hP.mono (by decide)) ?_
    | with_reducible refine ite_keeps ?_ ?_
    | split
    | extract_lets
    | unfold a1
    | unfold a3
    | unfold a5
    | unfold a6
    | with_reducible refine hP.tm (by decide) _ _ ?_

theorem State.tmConfirm_keeps (hP : Keeps 0x1814 P) {s : State} (h : P s) :
    P (State.tmConfirm s) := by
  unfold State.tmConfirm
  repeat' first
    | with_reducible assumption
    | with_reducible refine State.setQuality_keeps (hP.mono (by decide)) ?_
    | with_reducible refine ite_keeps ?_ ?_

theorem State.asymWrite_keeps (hP : Keeps 0x1814 P) {s : State} (h : P s)  {q : ℕ} {i : ℕ} {v : Word} :
    P (State.asymWrite s q i v) := by
  unfold State.asymWrite
  extract_lets a0
  refine have k0 : P a0 := ?_; ?_
  repeat' first
    | with_reducible assumption
    | with_reducible refine State.setReg_keeps (hP.mono (by decide)) ?_
    | with_reducible refine State.tmConfirm_keeps (hP.mono (by decide)) ?_
    | with_reducible refine ite_keeps ?_ ?_

theorem State.tmToIdle_keeps (hP : Keeps 0x1814 P) {s : State} (h : P s) :
    P (State.tmToIdle s) := by
  unfold State.tmToIdle
  extract_lets a0 a1 a2 a3 a4
  refine have k0 : P a0 := ?_; have k1 : P a1 := ?_; have k2 : P a2 := ?_; have k3 : P a3 := ?_; have k4 : P a4 := ?_; ?_
  repeat' first
    | with_reducible assumption
    | with_reducible refine State.setTmState_keeps (hP.mono (by decide)) ?_
    | with_reducible refine State.setFlag_keeps (hP.mono (by decide)) ?_
    | with_reducible refine State.setFld_keeps (hP.mono (by decide)) ?_
    | with_reducible refine State.icLevel_keeps (hP.mono (by decide)) ?_
    | with_reducible refine State.setQuality_keeps (hP.mono (by decide)) ?_

theorem State.tmRefLost_keeps (hP : Keeps 0x1834 P) {s : State} (h : P s) :
    P (State.tmRefLost s) := by
  unfold State.tmRefLost
  extract_lets a0 a1 a2 a3
  refine have k0 : P a0 := ?_; have k1 : P a1 := ?_; have k2 : P a2 := ?_; have k3 : P a3 := ?_; ?_
  repeat' first
    | with_reducible assumption
    | with_reducible refine State.setFlag_keeps (hP.mono (by decide)) ?_
    | with_reducible refine State.setFld_keeps (hP.mono (by decide)) ?_
    | with_reducible refine State.raise_keeps (hP.mono (by decide)) ?_
    | with_reducible refine State.icPend_keeps (hP.mono (by decide)) ?_
    | with_reducible refine State.tmToIdle_keeps (hP.mono (by decide)) ?_

theorem State.tmRefBack_keeps (hP : Keeps 0x1894 P) {s : State} (h : P s) :
    P (State.tmRefBack s) := by
  unfold State.tmRefBack
  extract_lets a0 a1 a2
  refine have k1 : P a1 := ?_; have k2 : P a2 := ?_; ?_
  all_goals clear_value a0
  repeat' first
    | with_reducible assumption
    | with_reducible refine State.setFlag_keeps (hP.mono (by decide)) ?_
    | with_reducible refine State.setFld_keeps (hP.mono (by decide)) ?_
    | with_reducible refine State.tmStartChild_keeps (hP.mono (by decide)) ?_
    | with_reducible refine ite_keeps ?_ ?_

theorem State.tmDisable_keeps (hP : Keeps 0x1894 P) {s : State} (h : P s) :
    P (State.tmDisable s) := by
  unfold State.tmDisable
  extract_lets a0
  all_goals clear_value a0
  repeat' first
    | with_reducible assumption
    | with_reducible refine State.tmToIdle_keeps (hP.mono (by decide)) ?_
    | with_reducible refine ite_keeps ?_ ?_
    | split
    | extract_lets
    | with_reducible refine hP.tm (by decide) _ _ ?_

theorem State.tmEnable_keeps (hP : Keeps 0x1894 P) {s : State} (h : P s) :
    P (State.tmEnable s) := by
  unfold State.tmEnable
  extract_lets a0 a1 a2 a3 a4 a5
  refine have k0 : P a0 := ?_; have k1 : P a1 := ?_; have k2 : P a2 := ?_; have k3 : P a3 := ?_; have k5 : P a5 := ?_; ?_
  all_goals clear_value a4
  repeat' first
    | with_reducible assumption
    | with_reducible refine State.setFlag_keeps (hP.mono (by decide)) ?_
    | with_reducible refine State.setFld_keeps (hP.mono (by decide)) ?_
    | with_reducible refine State.reportRefused_keeps (hP.mono (by decide)) ?_
    | with_reducible refine State.reportAccepted_keeps (hP.mono (by decide)) ?_
    | with_reducible refine State.tmStartRoot_keeps (hP.mono (by decide)) ?_
    | with_reducible refine State.tmStartChild_keeps (hP.mono (by decide)) ?_
    | with_reducible refine ite_keeps ?_ ?_
    | split
    | extract_lets
    | unfold a0
    | unfold a1
    | unfold a2
    | unfold a3
    | unfold a5
    | with_reducible refine hP.tm (by decide) _ _ ?_

theorem State.tmParentReason_keeps (hP : Keeps 0x4 P) {s : State} (h : P s) :
    P (State.tmParentReason s) := by
  unfold State.tmParentReason
  extract_lets a0
  all_goals clear_value a0
  repeat' first
    | with_reducible assumption
    | with_reducible refine State.setFld_keeps (hP.mono (by decide)) ?_
    | with_reducible refine ite_keeps ?_ ?_

theorem State.tmCtrlWrite_keeps (hP : Keeps 0x18b4 P) {s : State} (h : P s)  {v : Word} :
    P (State.tmCtrlWrite s v) := by
  unfold State.tmCtrlWrite
  extract_lets a0 a1 a2 a3 a4 a5 a6 a7
  refine have k3 : P a3 := ?_; have k4 : P a4 := ?_; have k5 : P a5 := ?_; have k6 : P a6 := ?_; have k7 : P a7 := ?_; ?_
  all_goals clear_value a0 a1 a2
  repeat' first
    | with_reducible assumption
    | with_reducible refine State.setFld_keeps (hP.mono (by decide)) ?_
    | with_reducible refine State.setFlag_keeps (hP.mono (by decide)) ?_
    | with_reducible refine State.setRegN_keeps (hP.mono (by decide)) ?_
    | with_reducible refine State.tmDisable_keeps (hP.mono (by decide)) ?_
    | with_reducible refine State.tmEnable_keeps (hP.mono (by decide)) ?_
    | with_reducible refine State.tmParentReason_keeps (hP.mono (by decide)) ?_
    | with_reducible refine State.tmReroute_keeps (hP.mono (by decide)) ?_
    | with_reducible refine State.tmConfirm_keeps (hP.mono (by decide)) ?_
    | with_reducible refine ite_keeps ?_ ?_

theorem State.tick_keeps (hP : Keeps 0x84 P) {s : State} (h : P s) :
    P (State.tick s) := by
  unfold State.tick
  extract_lets a0 a1
  refine have k1 : P a1 := ?_; ?_
  all_goals clear_value a0
  repeat' first
    | with_reducible assumption
    | with_reducible refine State.setFlag_keeps (hP.mono (by decide)) ?_
    | with_reducible refine ite_keeps ?_ ?_
    | with_reducible refine forRange_keeps ?_ ?_
    | intro _ _ _
    | intro _ _
    | split
    | extract_lets
    | unfold a1
    | with_reducible refine hP.tm (by decide) _ _ ?_

theorem State.tmModeEntered_keeps (hP : Keeps 0x1994 P) {s : State} (h : P s) :
    P (State.tmModeEntered s) := by
  unfold State.tmModeEntered
  extract_lets a0
  refine have k0 : P a0 := ?_; ?_
  repeat' first
    | with_reducible assumption
    | with_reducible refine State.tmStep_keeps (hP.mono (by decide)) ?_
    | with_reducible refine State.tmAcquired_keeps (hP.mono (by decide)) ?_
    | with_reducible refine State.tmStartRoot_keeps (hP.mono (by decide)) ?_
    | with_reducible refine ite_keeps ?_ ?_

end Sys2Proof.Machine
end

