-- ==== Sys2Proof/Laws/KeepsCauseway.lean ====
section
/-!
SUPPORT. What the operations of Machine/Causeway.lean may change.
-/
namespace Sys2Proof.Machine

variable {P : State → Prop}

theorem State.cwPortLevel_keeps (hP : Keeps 0x814 P) {s : State} (h : P s)  {p : ℕ} :
    P (State.cwPortLevel s p) := by
  unfold State.cwPortLevel
  repeat' first
    | with_reducible assumption
    | with_reducible refine State.icLevel_keeps (hP.mono (by decide)) ?_

theorem State.setCwState_keeps (hP : Keeps 0x814 P) {s : State} (h : P s)  {p : ℕ} {st : ℕ} :
    P (State.setCwState s p st) := by
  unfold State.setCwState
  repeat' first
    | with_reducible assumption
    | with_reducible refine State.cwPortLevel_keeps (hP.mono (by decide)) ?_
    | with_reducible refine State.setFld_keeps (hP.mono (by decide)) ?_

theorem State.cwTrain_keeps (hP : Keeps 0x800814 P) {s : State} (h : P s)  {p : ℕ} {st : ℕ} :
    P (State.cwTrain s p st) := by
  unfold State.cwTrain
  extract_lets a0
  all_goals clear_value a0
  repeat' first
    | with_reducible assumption
    | with_reducible refine State.setCwState_keeps (hP.mono (by decide)) ?_
    | with_reducible refine State.setCwPort_keeps (hP.mono (by decide)) ?_

theorem State.cwToRetrain_keeps (hP : Keeps 0x8018b4 P) {s : State} (h : P s)  {p : ℕ} :
    P (State.cwToRetrain s p) := by
  unfold State.cwToRetrain
  extract_lets a0 a1
  refine have k0 : P a0 := ?_; have k1 : P a1 := ?_; ?_
  repeat' first
    | with_reducible assumption
    | with_reducible refine State.cwTrain_keeps (hP.mono (by decide)) ?_
    | with_reducible refine State.cwFault_keeps (hP.mono (by decide)) ?_
    | with_reducible refine State.tmLinkEvent_keeps (hP.mono (by decide)) ?_
    | with_reducible refine State.incSat_keeps (hP.mono (by decide)) ?_
    | with_reducible refine ite_keeps ?_ ?_

theorem State.replay_keeps (hP : Keeps 0x8018b4 P) {s : State} (h : P s)  {p : ℕ} :
    P (State.replay s p) := by
  unfold State.replay
  extract_lets a0 a1 a2 a3 a4
  refine have k1 : P a1 := ?_; have k2 : P a2 := ?_; have k3 : P a3 := ?_; ?_
  all_goals clear_value a0 a4
  repeat' first
    | with_reducible assumption
    | with_reducible refine State.setCwPort_keeps (hP.mono (by decide)) ?_
    | with_reducible refine State.incSat_keeps (hP.mono (by decide)) ?_
    | with_reducible refine State.emit_keeps (hP.mono (by decide)) ?_
    | with_reducible refine State.cwToRetrain_keeps (hP.mono (by decide)) ?_
    | with_reducible refine ite_keeps ?_ ?_
    | with_reducible refine foldl_keeps ?_ ?_
    | intro _ _ _

theorem State.cwLost_keeps (hP : Keeps 0x18b4 P) {s : State} (h : P s)  {p : ℕ} :
    P (State.cwLost s p) := by
  unfold State.cwLost
  repeat' first
    | with_reducible assumption
    | with_reducible refine State.tmLinkEvent_keeps (hP.mono (by decide)) ?_
    | with_reducible refine ite_keeps ?_ ?_

theorem State.cwDuplicate_keeps (hP : Keeps 0x18b4 P) {s : State} (h : P s)  {p : ℕ} :
    P (State.cwDuplicate s p) := by
  unfold State.cwDuplicate
  extract_lets a0 a1
  refine have k0 : P a0 := ?_; have k1 : P a1 := ?_; ?_
  repeat' first
    | with_reducible assumption
    | with_reducible refine State.cwLost_keeps (hP.mono (by decide)) ?_
    | with_reducible refine State.setCwState_keeps (hP.mono (by decide)) ?_
    | with_reducible refine State.setFlag_keeps (hP.mono (by decide)) ?_
    | with_reducible refine State.icLevel_keeps (hP.mono (by decide)) ?_
    | with_reducible refine State.cwFault_keeps (hP.mono (by decide)) ?_

theorem State.esqCheck_keeps (hP : Keeps 0x7c05834 P) {s : State} (h : P s)  {src : ℕ} {seq : ℕ} :
    P (State.esqCheck s src seq) := by
  unfold State.esqCheck
  extract_lets a0 a1 a2
  refine have k1 : P a1 := ?_; have k2 : P a2 := ?_; ?_
  all_goals clear_value a0
  repeat' first
    | with_reducible assumption
    | with_reducible refine State.incSat_keeps (hP.mono (by decide)) ?_
    | with_reducible refine State.cwFault_keeps (hP.mono (by decide)) ?_
    | with_reducible refine State.importInvalidate_keeps (hP.mono (by decide)) ?_
    | with_reducible refine ite_keeps ?_ ?_
    | with_reducible refine forRange_keeps ?_ ?_
    | exact fun hw => SMap.wf_set _ hw _ _
    | intro _ _ _
    | intro _ _
    | split
    | extract_lets
    | unfold a1
    | unfold a2
    | with_reducible refine hP.esqRx (by decide) _ _ ?_ ?_

theorem State.receiveC0_keeps (hP : Keeps 0x7c058b4 P) {s : State} (h : P s)  {p : ℕ} {f : Flit} {deliver : State → State} (hdeliver : ∀ y0, P y0 → P (deliver y0)) :
    P (State.receiveC0 s p f deliver) := by
  unfold State.receiveC0
  repeat' first
    | with_reducible assumption
    | with_reducible refine hdeliver _ ?_
    | with_reducible refine State.cwDuplicate_keeps (hP.mono (by decide)) ?_
    | with_reducible refine State.esqCheck_keeps (hP.mono (by decide)) ?_
    | with_reducible refine State.queueC0_keeps (hP.mono (by decide)) ?_
    | with_reducible refine State.cwFault_keeps (hP.mono (by decide)) ?_
    | with_reducible refine ite_keeps ?_ ?_
    | split

theorem State.portDown_keeps (hP : Keeps 0x8018b4 P) {s : State} (h : P s)  {p : ℕ} :
    P (State.portDown s p) := by
  unfold State.portDown
  extract_lets a0 a1 a2
  refine have k0 : P a0 := ?_; have k1 : P a1 := ?_; have k2 : P a2 := ?_; ?_
  repeat' first
    | with_reducible assumption
    | with_reducible refine State.setFlag_keeps (hP.mono (by decide)) ?_
    | with_reducible refine State.cwFault_keeps (hP.mono (by decide)) ?_
    | with_reducible refine State.retryReset_keeps (hP.mono (by decide)) ?_
    | with_reducible refine State.cwPortLevel_keeps (hP.mono (by decide)) ?_
    | with_reducible refine State.tmLinkEvent_keeps (hP.mono (by decide)) ?_
    | with_reducible refine ite_keeps ?_ ?_

theorem State.linkDue_keeps (hP : Keeps 0x800014 P) {s : State} (h : P s)  {p : ℕ} :
    P (State.linkDue s p) := by
  unfold State.linkDue
  extract_lets a0 a1 a2
  refine have k1 : P a1 := ?_; have k2 : P a2 := ?_; ?_
  all_goals clear_value a0
  repeat' first
    | with_reducible assumption
    | with_reducible refine State.emit_keeps (hP.mono (by decide)) ?_
    | with_reducible refine State.incSat_keeps (hP.mono (by decide)) ?_
    | with_reducible refine State.setCwPort_keeps (hP.mono (by decide)) ?_
    | with_reducible refine ite_keeps ?_ ?_

theorem State.crcFail_keeps (hP : Keeps 0x834 P) {s : State} (h : P s)  {p : ℕ} :
    P (State.crcFail s p) := by
  unfold State.crcFail
  repeat' first
    | with_reducible assumption
    | with_reducible refine State.cwFault_keeps (hP.mono (by decide)) ?_
    | with_reducible refine State.incSat_keeps (hP.mono (by decide)) ?_
    | with_reducible refine ite_keeps ?_ ?_

theorem State.acceptFlit_keeps (hP : Keeps 0x800000 P) {s : State} (h : P s)  {p : ℕ} {f : Flit} :
    KeepsOpt P ((State.acceptFlit s p f)) := by
  unfold State.acceptFlit
  extract_lets a0
  all_goals clear_value a0
  repeat' first
    | with_reducible assumption
    | with_reducible refine State.setCwPort_keeps (hP.mono (by decide)) ?_
    | with_reducible exact none_keeps
    | with_reducible refine some_keeps ?_
    | with_reducible refine orElse_keeps ?_ ?_
    | with_reducible refine map_keeps (fun _ => ?_)
    | with_reducible refine getD_keeps ?_ ?_
    | with_reducible refine one_keeps ?_
    | with_reducible refine ite_keeps ?_ ?_
    | split

theorem State.flitOutOfTurn_keeps (hP : Keeps 0x800000 P) {s : State} (h : P s)  {p : ℕ} {f : Flit} :
    P (State.flitOutOfTurn s p f) := by
  unfold State.flitOutOfTurn
  extract_lets a0
  all_goals clear_value a0
  repeat' first
    | with_reducible assumption
    | with_reducible refine State.setCwPort_keeps (hP.mono (by decide)) ?_
    | with_reducible refine ite_keeps ?_ ?_

theorem State.receiveFlit_keeps (hP : Keeps 0x8018b4 P) {s : State} (h : P s)  {p : ℕ} {f : Flit} {deliver : State → State} (hdeliver : ∀ y0, P y0 → P (deliver y0)) :
    P (State.receiveFlit s p f deliver) := by
  unfold State.receiveFlit
  repeat' first
    | with_reducible assumption
    | with_reducible refine hdeliver _ ?_
    | with_reducible refine State.acceptFlit_keeps (hP.mono (by decide)) ?_
    | with_reducible refine State.flitOutOfTurn_keeps (hP.mono (by decide)) ?_
    | with_reducible refine State.cwDuplicate_keeps (hP.mono (by decide)) ?_
    | with_reducible refine State.flitLost_keeps (hP.mono (by decide)) ?_
    | with_reducible refine State.sendRouted_keeps (hP.mono (by decide)) ?_
    | with_reducible refine opt_keeps (by with_reducible assumption) ?_
    | with_reducible exact none_keeps
    | with_reducible refine some_keeps ?_
    | with_reducible refine orElse_keeps ?_ ?_
    | with_reducible refine map_keeps (fun _ => ?_)
    | with_reducible refine getD_keeps ?_ ?_
    | with_reducible refine one_keeps ?_
    | with_reducible refine ite_keeps ?_ ?_
    | split

theorem State.rdyUpdate_keeps (hP : Keeps 0x814 P) {s : State} (h : P s) :
    P (State.rdyUpdate s) := by
  unfold State.rdyUpdate
  extract_lets a0 a1 a2 a3 a4 a5
  refine have k2 : P a2 := ?_; have k3 : P a3 := ?_; have k4 : P a4 := ?_; have k5 : P a5 := ?_; ?_
  all_goals clear_value a0 a1
  repeat' first
    | with_reducible assumption
    | with_reducible refine State.setFlag_keeps (hP.mono (by decide)) ?_
    | with_reducible refine State.setFld_keeps (hP.mono (by decide)) ?_
    | with_reducible refine State.icPend_keeps (hP.mono (by decide)) ?_
    | with_reducible refine ite_keeps ?_ ?_

theorem State.badKind_keeps (hP : Keeps 0x4 P) {s : State} (h : P s)  {p : ℕ} {cl : ℕ} {kind : ℕ} :
    P (State.badKind s p cl kind) := by
  unfold State.badKind
  repeat' first
    | with_reducible assumption
    | with_reducible refine State.incSat_keeps (hP.mono (by decide)) ?_
    | with_reducible refine ite_keeps ?_ ?_

theorem State.replayTimeout_keeps (hP : Keeps 0x8018b4 P) {s : State} (h : P s)  {p : ℕ} :
    P (State.replayTimeout s p) := by
  unfold State.replayTimeout
  repeat' first
    | with_reducible assumption
    | with_reducible refine State.replay_keeps (hP.mono (by decide)) ?_
    | with_reducible refine ite_keeps ?_ ?_

theorem State.beaconDue_keeps (hP : Keeps 0x800814 P) {s : State} (h : P s) :
    P (State.beaconDue s) := by
  unfold State.beaconDue
  repeat' first
    | with_reducible assumption
    | with_reducible refine State.queueFlit_keeps (hP.mono (by decide)) ?_
    | with_reducible refine State.rdyUpdate_keeps (hP.mono (by decide)) ?_
    | with_reducible refine ite_keeps ?_ ?_
    | with_reducible refine forRange_keeps ?_ ?_
    | intro _ _ _

theorem State.cwBecomeActive_keeps (hP : Keeps 0x1800834 P) {s : State} (h : P s)  {p : ℕ} {mask : ℕ} :
    P (State.cwBecomeActive s p mask) := by
  unfold State.cwBecomeActive
  extract_lets a0 a1 a2 a3 a4 a5
  refine have k0 : P a0 := ?_; have k1 : P a1 := ?_; have k2 : P a2 := ?_; have k3 : P a3 := ?_; have k5 : P a5 := ?_; ?_
  all_goals clear_value a4
  repeat' first
    | with_reducible assumption
    | with_reducible refine State.setFld_keeps (hP.mono (by decide)) ?_
    | with_reducible refine State.setFlag_keeps (hP.mono (by decide)) ?_
    | with_reducible refine State.setCwPort_keeps (hP.mono (by decide)) ?_
    | with_reducible refine State.pump_keeps (hP.mono (by decide)) ?_
    | with_reducible refine State.pumpC0_keeps (hP.mono (by decide)) ?_
    | with_reducible refine State.setCwState_keeps (hP.mono (by decide)) ?_

theorem State.cwConfigWord_keeps (hP : Keeps 0x18018b4 P) {s : State} (h : P s)  {p : ℕ} {w : BitVec 64} {ready : Bool} :
    P (State.cwConfigWord s p w ready) := by
  unfold State.cwConfigWord
  extract_lets a0 a1 a2 a3 a4 a5 a6 a7 a8
  refine have k0 : P a0 := ?_; have k1 : P a1 := ?_; have k2 : P a2 := ?_; have k3 : P a3 := ?_; have k4 : P a4 := ?_; have k8 : P a8 := ?_; ?_
  all_goals clear_value a5 a6 a7
  repeat' first
    | with_reducible assumption
    | with_reducible refine State.setFld_keeps (hP.mono (by decide)) ?_
    | with_reducible refine State.setFlag_keeps (hP.mono (by decide)) ?_
    | with_reducible refine State.cwDuplicate_keeps (hP.mono (by decide)) ?_
    | with_reducible refine State.retryReset_keeps (hP.mono (by decide)) ?_
    | with_reducible refine State.setCwPort_keeps (hP.mono (by decide)) ?_
    | with_reducible refine State.cwBecomeActive_keeps (hP.mono (by decide)) ?_
    | with_reducible refine ite_keeps ?_ ?_

theorem State.tsWord_keeps (hP : Keeps 0x18018b4 P) {s : State} (h : P s)  {p : ℕ} {w : BitVec 64} {ready : Bool} :
    P (State.tsWord s p w ready) := by
  unfold State.tsWord
  extract_lets a0 a1 a2 a3
  refine have k3 : P a3 := ?_; ?_
  all_goals clear_value a0 a1 a2
  repeat' first
    | with_reducible assumption
    | with_reducible refine State.setCwPort_keeps (hP.mono (by decide)) ?_
    | with_reducible refine State.setCwState_keeps (hP.mono (by decide)) ?_
    | with_reducible refine State.cwConfigWord_keeps (hP.mono (by decide)) ?_
    | with_reducible refine State.cwToRetrain_keeps (hP.mono (by decide)) ?_
    | with_reducible refine ite_keeps ?_ ?_

theorem State.portEnable_keeps (hP : Keeps 0x800814 P) {s : State} (h : P s)  {p : ℕ} :
    P (State.portEnable s p) := by
  unfold State.portEnable
  extract_lets a0 a1 a2 a3
  refine have k0 : P a0 := ?_; have k1 : P a1 := ?_; have k2 : P a2 := ?_; have k3 : P a3 := ?_; ?_
  repeat' first
    | with_reducible assumption
    | with_reducible refine State.setFlag_keeps (hP.mono (by decide)) ?_
    | with_reducible refine State.setFld_keeps (hP.mono (by decide)) ?_
    | with_reducible refine State.reportRefused_keeps (hP.mono (by decide)) ?_
    | with_reducible refine State.cwTrain_keeps (hP.mono (by decide)) ?_
    | with_reducible refine State.reportAccepted_keeps (hP.mono (by decide)) ?_
    | with_reducible refine ite_keeps ?_ ?_
    | split

theorem State.cwDropQueues_keeps (hP : Keeps 0x800000 P) {s : State} (h : P s)  {p : ℕ} :
    P (State.cwDropQueues s p) := by
  unfold State.cwDropQueues
  extract_lets a0
  all_goals clear_value a0
  repeat' first
    | with_reducible assumption
    | with_reducible refine State.setCwPort_keeps (hP.mono (by decide)) ?_

theorem State.portStop_keeps (hP : Keeps 0x8018b4 P) {s : State} (h : P s)  {p : ℕ} :
    P (State.portStop s p) := by
  unfold State.portStop
  extract_lets a0 a1 a2 a3 a4
  refine have k0 : P a0 := ?_; have k1 : P a1 := ?_; have k2 : P a2 := ?_; have k3 : P a3 := ?_; have k4 : P a4 := ?_; ?_
  repeat' first
    | with_reducible assumption
    | with_reducible refine State.cwLost_keeps (hP.mono (by decide)) ?_
    | with_reducible refine State.cwDropQueues_keeps (hP.mono (by decide)) ?_
    | with_reducible refine State.retryReset_keeps (hP.mono (by decide)) ?_
    | with_reducible refine State.setFld_keeps (hP.mono (by decide)) ?_
    | with_reducible refine State.setFlag_keeps (hP.mono (by decide)) ?_
    | with_reducible refine State.cwTrain_keeps (hP.mono (by decide)) ?_
    | with_reducible refine ite_keeps ?_ ?_

theorem State.portDisable_keeps (hP : Keeps 0x8018b4 P) {s : State} (h : P s)  {p : ℕ} :
    P (State.portDisable s p) := by
  unfold State.portDisable
  repeat' first
    | with_reducible assumption
    | with_reducible refine State.portStop_keeps (hP.mono (by decide)) ?_
    | with_reducible refine State.setFlag_keeps (hP.mono (by decide)) ?_

theorem State.cwEnable_keeps (hP : Keeps 0x2000814 P) {s : State} (h : P s) :
    P (State.cwEnable s) := by
  unfold State.cwEnable
  extract_lets a0 a1
  refine have k0 : P a0 := ?_; have k1 : P a1 := ?_; ?_
  repeat' first
    | with_reducible assumption
    | with_reducible refine State.setFlag_keeps (hP.mono (by decide)) ?_
    | with_reducible refine State.unitOutcome_keeps (hP.mono (by decide)) ?_
    | with_reducible refine State.showLoads_keeps (hP.mono (by decide)) ?_
    | with_reducible refine State.when_keeps (hP.mono (by decide)) ?_ ?_
    | with_reducible refine ite_keeps ?_ ?_
    | exact fun _ => rfl
    | intro _ _ _
    | intro _ _
    | split
    | extract_lets
    | unfold a0
    | unfold a1
    | with_reducible refine hP.esqRx (by decide) _ _ ?_ ?_

theorem State.cwCtrlWrite_keeps (hP : Keeps 0x2000814 P) {s : State} (h : P s)  {v : Word} :
    P (State.cwCtrlWrite s v) := by
  unfold State.cwCtrlWrite
  repeat' first
    | with_reducible assumption
    | with_reducible refine State.cwEnable_keeps (hP.mono (by decide)) ?_
    | with_reducible refine State.setFlag_keeps (hP.mono (by decide)) ?_
    | with_reducible refine ite_keeps ?_ ?_

theorem State.cwPowerOff_keeps (hP : Keeps 0x38018b4 P) {s : State} (h : P s) :
    P (State.cwPowerOff s) := by
  unfold State.cwPowerOff
  have q1 := fun (u : State) (hu : P u) v0 w0 => hP.cw (by decide) u v0 hu w0
  have q2 := fun (u : State) (hu : P u) v0 w0 v1 w1 => hP.esqTx (by decide) _ v1 (q1 u hu v0 w0) w1
  have q3 := fun (u : State) (hu : P u) v0 w0 v1 w1 v2 w2 => hP.esqRx (by decide) _ v2 (q2 u hu v0 w0 v1 w1) w2
  dsimp only at q3
  extract_lets a0 a1 a2 a3 a4 a5
  refine have k2 : P a2 := ?_; have k3 : P a3 := ?_; have k4 : P a4 := ?_; have k5 : P a5 := ?_; ?_
  all_goals clear_value a0 a1
  repeat' first
    | with_reducible assumption
    | with_reducible refine State.cwLost_keeps (hP.mono (by decide)) ?_
    | with_reducible refine State.setFlag_keeps (hP.mono (by decide)) ?_
    | with_reducible refine State.resetRegs_keeps (hP.mono (by decide)) ?_
    | with_reducible refine State.setFld_keeps (hP.mono (by decide)) ?_
    | with_reducible refine State.icLevel_keeps (hP.mono (by decide)) ?_
    | with_reducible refine forRange_keeps ?_ ?_
    | exact fun _ => rfl
    | intro _ _ _
    | intro _ _
    | extract_lets
    | refine q3 _ ?_ _ ?_ _ ?_ _ ?_

theorem State.trainTimeout_keeps (hP : Keeps 0x814 P) {s : State} (h : P s)  {p : ℕ} :
    P (State.trainTimeout s p) := by
  unfold State.trainTimeout
  repeat' first
    | with_reducible assumption
    | with_reducible refine State.setCwState_keeps (hP.mono (by decide)) ?_
    | with_reducible refine ite_keeps ?_ ?_

theorem State.importItem_keeps (hP : Keeps 0x5c05834 P) {s : State} (h : P s)  {src : ℕ} {i : ℕ × ℕ × ℕ} :
    P (State.importItem s src i) := by
  unfold State.importItem
  repeat' first
    | with_reducible assumption
    | with_reducible refine State.importSlot_keeps (hP.mono (by decide)) ?_
    | with_reducible refine State.incSat_keeps (hP.mono (by decide)) ?_
    | with_reducible refine ite_keeps ?_ ?_

theorem State.portReset_keeps (hP : Keeps 0x8018b4 P) {s : State} (h : P s)  {p : ℕ} :
    P (State.portReset s p) := by
  unfold State.portReset
  extract_lets a0 a1 a2
  refine have k1 : P a1 := ?_; have k2 : P a2 := ?_; ?_
  all_goals clear_value a0
  repeat' first
    | with_reducible assumption
    | with_reducible refine State.portStop_keeps (hP.mono (by decide)) ?_
    | with_reducible refine State.setReg_keeps (hP.mono (by decide)) ?_
    | with_reducible refine State.when_keeps (hP.mono (by decide)) ?_ ?_
    | with_reducible refine State.cwTrain_keeps (hP.mono (by decide)) ?_
    | intro _ _ _
    | intro _ _

theorem State.receiveDecision_keeps (hP : Keeps 0x7c058b4 P) {s : State} (h : P s)  {p : ℕ} {f : Flit} :
    P (State.receiveDecision s p f) := by
  unfold State.receiveDecision
  repeat' first
    | with_reducible assumption
    | with_reducible refine State.receiveC0_keeps (hP.mono (by decide)) ?_ ?_
    | with_reducible refine State.importItem_keeps (hP.mono (by decide)) ?_
    | with_reducible refine foldl_keeps ?_ ?_
    | intro _ _ _
    | intro _ _

theorem State.cwPortCtrlWrite_keeps (hP : Keeps 0x8018b4 P) {s : State} (h : P s)  {p : ℕ} {v : Word} :
    P (State.cwPortCtrlWrite s p v) := by
  unfold State.cwPortCtrlWrite
  extract_lets a0 a1 a2
  refine have k0 : P a0 := ?_; have k1 : P a1 := ?_; have k2 : P a2 := ?_; ?_
  repeat' first
    | with_reducible assumption
    | with_reducible refine State.setFlag_keeps (hP.mono (by decide)) ?_
    | with_reducible refine State.portReset_keeps (hP.mono (by decide)) ?_
    | with_reducible refine State.portEnable_keeps (hP.mono (by decide)) ?_
    | with_reducible refine State.portDisable_keeps (hP.mono (by decide)) ?_
    | with_reducible refine State.cwToRetrain_keeps (hP.mono (by decide)) ?_
    | with_reducible refine ite_keeps ?_ ?_

theorem State.trainRetry_keeps (hP : Keeps 0x800814 P) {s : State} (h : P s)  {p : ℕ} :
    P (State.trainRetry s p) := by
  unfold State.trainRetry
  repeat' first
    | with_reducible assumption
    | with_reducible refine State.cwTrain_keeps (hP.mono (by decide)) ?_
    | with_reducible refine ite_keeps ?_ ?_

theorem State.receiveLink_keeps (hP : Keeps 0x8018b4 P) {s : State} (h : P s)  {p : ℕ} {l : LinkFlit} :
    P (State.receiveLink s p l) := by
  unfold State.receiveLink
  extract_lets a0 a1
  all_goals clear_value a0 a1
  repeat' first
    | with_reducible assumption
    | with_reducible refine State.pump_keeps (hP.mono (by decide)) ?_
    | with_reducible refine State.incSat_keeps (hP.mono (by decide)) ?_
    | with_reducible refine State.setCwPort_keeps (hP.mono (by decide)) ?_
    | with_reducible refine State.replay_keeps (hP.mono (by decide)) ?_
    | with_reducible refine ite_keeps ?_ ?_
    | split

theorem State.cwDisableAll_keeps (hP : Keeps 0x8018b4 P) {s : State} (h : P s) :
    P (State.cwDisableAll s) := by
  unfold State.cwDisableAll
  repeat' first
    | with_reducible assumption
    | with_reducible refine State.portDisable_keeps (hP.mono (by decide)) ?_
    | with_reducible refine forRange_keeps ?_ ?_
    | intro _ _ _

theorem State.policerToken_keeps (hP : Keeps 0x1800834 P) {s : State} (h : P s)  {p : ℕ} :
    P (State.policerToken s p) := by
  unfold State.policerToken
  repeat' first
    | with_reducible assumption
    | with_reducible refine State.pumpC0_keeps (hP.mono (by decide)) ?_
    | with_reducible refine State.setFld_keeps (hP.mono (by decide)) ?_
    | with_reducible refine ite_keeps ?_ ?_

theorem State.cwReset_keeps (hP : Keeps 0x8018b4 P) {s : State} (h : P s) :
    P (State.cwReset s) := by
  unfold State.cwReset
  repeat' first
    | with_reducible assumption
    | with_reducible refine State.portReset_keeps (hP.mono (by decide)) ?_
    | with_reducible refine forRange_keeps ?_ ?_
    | intro _ _ _

theorem State.alignSlot_keeps (hP : Keeps 0x800010 P) {s : State} (h : P s)  {p : ℕ} :
    P (State.alignSlot s p) := by
  unfold State.alignSlot
  extract_lets a0
  all_goals clear_value a0
  repeat' first
    | with_reducible assumption
    | with_reducible refine State.setCwPort_keeps (hP.mono (by decide)) ?_
    | with_reducible refine State.emit_keeps (hP.mono (by decide)) ?_
    | with_reducible refine ite_keeps ?_ ?_

theorem State.laneLoss_keeps (hP : Keeps 0x8018b4 P) {s : State} (h : P s)  {p : ℕ} {lane : ℕ} :
    P (State.laneLoss s p lane) := by
  unfold State.laneLoss
  repeat' first
    | with_reducible assumption
    | with_reducible refine State.cwToRetrain_keeps (hP.mono (by decide)) ?_
    | with_reducible refine ite_keeps ?_ ?_

end Sys2Proof.Machine
end

