-- ==== Sys2Proof/Laws/KeepsSluice.lean ====
section
/-!
SUPPORT. What the operations of Machine/Sluice.lean may change.
-/
namespace Sys2Proof.Machine

variable {P : State → Prop}

theorem State.setTarget_keeps (hP : Keeps 0x4 P) {s : State} (h : P s)  {c : ℕ} {v : ℤ} :
    P (State.setTarget s c v) := by
  unfold State.setTarget
  repeat' first
    | with_reducible assumption
    | with_reducible refine State.setFldS_keeps (hP.mono (by decide)) ?_

theorem State.setSluCh_keeps (hP : Keeps 0x80000000 P) {s : State} (h : P s)  {c : ℕ} {v : SluCh} :
    P (State.setSluCh s c v) := by
  unfold State.setSluCh
  repeat' first
    | with_reducible assumption
    | exact fun hw => SMap.wf_set _ hw _ _
    | with_reducible refine hP.slu (by decide) _ _ ?_ ?_

theorem State.setOut_keeps (hP : Keeps 0x80000004 P) {s : State} (h : P s)  {c : ℕ} {v : ℤ} :
    P (State.setOut s c v) := by
  unfold State.setOut
  extract_lets a0 a1 a2 a3
  all_goals clear_value a0 a1 a2 a3
  repeat' first
    | with_reducible assumption
    | with_reducible refine State.setFldS_keeps (hP.mono (by decide)) ?_
    | with_reducible refine State.setSluCh_keeps (hP.mono (by decide)) ?_

theorem State.setChState_keeps (hP : Keeps 0x4 P) {s : State} (h : P s)  {c : ℕ} {v : ℕ} :
    P (State.setChState s c v) := by
  unfold State.setChState
  repeat' first
    | with_reducible assumption
    | with_reducible refine State.setFld_keeps (hP.mono (by decide)) ?_

theorem State.zeroReached_keeps (hP : Keeps 0x80000004 P) {s : State} (h : P s)  {c : ℕ} :
    P (State.zeroReached s c) := by
  unfold State.zeroReached
  extract_lets a0 a1
  refine have k1 : P a1 := ?_; ?_
  all_goals clear_value a0
  repeat' first
    | with_reducible assumption
    | with_reducible refine State.setSluCh_keeps (hP.mono (by decide)) ?_
    | with_reducible refine State.setChState_keeps (hP.mono (by decide)) ?_

theorem State.zeroStep_keeps (hP : Keeps 0x80000004 P) {s : State} (h : P s)  {c : ℕ} :
    P (State.zeroStep s c) := by
  unfold State.zeroStep
  extract_lets a0 a1 a2 a3
  refine have k3 : P a3 := ?_; ?_
  all_goals clear_value a0 a1 a2
  repeat' first
    | with_reducible assumption
    | with_reducible refine State.setOut_keeps (hP.mono (by decide)) ?_
    | with_reducible refine State.zeroReached_keeps (hP.mono (by decide)) ?_
    | with_reducible refine ite_keeps ?_ ?_

theorem State.zeroBegin_keeps (hP : Keeps 0x80000004 P) {s : State} (h : P s)  {c : ℕ} :
    P (State.zeroBegin s c) := by
  unfold State.zeroBegin
  extract_lets a0
  refine have k0 : P a0 := ?_; ?_
  repeat' first
    | with_reducible assumption
    | with_reducible refine State.setTarget_keeps (hP.mono (by decide)) ?_
    | with_reducible refine State.zeroStep_keeps (hP.mono (by decide)) ?_
    | with_reducible refine State.setChState_keeps (hP.mono (by decide)) ?_
    | with_reducible refine ite_keeps ?_ ?_

theorem State.sluHold_keeps (hP : Keeps 0x80000004 P) {s : State} (h : P s) :
    P (State.sluHold s) := by
  unfold State.sluHold
  repeat' first
    | with_reducible assumption
    | with_reducible refine State.zeroBegin_keeps (hP.mono (by decide)) ?_
    | with_reducible refine ite_keeps ?_ ?_
    | with_reducible refine forRange_keeps ?_ ?_
    | intro _ _ _

theorem State.setConv_keeps (hP : Keeps 0x100000000 P) {s : State} (h : P s)  {k : ℕ} {v : DpwConv} :
    P (State.setConv s k v) := by
  unfold State.setConv
  extract_lets a0
  all_goals clear_value a0
  repeat' first
    | with_reducible assumption
    | extract_lets
    | with_reducible refine hP.dpw (by decide) _ _ ?_

theorem State.chToOpen_keeps (hP : Keeps 0x80000004 P) {s : State} (h : P s)  {c : ℕ} :
    P (State.chToOpen s c) := by
  unfold State.chToOpen
  extract_lets a0
  all_goals clear_value a0
  repeat' first
    | with_reducible assumption
    | with_reducible refine State.zeroBegin_keeps (hP.mono (by decide)) ?_
    | with_reducible refine State.setSluCh_keeps (hP.mono (by decide)) ?_
    | with_reducible refine ite_keeps ?_ ?_

theorem State.chCfgWrite_keeps (hP : Keeps 0x80000814 P) {s : State} (h : P s)  {c : ℕ} {v : Word} :
    P (State.chCfgWrite s c v) := by
  unfold State.chCfgWrite
  extract_lets a0 a1 a2 a3 a4 a5 a6 a7
  refine have k0 : P a0 := ?_; have k1 : P a1 := ?_; have k3 : P a3 := ?_; have k4 : P a4 := ?_; have k5 : P a5 := ?_; have k6 : P a6 := ?_; ?_
  all_goals clear_value a2 a7
  repeat' first
    | with_reducible assumption
    | with_reducible refine State.setFld_keeps (hP.mono (by decide)) ?_
    | with_reducible refine State.setFlag_keeps (hP.mono (by decide)) ?_
    | with_reducible refine State.chToOpen_keeps (hP.mono (by decide)) ?_
    | with_reducible refine State.setSluCh_keeps (hP.mono (by decide)) ?_
    | with_reducible refine State.reportRefused_keeps (hP.mono (by decide)) ?_
    | with_reducible refine State.reportAccepted_keeps (hP.mono (by decide)) ?_
    | with_reducible refine ite_keeps ?_ ?_
    | split

theorem State.chRefuse_keeps (hP : Keeps 0x4 P) {s : State} (h : P s)  {c : ℕ} {r : ℕ} :
    P (State.chRefuse s c r) := by
  unfold State.chRefuse
  repeat' first
    | with_reducible assumption
    | with_reducible refine State.setFld_keeps (hP.mono (by decide)) ?_
    | with_reducible refine State.setFlag_keeps (hP.mono (by decide)) ?_

theorem State.chAccept_keeps (hP : Keeps 0x4 P) {s : State} (h : P s)  {c : ℕ} :
    P (State.chAccept s c) := by
  unfold State.chAccept
  repeat' first
    | with_reducible assumption
    | with_reducible refine State.setFld_keeps (hP.mono (by decide)) ?_
    | with_reducible refine State.setFlag_keeps (hP.mono (by decide)) ?_

theorem State.slewWrite_keeps (hP : Keeps 0x4 P) {s : State} (h : P s)  {c : ℕ} {v : Word} :
    P (State.slewWrite s c v) := by
  unfold State.slewWrite
  repeat' first
    | with_reducible assumption
    | with_reducible refine State.chRefuse_keeps (hP.mono (by decide)) ?_
    | with_reducible refine State.setReg_keeps (hP.mono (by decide)) ?_
    | with_reducible refine State.chAccept_keeps (hP.mono (by decide)) ?_
    | with_reducible refine ite_keeps ?_ ?_

theorem State.sluDisable_keeps (hP : Keeps 0x80000004 P) {s : State} (h : P s) :
    P (State.sluDisable s) := by
  unfold State.sluDisable
  extract_lets a0
  refine have k0 : P a0 := ?_; ?_
  repeat' first
    | with_reducible assumption
    | with_reducible refine State.setFlag_keeps (hP.mono (by decide)) ?_
    | with_reducible refine State.chToOpen_keeps (hP.mono (by decide)) ?_
    | with_reducible refine State.setSluCh_keeps (hP.mono (by decide)) ?_
    | with_reducible refine forRange_keeps ?_ ?_
    | intro _ _ _

theorem State.closingEnd_keeps (hP : Keeps 0x4 P) {s : State} (h : P s)  {c : ℕ} :
    P (State.closingEnd s c) := by
  unfold State.closingEnd
  extract_lets a0
  refine have k0 : P a0 := ?_; ?_
  repeat' first
    | with_reducible assumption
    | with_reducible refine State.setChState_keeps (hP.mono (by decide)) ?_
    | with_reducible refine State.setTarget_keeps (hP.mono (by decide)) ?_
    | with_reducible refine ite_keeps ?_ ?_

theorem State.rangingStep_keeps (hP : Keeps 0x80000004 P) {s : State} (h : P s)  {c : ℕ} :
    P (State.rangingStep s c) := by
  unfold State.rangingStep
  extract_lets a0
  all_goals clear_value a0
  repeat' first
    | with_reducible assumption
    | with_reducible refine State.setSluCh_keeps (hP.mono (by decide)) ?_
    | with_reducible refine State.setFld_keeps (hP.mono (by decide)) ?_
    | with_reducible refine State.setChState_keeps (hP.mono (by decide)) ?_
    | with_reducible refine ite_keeps ?_ ?_

theorem State.sluEnable_keeps (hP : Keeps 0x80000814 P) {s : State} (h : P s) :
    P (State.sluEnable s) := by
  unfold State.sluEnable
  extract_lets a0 a1
  refine have k0 : P a0 := ?_; have k1 : P a1 := ?_; ?_
  repeat' first
    | with_reducible assumption
    | with_reducible refine State.setFlag_keeps (hP.mono (by decide)) ?_
    | with_reducible refine State.unitOutcome_keeps (hP.mono (by decide)) ?_
    | with_reducible refine State.setSluCh_keeps (hP.mono (by decide)) ?_
    | with_reducible refine ite_keeps ?_ ?_
    | with_reducible refine forRange_keeps ?_ ?_
    | intro _ _ _

theorem State.chTransfer_keeps (hP : Keeps 0x4 P) {s : State} (h : P s)  {c : ℕ} :
    P (State.chTransfer s c) := by
  unfold State.chTransfer
  extract_lets a0 a1
  all_goals clear_value a0 a1
  repeat' first
    | with_reducible assumption
    | with_reducible refine State.setChState_keeps (hP.mono (by decide)) ?_
    | with_reducible refine State.setTarget_keeps (hP.mono (by decide)) ?_
    | with_reducible refine State.incSat_keeps (hP.mono (by decide)) ?_
    | with_reducible refine ite_keeps ?_ ?_

theorem State.sluClrCount_keeps (hP : Keeps 0x4 P) {s : State} (h : P s) :
    P (State.sluClrCount s) := by
  unfold State.sluClrCount
  repeat' first
    | with_reducible assumption
    | with_reducible refine State.setReg_keeps (hP.mono (by decide)) ?_
    | with_reducible refine forRange_keeps ?_ ?_
    | intro _ _ _

theorem State.dlyTrigger_keeps (hP : Keeps 0x100000004 P) {s : State} (h : P s)  {k : ℕ} :
    P (State.dlyTrigger s k) := by
  unfold State.dlyTrigger
  extract_lets a0
  all_goals clear_value a0
  repeat' first
    | with_reducible assumption
    | with_reducible refine State.incSat_keeps (hP.mono (by decide)) ?_
    | with_reducible refine State.setConv_keeps (hP.mono (by decide)) ?_
    | with_reducible refine ite_keeps ?_ ?_

theorem State.strobe_keeps (hP : Keeps 0x100000004 P) {s : State} (h : P s)  {g : ℕ} :
    P (State.strobe s g) := by
  unfold State.strobe
  extract_lets a0 a1
  refine have k0 : P a0 := ?_; have k1 : P a1 := ?_; ?_
  repeat' first
    | with_reducible assumption
    | with_reducible refine State.incSat_keeps (hP.mono (by decide)) ?_
    | with_reducible refine State.incWrap_keeps (hP.mono (by decide)) ?_
    | with_reducible refine State.chTransfer_keeps (hP.mono (by decide)) ?_
    | with_reducible refine State.dlyTrigger_keeps (hP.mono (by decide)) ?_
    | with_reducible refine ite_keeps ?_ ?_
    | with_reducible refine forRange_keeps ?_ ?_
    | intro _ _ _

theorem State.chStatusWrite_keeps (hP : Keeps 0x80000004 P) {s : State} (h : P s)  {c : ℕ} {v : Word} :
    P (State.chStatusWrite s c v) := by
  unfold State.chStatusWrite
  extract_lets a0 a1 a2 a3
  refine have k0 : P a0 := ?_; have k1 : P a1 := ?_; have k3 : P a3 := ?_; ?_
  all_goals clear_value a2
  repeat' first
    | with_reducible assumption
    | with_reducible refine State.setFlag_keeps (hP.mono (by decide)) ?_
    | with_reducible refine State.setSluCh_keeps (hP.mono (by decide)) ?_
    | with_reducible refine State.setChState_keeps (hP.mono (by decide)) ?_
    | with_reducible refine ite_keeps ?_ ?_

theorem State.slewStep_keeps (hP : Keeps 0x80000004 P) {s : State} (h : P s)  {c : ℕ} :
    P (State.slewStep s c) := by
  unfold State.slewStep
  extract_lets a0 a1 a2
  all_goals clear_value a0 a1 a2
  repeat' first
    | with_reducible assumption
    | with_reducible refine State.setOut_keeps (hP.mono (by decide)) ?_
    | with_reducible refine ite_keeps ?_ ?_

theorem State.sluCtrlWrite_keeps (hP : Keeps 0x80000814 P) {s : State} (h : P s)  {v : Word} :
    P (State.sluCtrlWrite s v) := by
  unfold State.sluCtrlWrite
  extract_lets a0
  refine have k0 : P a0 := ?_; ?_
  repeat' first
    | with_reducible assumption
    | with_reducible refine State.sluClrCount_keeps (hP.mono (by decide)) ?_
    | with_reducible refine State.sluEnable_keeps (hP.mono (by decide)) ?_
    | with_reducible refine State.sluDisable_keeps (hP.mono (by decide)) ?_
    | with_reducible refine ite_keeps ?_ ?_

theorem State.rangeWrite_keeps (hP : Keeps 0x80000004 P) {s : State} (h : P s)  {c : ℕ} {v : Word} :
    P (State.rangeWrite s c v) := by
  unfold State.rangeWrite
  extract_lets a0
  all_goals clear_value a0
  repeat' first
    | with_reducible assumption
    | with_reducible refine State.setFld_keeps (hP.mono (by decide)) ?_
    | with_reducible refine State.chAccept_keeps (hP.mono (by decide)) ?_
    | with_reducible refine State.setChState_keeps (hP.mono (by decide)) ?_
    | with_reducible refine State.setSluCh_keeps (hP.mono (by decide)) ?_
    | with_reducible refine State.chRefuse_keeps (hP.mono (by decide)) ?_
    | with_reducible refine ite_keeps ?_ ?_

theorem State.channelFault_keeps (hP : Keeps 0x80001834 P) {s : State} (h : P s)  {c : ℕ} {code : ℕ} :
    P (State.channelFault s c code) := by
  unfold State.channelFault
  extract_lets a0 a1 a2 a3 a4 a5 a6
  refine have k0 : P a0 := ?_; have k1 : P a1 := ?_; have k2 : P a2 := ?_; have k3 : P a3 := ?_; have k5 : P a5 := ?_; have k6 : P a6 := ?_; ?_
  all_goals clear_value a4
  repeat' first
    | with_reducible assumption
    | with_reducible refine State.raise_keeps (hP.mono (by decide)) ?_
    | with_reducible refine State.incSat_keeps (hP.mono (by decide)) ?_
    | with_reducible refine State.setFlag_keeps (hP.mono (by decide)) ?_
    | with_reducible refine State.zeroBegin_keeps (hP.mono (by decide)) ?_
    | with_reducible refine State.setSluCh_keeps (hP.mono (by decide)) ?_
    | with_reducible refine State.icPend_keeps (hP.mono (by decide)) ?_
    | with_reducible refine State.fire_keeps (hP.mono (by decide)) ?_
    | with_reducible refine ite_keeps ?_ ?_
    | with_reducible refine forRange_keeps ?_ ?_
    | intro _ _ _

theorem State.sluGroupReset_keeps (hP : Keeps 0x80000004 P) {s : State} (h : P s)  {a : ℕ} :
    P (State.sluGroupReset s a) := by
  unfold State.sluGroupReset
  extract_lets a0 a1
  refine have k0 : P a0 := ?_; have k1 : P a1 := ?_; ?_
  repeat' first
    | with_reducible assumption
    | with_reducible refine State.setSluCh_keeps (hP.mono (by decide)) ?_
    | with_reducible refine State.resetRegs_keeps (hP.mono (by decide)) ?_
    | with_reducible refine State.setFlag_keeps (hP.mono (by decide)) ?_
    | with_reducible refine forRange_keeps ?_ ?_
    | intro _ _ _

end Sys2Proof.Machine
end

