-- ==== Sys2Proof/Laws/KeepsDipwell.lean ====
section
/-!
SUPPORT. What the operations of Machine/Dipwell.lean may change.
-/
namespace Sys2Proof.Machine

variable {P : State → Prop}

theorem State.calWrite_keeps (hP : Keeps 0x100000004 P) {s : State} (h : P s)  {k : ℕ} {v : Word} :
    P (State.calWrite s k v) := by
  unfold State.calWrite
  extract_lets a0 a1 a2 a3 a4
  refine have k0 : P a0 := ?_; have k1 : P a1 := ?_; have k2 : P a2 := ?_; have k3 : P a3 := ?_; ?_
  all_goals clear_value a4
  repeat' first
    | with_reducible assumption
    | with_reducible refine State.setFlag_keeps (hP.mono (by decide)) ?_
    | with_reducible refine State.setFld_keeps (hP.mono (by decide)) ?_
    | with_reducible refine State.setConv_keeps (hP.mono (by decide)) ?_
    | with_reducible refine ite_keeps ?_ ?_

theorem State.dpwHalt_keeps (hP : Keeps 0x100000004 P) {s : State} (h : P s) :
    P (State.dpwHalt s) := by
  unfold State.dpwHalt
  extract_lets a0 a1
  refine have k1 : P a1 := ?_; ?_
  all_goals clear_value a0
  repeat' first
    | with_reducible assumption
    | with_reducible refine State.setFlag_keeps (hP.mono (by decide)) ?_
    | with_reducible refine forRange_keeps ?_ ?_
    | intro _ _ _
    | intro _ _
    | extract_lets
    | unfold a1
    | with_reducible refine hP.dpw (by decide) _ _ ?_

theorem State.dpwClrCount_keeps (hP : Keeps 0x4 P) {s : State} (h : P s) :
    P (State.dpwClrCount s) := by
  unfold State.dpwClrCount
  repeat' first
    | with_reducible assumption
    | with_reducible refine State.setReg_keeps (hP.mono (by decide)) ?_
    | with_reducible refine forRange_keeps ?_ ?_
    | intro _ _ _

theorem State.dpwEnable_keeps (hP : Keeps 0x814 P) {s : State} (h : P s) :
    P (State.dpwEnable s) := by
  unfold State.dpwEnable
  extract_lets a0
  refine have k0 : P a0 := ?_; ?_
  repeat' first
    | with_reducible assumption
    | with_reducible refine State.setFlag_keeps (hP.mono (by decide)) ?_
    | with_reducible refine State.unitOutcome_keeps (hP.mono (by decide)) ?_
    | with_reducible refine ite_keeps ?_ ?_

theorem State.dpwDisable_keeps (hP : Keeps 0x100000004 P) {s : State} (h : P s) :
    P (State.dpwDisable s) := by
  unfold State.dpwDisable
  repeat' first
    | with_reducible assumption
    | with_reducible refine State.dpwHalt_keeps (hP.mono (by decide)) ?_
    | with_reducible refine State.setFlag_keeps (hP.mono (by decide)) ?_
    | with_reducible refine ite_keeps ?_ ?_

theorem State.xchkVerdict_keeps (hP : Keeps 0x100000834 P) {s : State} (h : P s)  {ref : ℤ × ℤ} {chan : Option (ℤ × ℤ)} :
    P (State.xchkVerdict s ref chan) := by
  unfold State.xchkVerdict
  extract_lets a0 a1 a2 a3 a4 a5 a6 a7
  refine have k5 : P a5 := ?_; have k6 : P a6 := ?_; have k7 : P a7 := ?_; ?_
  all_goals clear_value a0 a1 a2 a3 a4
  repeat' first
    | with_reducible assumption
    | with_reducible refine State.setFlag_keeps (hP.mono (by decide)) ?_
    | with_reducible refine State.incSat_keeps (hP.mono (by decide)) ?_
    | with_reducible refine State.icPend_keeps (hP.mono (by decide)) ?_
    | with_reducible refine State.raise_keeps (hP.mono (by decide)) ?_
    | with_reducible refine ite_keeps ?_ ?_
    | split
    | extract_lets
    | unfold a5
    | unfold a6
    | unfold a7
    | with_reducible refine hP.dpw (by decide) _ _ ?_

theorem State.addConversion_keeps (hP : Keeps 0x4 P) {s : State} (h : P s)  {i : ℕ} {d : BitVec 16} :
    P (State.addConversion s i d) := by
  unfold State.addConversion
  extract_lets a0 a1 a2 a3 a4 a5 a6 a7 a8
  refine have k4 : P a4 := ?_; have k5 : P a5 := ?_; have k7 : P a7 := ?_; have k8 : P a8 := ?_; ?_
  all_goals clear_value a0 a1 a2 a3 a6
  repeat' first
    | with_reducible assumption
    | with_reducible refine State.setRegN_keeps (hP.mono (by decide)) ?_
    | with_reducible refine State.setFld_keeps (hP.mono (by decide)) ?_
    | with_reducible refine ite_keeps ?_ ?_

theorem State.xchkStep_keeps (hP : Keeps 0x100000834 P) {s : State} (h : P s)  {d0 : BitVec 16} {d1 : BitVec 16} :
    P (State.xchkStep s d0 d1) := by
  unfold State.xchkStep
  extract_lets a0 a1
  all_goals clear_value a0 a1
  repeat' first
    | with_reducible assumption
    | with_reducible refine State.xchkVerdict_keeps (hP.mono (by decide)) ?_
    | with_reducible refine State.addConversion_keeps (hP.mono (by decide)) ?_
    | split
    | extract_lets
    | with_reducible refine hP.dpw (by decide) _ _ ?_

theorem State.supervise_keeps (hP : Keeps 0x80001834 P) {s : State} (h : P s)  {c : ℕ} {d : BitVec 16} :
    P (State.supervise s c d) := by
  unfold State.supervise
  extract_lets a0 a1 a2 a3 a4
  refine have k2 : P a2 := ?_; ?_
  all_goals clear_value a0 a1 a3 a4
  repeat' first
    | with_reducible assumption
    | with_reducible refine State.setSluCh_keeps (hP.mono (by decide)) ?_
    | with_reducible refine State.incSat_keeps (hP.mono (by decide)) ?_
    | with_reducible refine State.channelFault_keeps (hP.mono (by decide)) ?_
    | with_reducible refine ite_keeps ?_ ?_

theorem State.convert_keeps (hP : Keeps 0x180001834 P) {s : State} (h : P s)  {k : ℕ} {d : BitVec 16} :
    P (State.convert s k d) := by
  unfold State.convert
  extract_lets a0 a1
  all_goals clear_value a0 a1
  repeat' first
    | with_reducible assumption
    | with_reducible refine State.setFlag_keeps (hP.mono (by decide)) ?_
    | with_reducible refine State.setConv_keeps (hP.mono (by decide)) ?_
    | with_reducible refine State.addConversion_keeps (hP.mono (by decide)) ?_
    | with_reducible refine State.fire_keeps (hP.mono (by decide)) ?_
    | with_reducible refine State.supervise_keeps (hP.mono (by decide)) ?_
    | with_reducible refine ite_keeps ?_ ?_
    | split

theorem State.conversionSlot_keeps (hP : Keeps 0x180001834 P) {s : State} (h : P s)  {d0 : BitVec 16} {d1 : BitVec 16} :
    P (State.conversionSlot s d0 d1) := by
  unfold State.conversionSlot
  extract_lets a0 a1 a2
  refine have k1 : P a1 := ?_; have k2 : P a2 := ?_; ?_
  all_goals clear_value a0
  repeat' first
    | with_reducible assumption
    | with_reducible refine State.setConv_keeps (hP.mono (by decide)) ?_
    | with_reducible refine State.xchkStep_keeps (hP.mono (by decide)) ?_
    | with_reducible refine State.convert_keeps (hP.mono (by decide)) ?_
    | with_reducible refine ite_keeps ?_ ?_
    | with_reducible refine forRange_keeps ?_ ?_
    | intro _ _ _
    | intro _ _
    | split
    | extract_lets
    | unfold a1
    | unfold a2
    | with_reducible refine hP.dpw (by decide) _ _ ?_

theorem State.injWrite_keeps (hP : Keeps 0x100000004 P) {s : State} (h : P s)  {k : ℕ} {v : Word} :
    P (State.injWrite s k v) := by
  unfold State.injWrite
  extract_lets a0
  all_goals clear_value a0
  repeat' first
    | with_reducible assumption
    | with_reducible refine State.incSat_keeps (hP.mono (by decide)) ?_
    | with_reducible refine State.setFlag_keeps (hP.mono (by decide)) ?_
    | with_reducible refine State.setConv_keeps (hP.mono (by decide)) ?_
    | with_reducible refine ite_keeps ?_ ?_

theorem State.dpwCtrlWrite_keeps (hP : Keeps 0x100000814 P) {s : State} (h : P s)  {v : Word} :
    P (State.dpwCtrlWrite s v) := by
  unfold State.dpwCtrlWrite
  extract_lets a0
  refine have k0 : P a0 := ?_; ?_
  repeat' first
    | with_reducible assumption
    | with_reducible refine State.dpwClrCount_keeps (hP.mono (by decide)) ?_
    | with_reducible refine State.dpwEnable_keeps (hP.mono (by decide)) ?_
    | with_reducible refine State.dpwDisable_keeps (hP.mono (by decide)) ?_
    | with_reducible refine ite_keeps ?_ ?_

theorem State.dpwAccClear_keeps (hP : Keeps 0x4 P) {s : State} (h : P s)  {i : ℕ} :
    P (State.dpwAccClear s i) := by
  unfold State.dpwAccClear
  repeat' first
    | with_reducible assumption
    | with_reducible refine State.setReg_keeps (hP.mono (by decide)) ?_

theorem State.dpwReset_keeps (hP : Keeps 0x100000004 P) {s : State} (h : P s) :
    P (State.dpwReset s) := by
  unfold State.dpwReset
  repeat' first
    | with_reducible assumption
    | with_reducible refine State.resetRegs_keeps (hP.mono (by decide)) ?_
    | with_reducible refine hP.dpw (by decide) _ _ ?_

theorem State.sumRead_keeps (hP : Keeps 0xc P) {s : State} (h : P s)  {p : Path} {i : ℕ} :
    P ((State.sumRead s p i).1) := by
  unfold State.sumRead
  extract_lets a0 a1 a2 a3 a4
  refine have k1 : P a1 := ?_; have k2 : P a2 := ?_; have k3 : P a3 := ?_; have k4 : P a4 := ?_; ?_
  all_goals clear_value a0
  repeat' first
    | with_reducible assumption
    | with_reducible refine State.setLatch_keeps (hP.mono (by decide)) ?_
    | with_reducible refine State.setLatchOnce_keeps (hP.mono (by decide)) ?_
    | with_reducible refine State.dpwAccClear_keeps (hP.mono (by decide)) ?_
    | with_reducible refine ite_keeps ?_ ?_

theorem State.scanTrigger_keeps (hP : Keeps 0x100000024 P) {s : State} (h : P s)  {k : ℕ} :
    P (State.scanTrigger s k) := by
  unfold State.scanTrigger
  extract_lets a0
  all_goals clear_value a0
  repeat' first
    | with_reducible assumption
    | with_reducible refine State.incSat_keeps (hP.mono (by decide)) ?_
    | with_reducible refine State.raise_keeps (hP.mono (by decide)) ?_
    | with_reducible refine State.setConv_keeps (hP.mono (by decide)) ?_
    | with_reducible refine ite_keeps ?_ ?_

end Sys2Proof.Machine
end

