-- ==== Sys2Proof/Laws/KeepsFlux.lean ====
section
/-!
SUPPORT. What the operations of Machine/Flux.lean may change.
-/
namespace Sys2Proof.Machine

variable {P : State → Prop}

theorem State.flxClearAll_keeps (hP : Keeps 0x20000 P) {s : State} (h : P s)  {n : ℕ} :
    P (State.flxClearAll s n) := by
  unfold State.flxClearAll
  repeat' first
    | with_reducible assumption
    | with_reducible refine State.fluxClear_keeps (hP.mono (by decide)) ?_
    | with_reducible refine forRange_keeps ?_ ?_
    | intro _ _ _

theorem State.flxClrCount_keeps (hP : Keeps 0x200020834 P) {s : State} (h : P s)  {n : ℕ} :
    P (State.flxClrCount s n) := by
  unfold State.flxClrCount
  repeat' first
    | with_reducible assumption
    | with_reducible refine State.setReg_keeps (hP.mono (by decide)) ?_
    | with_reducible refine State.fluxAdvance_keeps (hP.mono (by decide)) ?_
    | with_reducible refine forRange_keeps ?_ ?_
    | intro _ _ _

theorem State.flxEnable_keeps (hP : Keeps 0x814 P) {s : State} (h : P s)  {n : ℕ} :
    P (State.flxEnable s n) := by
  unfold State.flxEnable
  extract_lets a0
  refine have k0 : P a0 := ?_; ?_
  repeat' first
    | with_reducible assumption
    | with_reducible refine State.setFlag_keeps (hP.mono (by decide)) ?_
    | with_reducible refine State.unitOutcome_keeps (hP.mono (by decide)) ?_
    | with_reducible refine ite_keeps ?_ ?_

theorem State.flxDisable_keeps (hP : Keeps 0x20042c834 P) {s : State} (h : P s)  {n : ℕ} :
    P (State.flxDisable s n) := by
  unfold State.flxDisable
  extract_lets a0
  refine have k0 : P a0 := ?_; ?_
  repeat' first
    | with_reducible assumption
    | with_reducible refine State.fluxAdvance_keeps (hP.mono (by decide)) ?_
    | with_reducible refine State.setFlag_keeps (hP.mono (by decide)) ?_
    | with_reducible refine State.disarm_keeps (hP.mono (by decide)) ?_
    | with_reducible refine State.flxClearAll_keeps (hP.mono (by decide)) ?_
    | with_reducible refine State.endChains_keeps (hP.mono (by decide)) ?_
    | with_reducible refine forRange_keeps ?_ ?_
    | intro _ _ _

theorem State.flxCtrlWrite_keeps (hP : Keeps 0x20042c834 P) {s : State} (h : P s)  {n : ℕ} {v : Word} :
    P (State.flxCtrlWrite s n v) := by
  unfold State.flxCtrlWrite
  extract_lets a0
  refine have k0 : P a0 := ?_; ?_
  repeat' first
    | with_reducible assumption
    | with_reducible refine State.flxClrCount_keeps (hP.mono (by decide)) ?_
    | with_reducible refine State.flxEnable_keeps (hP.mono (by decide)) ?_
    | with_reducible refine State.flxDisable_keeps (hP.mono (by decide)) ?_
    | with_reducible refine ite_keeps ?_ ?_

theorem State.flxAmpWrite_keeps (hP : Keeps 0x200020834 P) {s : State} (h : P s)  {n : ℕ} {f : ℕ} {v : Word} :
    P (State.flxAmpWrite s n f v) := by
  unfold State.flxAmpWrite
  repeat' first
    | with_reducible assumption
    | with_reducible refine State.setFld_keeps (hP.mono (by decide)) ?_
    | with_reducible refine State.fluxAdvance_keeps (hP.mono (by decide)) ?_

end Sys2Proof.Machine
end

