-- ==== Sys2Proof/Laws/KeepsPm.lean ====
section
/-!
SUPPORT. What the operations of Machine/Pm.lean may change.
-/
namespace Sys2Proof.Machine

variable {P : State → Prop}

theorem State.poolClear_keeps (hP : Keeps 0x5863e004 P) {s : State} (h : P s)  {n : ℕ} :
    P (State.poolClear s n) := by
  unfold State.poolClear
  have q1 := fun (u : State) (hu : P u) v0 w0 => hP.segStage (by decide) u v0 hu w0
  have q2 := fun (u : State) (hu : P u) v0 w0 v1 w1 => hP.chains (by decide) _ v1 (q1 u hu v0 w0) w1
  have q3 := fun (u : State) (hu : P u) v0 w0 v1 w1 v2 w2 => hP.sbufs (by decide) _ v2 (q2 u hu v0 w0 v1 w1) w2
  have q4 := fun (u : State) (hu : P u) v0 w0 v1 w1 v2 w2 v3 w3 => hP.markers (by decide) _ v3 (q3 u hu v0 w0 v1 w1 v2 w2) w3
  have q5 := fun (u : State) (hu : P u) v0 w0 v1 w1 v2 w2 v3 w3 v4 w4 => hP.filters (by decide) _ v4 (q4 u hu v0 w0 v1 w1 v2 w2 v3 w3) w4
  have q6 := fun (u : State) (hu : P u) v0 w0 v1 w1 v2 w2 v3 w3 v4 w4 v5 w5 => hP.armed (by decide) _ v5 (q5 u hu v0 w0 v1 w1 v2 w2 v3 w3 v4 w4) w5
  have q7 := fun (u : State) (hu : P u) v0 w0 v1 w1 v2 w2 v3 w3 v4 w4 v5 w5 v6 w6 => hP.tones (by decide) _ v6 (q6 u hu v0 w0 v1 w1 v2 w2 v3 w3 v4 w4 v5 w5) w6
  have q8 := fun (u : State) (hu : P u) v0 w0 v1 w1 v2 w2 v3 w3 v4 w4 v5 w5 v6 w6 v7 w7 => hP.lines (by decide) _ v7 (q7 u hu v0 w0 v1 w1 v2 w2 v3 w3 v4 w4 v5 w5 v6 w6) w7
  have q9 := fun (u : State) (hu : P u) v0 w0 v1 w1 v2 w2 v3 w3 v4 w4 v5 w5 v6 w6 v7 w7 v8 w8 => hP.fifos (by decide) _ v8 (q8 u hu v0 w0 v1 w1 v2 w2 v3 w3 v4 w4 v5 w5 v6 w6 v7 w7) w8
  dsimp only at q9
  extract_lets a0 a1 a2 a3
  refine have k1 : P a1 := ?_; have k2 : P a2 := ?_; have k3 : P a3 := ?_; ?_
  all_goals clear_value a0
  repeat' first
    | with_reducible assumption
    | with_reducible refine State.coresReset_keeps (hP.mono (by decide)) ?_
    | with_reducible refine State.resetRegs_keeps (hP.mono (by decide)) ?_
    | exact fun hw => SMap.wf_drop _ hw _
    | extract_lets
    | refine q9 _ ?_ _ ?_ _ ?_ _ ?_ _ ?_ _ ?_ _ ?_ _ ?_ _ ?_ _ ?_

theorem State.poolLost_keeps (hP : Keeps 0x407dfff834 P) {s : State} (h : P s)  {n : ℕ} :
    P (State.poolLost s n) := by
  unfold State.poolLost
  have q1 := fun (u : State) (hu : P u) v0 w0 => hP.peat (by decide) u v0 hu w0
  have q2 := fun (u : State) (hu : P u) v0 w0 v1 w1 => hP.dmem (by decide) _ v1 (q1 u hu v0 w0) w1
  have q3 := fun (u : State) (hu : P u) v0 w0 v1 w1 v2 w2 => hP.imem (by decide) _ v2 (q2 u hu v0 w0 v1 w1) w2
  have q4 := fun (u : State) (hu : P u) v0 w0 v1 w1 v2 w2 v3 w3 => hP.weights (by decide) _ v3 (q3 u hu v0 w0 v1 w1 v2 w2) w3
  have q5 := fun (u : State) (hu : P u) v0 w0 v1 w1 v2 w2 v3 w3 v4 => hP.roEver (by decide) _ v4 (q4 u hu v0 w0 v1 w1 v2 w2 v3 w3)
  dsimp only at q5
  extract_lets a0 a1 a2
  refine have k0 : P a0 := ?_; have k1 : P a1 := ?_; have k2 : P a2 := ?_; ?_
  repeat' first
    | with_reducible assumption
    | with_reducible refine State.resetRegs_keeps (hP.mono (by decide)) ?_
    | with_reducible refine State.poolClear_keeps (hP.mono (by decide)) ?_
    | with_reducible refine State.setFld_keeps (hP.mono (by decide)) ?_
    | with_reducible refine State.icLevel_keeps (hP.mono (by decide)) ?_
    | with_reducible refine State.slotsInvalidate_keeps (hP.mono (by decide)) ?_
    | exact fun hw => SMap.wf_drop _ hw _
    | extract_lets
    | refine q5 _ ?_ _ ?_ _ ?_ _ ?_ _ ?_ _

theorem State.csLost_keeps (hP : Keeps 0x8000000004 P) {s : State} (h : P s)  {u : ℕ} :
    P (State.csLost s u) := by
  unfold State.csLost
  extract_lets a0 a1 a2 a3 a4
  refine have k0 : P a0 := ?_; have k1 : P a1 := ?_; have k2 : P a2 := ?_; have k3 : P a3 := ?_; ?_
  all_goals clear_value a4
  repeat' first
    | with_reducible assumption
    | with_reducible refine State.setFlag_keeps (hP.mono (by decide)) ?_
    | with_reducible refine State.setReg_keeps (hP.mono (by decide)) ?_
    | extract_lets
    | unfold a0
    | unfold a1
    | unfold a2
    | unfold a3
    | with_reducible refine hP.sec (by decide) _ _ ?_

theorem State.hostUnitsReset_keeps (hP : Keeps 0x1e00000804 P) {s : State} (h : P s) :
    P (State.hostUnitsReset s) := by
  unfold State.hostUnitsReset
  have q1 := fun (u : State) (hu : P u) v0 => hP.ic (by decide) u v0 hu
  have q2 := fun (u : State) (hu : P u) v0 v1 => hP.runs (by decide) _ v1 (q1 u hu v0)
  have q3 := fun (u : State) (hu : P u) v0 v1 v2 w2 => hP.sqs (by decide) _ v2 (q2 u hu v0 v1) w2
  have q4 := fun (u : State) (hu : P u) v0 v1 v2 w2 v3 w3 => hP.cqs (by decide) _ v3 (q3 u hu v0 v1 v2 w2) w3
  have q5 := fun (u : State) (hu : P u) v0 v1 v2 w2 v3 w3 v4 w4 => hP.parts (by decide) _ v4 (q4 u hu v0 v1 v2 w2 v3 w3) w4
  dsimp only at q5
  repeat' first
    | with_reducible assumption
    | with_reducible refine State.resetRegs_keeps (hP.mono (by decide)) ?_
    | exact fun _ => rfl
    | refine q5 _ ?_ _ _ _ ?_ _ ?_ _ ?_

theorem State.pmRefuse_keeps (hP : Keeps 0x4 P) {s : State} (h : P s)  {r : ℕ} :
    P (State.pmRefuse s r) := by
  unfold State.pmRefuse
  repeat' first
    | with_reducible assumption
    | with_reducible refine State.showRefusal_keeps (hP.mono (by decide)) ?_
    | with_reducible refine State.setFld_keeps (hP.mono (by decide)) ?_
    | with_reducible refine State.setFlag_keeps (hP.mono (by decide)) ?_

theorem State.poolReset_keeps (hP : Keeps 0x5863e004 P) {s : State} (h : P s)  {n : ℕ} :
    P (State.poolReset s n) := by
  unfold State.poolReset
  repeat' first
    | with_reducible assumption
    | with_reducible refine State.slotsReset_keeps (hP.mono (by decide)) ?_
    | with_reducible refine State.poolClear_keeps (hP.mono (by decide)) ?_

theorem State.poolUnitReset_keeps (hP : Keeps 0x5863e004 P) {s : State} (h : P s)  {n : ℕ} :
    P (State.poolUnitReset s n) := by
  unfold State.poolUnitReset
  repeat' first
    | with_reducible assumption
    | with_reducible refine State.pmRefuse_keeps (hP.mono (by decide)) ?_
    | with_reducible refine State.poolReset_keeps (hP.mono (by decide)) ?_
    | with_reducible refine ite_keeps ?_ ?_

theorem State.pmAccept_keeps (hP : Keeps 0x4 P) {s : State} (h : P s) :
    P (State.pmAccept s) := by
  unfold State.pmAccept
  repeat' first
    | with_reducible assumption
    | with_reducible refine State.setFld_keeps (hP.mono (by decide)) ?_
    | with_reducible refine State.setFlag_keeps (hP.mono (by decide)) ?_

theorem State.unitResetWrite_keeps (hP : Keeps 0x5ce3f8b4 P) {s : State} (h : P s)  {v : Word} :
    P (State.unitResetWrite s v) := by
  unfold State.unitResetWrite
  extract_lets a0 a1
  refine have k0 : P a0 := ?_; have k1 : P a1 := ?_; ?_
  repeat' first
    | with_reducible assumption
    | with_reducible refine State.pmRefuse_keeps (hP.mono (by decide)) ?_
    | with_reducible refine State.poolUnitReset_keeps (hP.mono (by decide)) ?_
    | with_reducible refine State.pmAccept_keeps (hP.mono (by decide)) ?_
    | with_reducible refine State.when_keeps (hP.mono (by decide)) ?_ ?_
    | with_reducible refine State.sdgReset_keeps (hP.mono (by decide)) ?_
    | with_reducible refine State.cwReset_keeps (hP.mono (by decide)) ?_
    | with_reducible refine ite_keeps ?_ ?_
    | with_reducible refine forRange_keeps ?_ ?_
    | intro _ _ _
    | intro _ _

theorem State.forPools_keeps (hP : Keeps 0x0 P) {s : State} (h : P s)  {f : ℕ → State → State} (hf : ∀ y0 y1, P y1 → P (f y0 y1)) :
    P (State.forPools s f) := by
  unfold State.forPools
  repeat' first
    | with_reducible assumption
    | with_reducible refine hf _ _ ?_
    | with_reducible refine ite_keeps ?_ ?_
    | with_reducible refine forRange_keeps ?_ ?_
    | intro _ _ _

theorem State.poolQuiet_keeps (hP : Keeps 0x25803c834 P) {s : State} (h : P s)  {n : ℕ} :
    P (State.poolQuiet s n) := by
  unfold State.poolQuiet
  extract_lets a0
  refine have k0 : P a0 := ?_; ?_
  repeat' first
    | with_reducible assumption
    | with_reducible refine State.fluxAdvance_keeps (hP.mono (by decide)) ?_
    | with_reducible refine State.flxClearAll_keeps (hP.mono (by decide)) ?_
    | with_reducible refine State.clearMarkers_keeps (hP.mono (by decide)) ?_
    | with_reducible refine State.endChains_keeps (hP.mono (by decide)) ?_
    | with_reducible refine State.truncatePool_keeps (hP.mono (by decide)) ?_
    | with_reducible refine forRange_keeps ?_ ?_
    | intro _ _ _

theorem State.enterMode_keeps (hP : Keeps 0x65c83d9b4 P) {s : State} (h : P s)  {m : ℕ} :
    P (State.enterMode s m) := by
  unfold State.enterMode
  extract_lets a0 a1 a2 a3 a4 a5
  refine have k1 : P a1 := ?_; have k2 : P a2 := ?_; have k3 : P a3 := ?_; have k4 : P a4 := ?_; have k5 : P a5 := ?_; ?_
  all_goals clear_value a0
  repeat' first
    | with_reducible assumption
    | with_reducible refine State.when_keeps (hP.mono (by decide)) ?_ ?_
    | with_reducible refine State.forPools_keeps (hP.mono (by decide)) ?_ ?_
    | with_reducible refine State.poolQuiet_keeps (hP.mono (by decide)) ?_
    | with_reducible refine State.setMode_keeps (hP.mono (by decide)) ?_
    | with_reducible refine State.flxClearAll_keeps (hP.mono (by decide)) ?_
    | with_reducible refine State.sdgSafe_keeps (hP.mono (by decide)) ?_
    | with_reducible refine State.refuseWaiting_keeps (hP.mono (by decide)) ?_
    | with_reducible refine State.rdyUpdate_keeps (hP.mono (by decide)) ?_
    | with_reducible refine State.tmModeEntered_keeps (hP.mono (by decide)) ?_
    | intro _ _ _
    | intro _ _

theorem State.safeEnter_keeps (hP : Keeps 0x6dce3d9b4 P) {s : State} (h : P s)  {code : ℕ} :
    P (State.safeEnter s code) := by
  unfold State.safeEnter
  extract_lets a0 a1 a2
  refine have k0 : P a0 := ?_; have k1 : P a1 := ?_; have k2 : P a2 := ?_; ?_
  repeat' first
    | with_reducible assumption
    | with_reducible refine State.runsSafe_keeps (hP.mono (by decide)) ?_
    | with_reducible refine State.forPools_keeps (hP.mono (by decide)) ?_ ?_
    | with_reducible refine State.disarm_keeps (hP.mono (by decide)) ?_
    | with_reducible refine State.coreStop_keeps (hP.mono (by decide)) ?_
    | with_reducible refine State.incSat_keeps (hP.mono (by decide)) ?_
    | with_reducible refine State.sluHold_keeps (hP.mono (by decide)) ?_
    | with_reducible refine State.enterMode_keeps (hP.mono (by decide)) ?_
    | with_reducible refine forRange_keeps ?_ ?_
    | intro _ _ _

theorem State.causeActs_keeps (hP : Keeps 0x6dce3d9b4 P) {s : State} (h : P s)  {code : ℕ} :
    P (State.causeActs s code) := by
  unfold State.causeActs
  repeat' first
    | with_reducible assumption
    | with_reducible refine State.safeEnter_keeps (hP.mono (by decide)) ?_
    | with_reducible refine State.when_keeps (hP.mono (by decide)) ?_ ?_
    | with_reducible refine State.sluHold_keeps (hP.mono (by decide)) ?_
    | with_reducible refine ite_keeps ?_ ?_
    | intro _ _ _
    | intro _ _

theorem State.safeCause_keeps (hP : Keeps 0x6dce3d9b4 P) {s : State} (h : P s)  {fs : List Fld} {code : ℕ} :
    P (State.safeCause s fs code) := by
  unfold State.safeCause
  extract_lets a0
  refine have k0 : P a0 := ?_; ?_
  repeat' first
    | with_reducible assumption
    | with_reducible refine State.when_keeps (hP.mono (by decide)) ?_ ?_
    | with_reducible refine State.setFld_keeps (hP.mono (by decide)) ?_
    | with_reducible refine State.causeActs_keeps (hP.mono (by decide)) ?_
    | with_reducible refine State.setFlag_keeps (hP.mono (by decide)) ?_
    | with_reducible refine foldl_keeps ?_ ?_
    | intro _ _ _
    | intro _ _

theorem State.refLost_keeps (hP : Keeps 0x6dce3d9b4 P) {s : State} (h : P s) :
    P (State.refLost s) := by
  unfold State.refLost
  repeat' first
    | with_reducible assumption
    | with_reducible refine State.safeCause_keeps (hP.mono (by decide)) ?_
    | with_reducible refine State.tmRefLost_keeps (hP.mono (by decide)) ?_
    | with_reducible refine ite_keeps ?_ ?_

theorem State.setLock_keeps (hP : Keeps 0x4 P) {s : State} (h : P s)  {d : ℕ} {b : Bool} :
    P (State.setLock s d b) := by
  unfold State.setLock
  repeat' first
    | with_reducible assumption
    | with_reducible refine State.setFld_keeps (hP.mono (by decide)) ?_

theorem State.clockLost_keeps (hP : Keeps 0x6dde3d9b4 P) {s : State} (h : P s)  {d : ℕ} :
    P (State.clockLost s d) := by
  unfold State.clockLost
  extract_lets a0 a1
  refine have k0 : P a0 := ?_; have k1 : P a1 := ?_; ?_
  repeat' first
    | with_reducible assumption
    | with_reducible refine State.refLost_keeps (hP.mono (by decide)) ?_
    | with_reducible refine State.raise_keeps (hP.mono (by decide)) ?_
    | with_reducible refine State.setLock_keeps (hP.mono (by decide)) ?_
    | with_reducible refine State.sdgSafe_keeps (hP.mono (by decide)) ?_
    | with_reducible refine State.cwToRetrain_keeps (hP.mono (by decide)) ?_
    | with_reducible refine State.icLevel_keeps (hP.mono (by decide)) ?_
    | with_reducible refine State.slotsInvalidate_keeps (hP.mono (by decide)) ?_
    | with_reducible refine State.safeCause_keeps (hP.mono (by decide)) ?_
    | with_reducible refine ite_keeps ?_ ?_
    | with_reducible refine forRange_keeps ?_ ?_
    | intro _ _ _

theorem State.bootStart_keeps (hP : Keeps 0x8000000004 P) {s : State} (h : P s) :
    P (State.bootStart s) := by
  unfold State.bootStart
  extract_lets a0
  all_goals clear_value a0
  repeat' first
    | with_reducible assumption
    | with_reducible refine State.setFld_keeps (hP.mono (by decide)) ?_
    | with_reducible refine ite_keeps ?_ ?_
    | split
    | extract_lets
    | with_reducible refine hP.sec (by decide) _ _ ?_

theorem State.thermCfgWrite_keeps (hP : Keeps 0x4 P) {s : State} (h : P s)  {v : Word} :
    P (State.thermCfgWrite s v) := by
  unfold State.thermCfgWrite
  extract_lets a0 a1 a2
  all_goals clear_value a0 a1 a2
  repeat' first
    | with_reducible assumption
    | with_reducible refine State.pmRefuse_keeps (hP.mono (by decide)) ?_
    | with_reducible refine State.setFld_keeps (hP.mono (by decide)) ?_
    | with_reducible refine ite_keeps ?_ ?_

theorem State.secLost_keeps (hP : Keeps 0x8000000004 P) {s : State} (h : P s) :
    P (State.secLost s) := by
  unfold State.secLost
  have q1 := fun (u : State) (hu : P u) v0 w0 => hP.regs (by decide) u v0 hu w0
  have q2 := fun (u : State) (hu : P u) v0 w0 v1 => hP.sec (by decide) _ v1 (q1 u hu v0 w0)
  dsimp only at q2
  repeat' first
    | with_reducible assumption
    | exact fun hw => SMap.wf_drop _ hw _
    | refine q2 _ ?_ _ ?_ _

theorem State.fabricReset_keeps (hP : Keeps 0x16000000040c P) {s : State} (h : P s) :
    P (State.fabricReset s) := by
  unfold State.fabricReset
  have q1 := fun (u : State) (hu : P u) v0 w0 => hP.latches (by decide) u v0 hu w0
  have q2 := fun (u : State) (hu : P u) v0 w0 v1 w1 => hP.ppsStage (by decide) _ v1 (q1 u hu v0 w0) w1
  have q3 := fun (u : State) (hu : P u) v0 w0 v1 w1 v2 w2 => hP.pages (by decide) _ v2 (q2 u hu v0 w0 v1 w1) w2
  have q4 := fun (u : State) (hu : P u) v0 w0 v1 w1 v2 w2 v3 w3 => hP.snaps (by decide) _ v3 (q3 u hu v0 w0 v1 w1 v2 w2) w3
  have q5 := fun (u : State) (hu : P u) v0 w0 v1 w1 v2 w2 v3 w3 v4 => hP.spi (by decide) _ v4 (q4 u hu v0 w0 v1 w1 v2 w2 v3 w3)
  dsimp only at q5
  extract_lets a0
  refine have k0 : P a0 := ?_; ?_
  repeat' first
    | with_reducible assumption
    | with_reducible refine State.resetRegs_keeps (hP.mono (by decide)) ?_
    | exact fun _ => rfl
    | extract_lets
    | refine q5 _ ?_ _ ?_ _ ?_ _ ?_ _ ?_ _

theorem State.portsLost_keeps (hP : Keeps 0x80008018b4 P) {s : State} (h : P s)  {h : ℕ} :
    P (State.portsLost s h) := by
  unfold State.portsLost
  repeat' first
    | with_reducible assumption
    | with_reducible refine State.resetRegs_keeps (hP.mono (by decide)) ?_
    | with_reducible refine State.cwLost_keeps (hP.mono (by decide)) ?_
    | with_reducible refine State.csLost_keeps (hP.mono (by decide)) ?_
    | with_reducible refine State.icLevel_keeps (hP.mono (by decide)) ?_
    | with_reducible refine forRange_keeps ?_ ?_
    | exact fun hw => SMap.wf_drop _ hw _
    | intro _ _ _
    | intro _ _
    | extract_lets
    | with_reducible refine hP.cw (by decide) _ _ ?_ ?_

theorem State.pdLost_keeps (hP : Keeps 0x16dfffffffbc P) {s : State} (h : P s)  {d : ℕ} :
    P (State.pdLost s d) := by
  unfold State.pdLost
  extract_lets a0
  all_goals clear_value a0
  repeat' first
    | with_reducible assumption
    | with_reducible refine State.secLost_keeps (hP.mono (by decide)) ?_
    | with_reducible refine State.fabricReset_keeps (hP.mono (by decide)) ?_
    | with_reducible refine State.csLost_keeps (hP.mono (by decide)) ?_
    | with_reducible refine State.hostUnitsReset_keeps (hP.mono (by decide)) ?_
    | with_reducible refine State.cwPowerOff_keeps (hP.mono (by decide)) ?_
    | with_reducible refine State.portsLost_keeps (hP.mono (by decide)) ?_
    | with_reducible refine State.tmReset_keeps (hP.mono (by decide)) ?_
    | with_reducible refine State.sdgPowerOff_keeps (hP.mono (by decide)) ?_
    | with_reducible refine State.dpwReset_keeps (hP.mono (by decide)) ?_
    | with_reducible refine State.sluGroupReset_keeps (hP.mono (by decide)) ?_
    | with_reducible refine State.poolLost_keeps (hP.mono (by decide)) ?_
    | with_reducible refine ite_keeps ?_ ?_
    | split
    | extract_lets
    | with_reducible refine hP.sec (by decide) _ _ ?_

theorem State.setPd_keeps (hP : Keeps 0x4 P) {s : State} (h : P s)  {d : ℕ} {b : Bool} :
    P (State.setPd s d b) := by
  unfold State.setPd
  repeat' first
    | with_reducible assumption
    | with_reducible refine State.setFld_keeps (hP.mono (by decide)) ?_

theorem State.pdOff_keeps (hP : Keeps 0x16dfffffffbc P) {s : State} (h : P s)  {d : ℕ} :
    P (State.pdOff s d) := by
  unfold State.pdOff
  repeat' first
    | with_reducible assumption
    | with_reducible refine State.pdLost_keeps (hP.mono (by decide)) ?_
    | with_reducible refine State.setPd_keeps (hP.mono (by decide)) ?_
    | with_reducible refine State.setLock_keeps (hP.mono (by decide)) ?_
    | with_reducible refine ite_keeps ?_ ?_
    | with_reducible refine foldl_keeps ?_ ?_
    | intro _ _ _

theorem State.sleepOff_keeps (hP : Keeps 0x16dfffffffbc P) {s : State} (h : P s)  {ds : List ℕ} :
    P (State.sleepOff s ds) := by
  unfold State.sleepOff
  repeat' first
    | with_reducible assumption
    | with_reducible refine State.pdOff_keeps (hP.mono (by decide)) ?_
    | with_reducible refine foldl_keeps ?_ ?_
    | intro _ _ _

theorem State.sluOpenAll_keeps (hP : Keeps 0x80000004 P) {s : State} (h : P s) :
    P (State.sluOpenAll s) := by
  unfold State.sluOpenAll
  repeat' first
    | with_reducible assumption
    | with_reducible refine State.chToOpen_keeps (hP.mono (by decide)) ?_
    | with_reducible refine forRange_keeps ?_ ?_
    | intro _ _ _

theorem State.sleepBegin_keeps (hP : Keeps 0x17dfffffffbc P) {s : State} (h : P s)  {m : ℕ} :
    P (State.sleepBegin s m) := by
  unfold State.sleepBegin
  extract_lets a0 a1 a2 a3 a4
  refine have k0 : P a0 := ?_; have k2 : P a2 := ?_; have k3 : P a3 := ?_; have k4 : P a4 := ?_; ?_
  all_goals clear_value a1
  repeat' first
    | with_reducible assumption
    | with_reducible refine State.setFlag_keeps (hP.mono (by decide)) ?_
    | with_reducible refine State.cwDisableAll_keeps (hP.mono (by decide)) ?_
    | with_reducible refine State.sdgSafe_keeps (hP.mono (by decide)) ?_
    | with_reducible refine State.partDisable_keeps (hP.mono (by decide)) ?_
    | with_reducible refine State.sleepOff_keeps (hP.mono (by decide)) ?_
    | with_reducible refine State.when_keeps (hP.mono (by decide)) ?_ ?_
    | with_reducible refine State.sluOpenAll_keeps (hP.mono (by decide)) ?_
    | with_reducible refine forRange_keeps ?_ ?_
    | intro _ _ _
    | intro _ _
    | extract_lets
    | unfold a0
    | unfold a2
    | unfold a3
    | unfold a4
    | with_reducible refine hP.pm (by decide) _ _ ?_

theorem State.wakeRecord_keeps (hP : Keeps 0x4 P) {s : State} (h : P s)  {src : ℕ} :
    P (State.wakeRecord s src) := by
  unfold State.wakeRecord
  repeat' first
    | with_reducible assumption
    | with_reducible refine State.setRegBit_keeps (hP.mono (by decide)) ?_

theorem State.sleepRequest_keeps (hP : Keeps 0x17dffffffffc P) {s : State} (h : P s)  {m : ℕ} :
    P (State.sleepRequest s m) := by
  unfold State.sleepRequest
  extract_lets a0 a1
  all_goals clear_value a0 a1
  repeat' first
    | with_reducible assumption
    | with_reducible refine State.sleepBegin_keeps (hP.mono (by decide)) ?_
    | with_reducible refine State.wakeRecord_keeps (hP.mono (by decide)) ?_
    | with_reducible refine State.draw_keeps (hP.mono (by decide)) ?_
    | with_reducible refine State.setFlag_keeps (hP.mono (by decide)) ?_
    | with_reducible refine ite_keeps ?_ ?_
    | split
    | extract_lets
    | with_reducible refine hP.pm (by decide) _ _ ?_

theorem State.modeRequest_keeps (hP : Keeps 0x17dffffffffc P) {s : State} (h : P s)  {m : ℕ} :
    P (State.modeRequest s m) := by
  unfold State.modeRequest
  extract_lets a0 a1 a2 a3
  refine have k1 : P a1 := ?_; have k3 : P a3 := ?_; ?_
  all_goals clear_value a0 a2
  repeat' first
    | with_reducible assumption
    | with_reducible refine State.pmRefuse_keeps (hP.mono (by decide)) ?_
    | with_reducible refine State.pmAccept_keeps (hP.mono (by decide)) ?_
    | with_reducible refine State.sleepRequest_keeps (hP.mono (by decide)) ?_
    | with_reducible refine State.safeCause_keeps (hP.mono (by decide)) ?_
    | with_reducible refine State.raise_keeps (hP.mono (by decide)) ?_
    | with_reducible refine State.enterMode_keeps (hP.mono (by decide)) ?_
    | with_reducible refine ite_keeps ?_ ?_
    | split
    | extract_lets
    | unfold a1
    | unfold a3
    | with_reducible refine hP.pm (by decide) _ _ ?_

theorem State.setGtOn_keeps (hP : Keeps 0x10000000000 P) {s : State} (h : P s)  {g : ℕ} {b : Bool} :
    P (State.setGtOn s g b) := by
  unfold State.setGtOn
  extract_lets a0
  all_goals clear_value a0
  repeat' first
    | with_reducible assumption
    | extract_lets
    | with_reducible refine hP.pm (by decide) _ _ ?_

theorem State.gtCtrlWrite_keeps (hP : Keeps 0x10000000814 P) {s : State} (h : P s)  {g : ℕ} {v : Word} :
    P (State.gtCtrlWrite s g v) := by
  unfold State.gtCtrlWrite
  extract_lets a0 a1
  refine have k0 : P a0 := ?_; have k1 : P a1 := ?_; ?_
  repeat' first
    | with_reducible assumption
    | with_reducible refine State.setFlag_keeps (hP.mono (by decide)) ?_
    | with_reducible refine State.setGtOn_keeps (hP.mono (by decide)) ?_
    | with_reducible refine State.reportRefused_keeps (hP.mono (by decide)) ?_
    | with_reducible refine State.setFld_keeps (hP.mono (by decide)) ?_
    | with_reducible refine State.reportAccepted_keeps (hP.mono (by decide)) ?_
    | with_reducible refine ite_keeps ?_ ?_

theorem State.pmArrive_keeps (hP : Keeps 0x186dce3d9b4 P) {s : State} (h : P s)  {m : ℕ} :
    P (State.pmArrive s m) := by
  unfold State.pmArrive
  have q1 := fun (u : State) (hu : P u) v0 => hP.pm (by decide) u v0 hu
  have q2 := fun (u : State) (hu : P u) v0 v1 => hP.sec (by decide) _ v1 (q1 u hu v0)
  dsimp only at q2
  extract_lets a0 a1 a2 a3
  refine have k1 : P a1 := ?_; have k2 : P a2 := ?_; ?_
  all_goals clear_value a0 a3
  repeat' first
    | with_reducible assumption
    | with_reducible refine State.enterMode_keeps (hP.mono (by decide)) ?_
    | with_reducible refine State.setFlag_keeps (hP.mono (by decide)) ?_
    | with_reducible refine State.bootStart_keeps (hP.mono (by decide)) ?_
    | with_reducible refine State.setFld_keeps (hP.mono (by decide)) ?_
    | with_reducible refine State.safeEnter_keeps (hP.mono (by decide)) ?_
    | with_reducible refine ite_keeps ?_ ?_
    | split
    | extract_lets
    | refine q2 _ ?_ _ _

theorem State.pmNext_keeps (hP : Keeps 0x186dce3d9b4 P) {s : State} (h : P s) :
    P (State.pmNext s) := by
  unfold State.pmNext
  repeat' first
    | with_reducible assumption
    | with_reducible refine State.pmArrive_keeps (hP.mono (by decide)) ?_
    | split

theorem State.gpioWrite_keeps (hP : Keeps 0x10000000004 P) {s : State} (h : P s)  {k : ℕ} {v : Word} :
    P (State.gpioWrite s k v) := by
  unfold State.gpioWrite
  extract_lets a0 a1 a2
  refine have k1 : P a1 := ?_; ?_
  all_goals clear_value a0 a2
  repeat' first
    | with_reducible assumption
    | with_reducible refine State.setFld_keeps (hP.mono (by decide)) ?_
    | with_reducible refine ite_keeps ?_ ?_
    | split
    | extract_lets
    | unfold a1
    | with_reducible refine hP.pm (by decide) _ _ ?_

theorem State.interlock_keeps (hP : Keeps 0x6dce3d9b4 P) {s : State} (h : P s)  {fs : List Fld} :
    P (State.interlock s fs) := by
  unfold State.interlock
  repeat' first
    | with_reducible assumption
    | with_reducible refine State.safeCause_keeps (hP.mono (by decide)) ?_
    | with_reducible refine State.icPend_keeps (hP.mono (by decide)) ?_
    | with_reducible refine State.raise_keeps (hP.mono (by decide)) ?_

theorem State.clocksUp_keeps (hP : Keeps 0x4 P) {s : State} (h : P s) :
    P (State.clocksUp s) := by
  unfold State.clocksUp
  repeat' first
    | with_reducible assumption
    | with_reducible refine State.setFld_keeps (hP.mono (by decide)) ?_

theorem State.fresh_keeps (hP : Keeps 0x17ffffffff8c P) {s : State} (h : P s) :
    P (State.fresh s) := by
  unfold State.fresh
  have h0 := hP.regs (by decide) s (s.regs.filter (fun e => otpReg e.1)) h (fun hw => SMap.wf_filter _ hw _)
  have h1 := hP.latches (by decide) _ [] h0 (fun _ => rfl)
  have h2 := hP.tm (by decide) _ {} h1
  have h3 := hP.tmPorts (by decide) _ [] h2 (fun _ => rfl)
  have h4 := hP.tpos (by decide) _ [] h3 (fun _ => rfl)
  have h5 := hP.ppsStage (by decide) _ [] h4 (fun _ => rfl)
  have h6 := hP.ic (by decide) _ {} h5
  have h7 := hP.fen (by decide) _ {} h6
  have h8 := hP.segStage (by decide) _ [] h7 (fun _ => rfl)
  have h9 := hP.chains (by decide) _ [] h8 (fun _ => rfl)
  have h10 := hP.sbufs (by decide) _ [] h9 (fun _ => rfl)
  have h11 := hP.markers (by decide) _ [] h10 (fun _ => rfl)
  have h12 := hP.filters (by decide) _ [] h11 (fun _ => rfl)
  have h13 := hP.peat (by decide) _ [] h12 (fun _ => rfl)
  have h14 := hP.dmem (by decide) _ [] h13 (fun _ => rfl)
  have h15 := hP.imem (by decide) _ [] h14 (fun _ => rfl)
  have h16 := hP.cores (by decide) _ [] h15 (fun _ => rfl)
  have h17 := hP.armed (by decide) _ [] h16 (fun _ => rfl)
  have h18 := hP.cw (by decide) _ [] h17 (fun _ => rfl)
  have h19 := hP.esqTx (by decide) _ [] h18 (fun _ => rfl)
  have h20 := hP.esqRx (by decide) _ [] h19 (fun _ => rfl)
  have h21 := hP.sdg (by decide) _ {} h20
  have h22 := hP.tones (by decide) _ [] h21 (fun _ => rfl)
  have h23 := hP.lines (by decide) _ [] h22 (fun _ => rfl)
  have h24 := hP.weights (by decide) _ [] h23 (fun _ => rfl)
  have h25 := hP.fifos (by decide) _ [] h24 (fun _ => rfl)
  have h26 := hP.slu (by decide) _ [] h25 (fun _ => rfl)
  have h27 := hP.dpw (by decide) _ {} h26
  have h28 := hP.runs (by decide) _ [] h27
  have h29 := hP.sqs (by decide) _ [] h28 (fun _ => rfl)
  have h30 := hP.cqs (by decide) _ [] h29 (fun _ => rfl)
  have h31 := hP.parts (by decide) _ [] h30 (fun _ => rfl)
  have h32 := hP.fetches (by decide) _ 0 h31
  have h33 := hP.roEver (by decide) _ 0 h32
  have h34 := hP.sec (by decide) _ { hashes := s.sec.hashes, perst := s.sec.perst } h33
  have h35 := hP.pm (by decide) _ { ilkLow := s.pm.ilkLow } h34
  have h36 := hP.pages (by decide) _ [] h35 (fun _ => rfl)
  have h37 := hP.snaps (by decide) _ [] h36 (fun _ => rfl)
  have h38 := hP.spi (by decide) _ {} h37
  exact h38

theorem State.powerOn_keeps (hP : Keeps 0x17ffffffff8c P) {s : State} (h : P s)  {strap : ℕ} :
    P (State.powerOn s strap) := by
  unfold State.powerOn
  repeat' first
    | with_reducible assumption
    | with_reducible refine State.bootStart_keeps (hP.mono (by decide)) ?_
    | with_reducible refine State.clocksUp_keeps (hP.mono (by decide)) ?_
    | with_reducible refine State.setFld_keeps (hP.mono (by decide)) ?_
    | with_reducible refine State.fresh_keeps (hP.mono (by decide)) ?_

theorem State.icWake_keeps (hP : Keeps 0x814 P) {s : State} (h : P s) :
    P (State.icWake s) := by
  unfold State.icWake
  repeat' first
    | with_reducible assumption
    | with_reducible refine State.icLevel_keeps (hP.mono (by decide)) ?_

theorem State.pdUp_keeps (hP : Keeps 0x80000814 P) {s : State} (h : P s)  {d : ℕ} :
    P (State.pdUp s d) := by
  unfold State.pdUp
  extract_lets a0
  refine have k0 : P a0 := ?_; ?_
  repeat' first
    | with_reducible assumption
    | with_reducible refine State.setFld_keeps (hP.mono (by decide)) ?_
    | with_reducible refine State.setPd_keeps (hP.mono (by decide)) ?_
    | with_reducible refine State.icWake_keeps (hP.mono (by decide)) ?_
    | with_reducible refine State.sluGroupReset_keeps (hP.mono (by decide)) ?_
    | with_reducible refine State.icLevel_keeps (hP.mono (by decide)) ?_
    | with_reducible refine State.slotsReset_keeps (hP.mono (by decide)) ?_
    | with_reducible refine ite_keeps ?_ ?_

theorem State.popTodo_keeps (hP : Keeps 0x10000000000 P) {s : State} (h : P s) :
    P (State.popTodo s) := by
  unfold State.popTodo
  extract_lets a0
  all_goals clear_value a0
  repeat' first
    | with_reducible assumption
    | extract_lets
    | with_reducible refine hP.pm (by decide) _ _ ?_

theorem State.powerGood_keeps (hP : Keeps 0x186dce3d9b4 P) {s : State} (h : P s)  {d : ℕ} :
    P (State.powerGood s d) := by
  unfold State.powerGood
  repeat' first
    | with_reducible assumption
    | with_reducible refine State.pmNext_keeps (hP.mono (by decide)) ?_
    | with_reducible refine State.pdUp_keeps (hP.mono (by decide)) ?_
    | with_reducible refine State.popTodo_keeps (hP.mono (by decide)) ?_
    | with_reducible refine ite_keeps ?_ ?_

theorem State.coldEnd_keeps (hP : Keeps 0x17ffffffff8c P) {s : State} (h : P s)  {cause : ℕ} :
    P (State.coldEnd s cause) := by
  unfold State.coldEnd
  extract_lets a0 a1 a2 a3 a4 a5 a6 a7 a8
  refine have k4 : P a4 := ?_; have k5 : P a5 := ?_; have k6 : P a6 := ?_; have k7 : P a7 := ?_; ?_
  all_goals clear_value a0 a1 a2 a3 a8
  repeat' first
    | with_reducible assumption
    | with_reducible refine State.setReg_keeps (hP.mono (by decide)) ?_
    | with_reducible refine State.fresh_keeps (hP.mono (by decide)) ?_
    | with_reducible refine State.setFld_keeps (hP.mono (by decide)) ?_
    | with_reducible refine State.setFlag_keeps (hP.mono (by decide)) ?_
    | with_reducible refine State.bootStart_keeps (hP.mono (by decide)) ?_
    | with_reducible refine State.clocksUp_keeps (hP.mono (by decide)) ?_
    | with_reducible refine ite_keeps ?_ ?_
    | split
    | extract_lets
    | unfold a4
    | unfold a5
    | unfold a6
    | unfold a7
    | with_reducible refine hP.pm (by decide) _ _ ?_

theorem State.brownOut_keeps (hP : Keeps 0x17ffffffff8c P) {s : State} (h : P s) :
    P (State.brownOut s) := by
  unfold State.brownOut
  repeat' first
    | with_reducible assumption
    | with_reducible refine State.setFld_keeps (hP.mono (by decide)) ?_
    | with_reducible refine State.fresh_keeps (hP.mono (by decide)) ?_

theorem State.pmGo_keeps (hP : Keeps 0x186dce3d9b4 P) {s : State} (h : P s)  {m : ℕ} :
    P (State.pmGo s m) := by
  unfold State.pmGo
  extract_lets a0 a1
  refine have k0 : P a0 := ?_; ?_
  all_goals clear_value a1
  repeat' first
    | with_reducible assumption
    | with_reducible refine State.setFlag_keeps (hP.mono (by decide)) ?_
    | with_reducible refine State.pmNext_keeps (hP.mono (by decide)) ?_
    | extract_lets
    | unfold a0
    | with_reducible refine hP.pm (by decide) _ _ ?_

theorem State.wakeExit_keeps (hP : Keeps 0x186dce3d9b4 P) {s : State} (h : P s) :
    P (State.wakeExit s) := by
  unfold State.wakeExit
  extract_lets a0 a1 a2
  refine have k2 : P a2 := ?_; ?_
  all_goals clear_value a0 a1
  repeat' first
    | with_reducible assumption
    | with_reducible refine State.pmGo_keeps (hP.mono (by decide)) ?_
    | with_reducible refine ite_keeps ?_ ?_
    | with_reducible refine foldl_keeps ?_ ?_
    | intro _ _ _
    | intro _ _
    | split
    | extract_lets
    | unfold a2
    | with_reducible refine hP.pm (by decide) _ _ ?_

theorem State.sleepEnd_keeps (hP : Keeps 0x17dfffffffbc P) {s : State} (h : P s)  {m : ℕ} :
    P (State.sleepEnd s m) := by
  unfold State.sleepEnd
  extract_lets a0 a1 a2 a3 a4
  refine have k0 : P a0 := ?_; have k2 : P a2 := ?_; have k3 : P a3 := ?_; have k4 : P a4 := ?_; ?_
  all_goals clear_value a1
  repeat' first
    | with_reducible assumption
    | with_reducible refine State.sleepOff_keeps (hP.mono (by decide)) ?_
    | with_reducible refine State.enterMode_keeps (hP.mono (by decide)) ?_
    | with_reducible refine State.setFlag_keeps (hP.mono (by decide)) ?_
    | with_reducible refine State.when_keeps (hP.mono (by decide)) ?_ ?_
    | with_reducible refine State.sluHold_keeps (hP.mono (by decide)) ?_
    | with_reducible refine State.wakeExit_keeps (hP.mono (by decide)) ?_
    | with_reducible refine ite_keeps ?_ ?_
    | intro _ _ _
    | intro _ _
    | split
    | extract_lets
    | unfold a0
    | unfold a2
    | unfold a3
    | unfold a4
    | with_reducible refine hP.pm (by decide) _ _ ?_

theorem State.idle_keeps (hP : Keeps 0x17ffffffffbc P) {s : State} (h : P s) :
    P (State.idle s) := by
  unfold State.idle
  extract_lets a0
  refine have k0 : P a0 := ?_; ?_
  repeat' first
    | with_reducible assumption
    | with_reducible refine State.tick_keeps (hP.mono (by decide)) ?_
    | with_reducible refine State.coldEnd_keeps (hP.mono (by decide)) ?_
    | with_reducible refine State.sleepEnd_keeps (hP.mono (by decide)) ?_
    | with_reducible refine ite_keeps ?_ ?_
    | split

theorem State.pdDisableUnits_keeps (hP : Keeps 0x25cc3d8b4 P) {s : State} (h : P s)  {d : ℕ} :
    P (State.pdDisableUnits s d) := by
  unfold State.pdDisableUnits
  repeat' first
    | with_reducible assumption
    | with_reducible refine State.portDisable_keeps (hP.mono (by decide)) ?_
    | with_reducible refine State.sdgDisable_keeps (hP.mono (by decide)) ?_
    | with_reducible refine State.roDisable_keeps (hP.mono (by decide)) ?_
    | with_reducible refine State.flxDisable_keeps (hP.mono (by decide)) ?_
    | with_reducible refine State.drvDisable_keeps (hP.mono (by decide)) ?_
    | with_reducible refine ite_keeps ?_ ?_
    | with_reducible refine forRange_keeps ?_ ?_
    | intro _ _ _

theorem State.warmUnits_keeps (hP : Keeps 0x169e5fe3ffbc P) {s : State} (h : P s) :
    P (State.warmUnits s) := by
  unfold State.warmUnits
  extract_lets a0 a1 a2
  refine have k0 : P a0 := ?_; have k1 : P a1 := ?_; have k2 : P a2 := ?_; ?_
  repeat' first
    | with_reducible assumption
    | with_reducible refine State.poolReset_keeps (hP.mono (by decide)) ?_
    | with_reducible refine State.hostUnitsReset_keeps (hP.mono (by decide)) ?_
    | with_reducible refine State.fabricReset_keeps (hP.mono (by decide)) ?_
    | with_reducible refine State.cwPowerOff_keeps (hP.mono (by decide)) ?_
    | with_reducible refine State.tmReset_keeps (hP.mono (by decide)) ?_
    | with_reducible refine State.sdgReset_keeps (hP.mono (by decide)) ?_
    | with_reducible refine State.csLost_keeps (hP.mono (by decide)) ?_
    | with_reducible refine State.icWake_keeps (hP.mono (by decide)) ?_
    | with_reducible refine State.setFlag_keeps (hP.mono (by decide)) ?_
    | with_reducible refine State.setFld_keeps (hP.mono (by decide)) ?_
    | with_reducible refine ite_keeps ?_ ?_
    | with_reducible refine forRange_keeps ?_ ?_
    | intro _ _ _

theorem State.gtPeriodWrite_keeps (hP : Keeps 0x4 P) {s : State} (h : P s)  {g : ℕ} {v : Word} :
    P (State.gtPeriodWrite s g v) := by
  unfold State.gtPeriodWrite
  repeat' first
    | with_reducible assumption
    | with_reducible refine State.setReg_keeps (hP.mono (by decide)) ?_
    | with_reducible refine ite_keeps ?_ ?_

theorem State.coldBegin_keeps (hP : Keeps 0x10080000004 P) {s : State} (h : P s)  {cause : ℕ} :
    P (State.coldBegin s cause) := by
  unfold State.coldBegin
  extract_lets a0 a1
  refine have k0 : P a0 := ?_; ?_
  all_goals clear_value a1
  repeat' first
    | with_reducible assumption
    | with_reducible refine State.setFlag_keeps (hP.mono (by decide)) ?_
    | with_reducible refine State.sluOpenAll_keeps (hP.mono (by decide)) ?_
    | extract_lets
    | unfold a0
    | with_reducible refine hP.pm (by decide) _ _ ?_

theorem State.thermalSample_keeps (hP : Keeps 0x186dce3d9b4 P) {s : State} (h : P s)  {t : ℤ} :
    P (State.thermalSample s t) := by
  unfold State.thermalSample
  extract_lets a0 a1 a2 a3 a4 a5 a6 a7 a8 a9
  refine have k0 : P a0 := ?_; have k5 : P a5 := ?_; have k7 : P a7 := ?_; have k9 : P a9 := ?_; ?_
  all_goals clear_value a1 a2 a3 a4 a6 a8
  repeat' first
    | with_reducible assumption
    | with_reducible refine State.setFldS_keeps (hP.mono (by decide)) ?_
    | with_reducible refine State.bootStart_keeps (hP.mono (by decide)) ?_
    | with_reducible refine State.setFld_keeps (hP.mono (by decide)) ?_
    | with_reducible refine State.clocksUp_keeps (hP.mono (by decide)) ?_
    | with_reducible refine State.icLevel_keeps (hP.mono (by decide)) ?_
    | with_reducible refine State.fire_keeps (hP.mono (by decide)) ?_
    | with_reducible refine State.setFlag_keeps (hP.mono (by decide)) ?_
    | with_reducible refine State.safeCause_keeps (hP.mono (by decide)) ?_
    | with_reducible refine State.raise_keeps (hP.mono (by decide)) ?_
    | with_reducible refine State.coldBegin_keeps (hP.mono (by decide)) ?_
    | with_reducible refine ite_keeps ?_ ?_
    | split
    | extract_lets
    | unfold a0
    | unfold a5
    | unfold a7
    | unfold a9
    | with_reducible refine hP.pm (by decide) _ _ ?_

theorem State.ilkCause_keeps (hP : Keeps 0x6dce3d9b4 P) {s : State} (h : P s)  {k : ℕ} :
    P (State.ilkCause s k) := by
  unfold State.ilkCause
  repeat' first
    | with_reducible assumption
    | with_reducible refine State.interlock_keeps (hP.mono (by decide)) ?_
    | with_reducible refine State.setFld_keeps (hP.mono (by decide)) ?_

theorem State.ilkPin_keeps (hP : Keeps 0x106dce3d9b4 P) {s : State} (h : P s)  {k : ℕ} {low : Bool} :
    P (State.ilkPin s k low) := by
  unfold State.ilkPin
  extract_lets a0 a1 a2 a3
  refine have k2 : P a2 := ?_; have k3 : P a3 := ?_; ?_
  all_goals clear_value a0 a1
  repeat' first
    | with_reducible assumption
    | with_reducible refine State.fire_keeps (hP.mono (by decide)) ?_
    | with_reducible refine State.ilkCause_keeps (hP.mono (by decide)) ?_
    | with_reducible refine ite_keeps ?_ ?_
    | split
    | extract_lets
    | unfold a2
    | unfold a3
    | with_reducible refine hP.pm (by decide) _ _ ?_

theorem State.keepOffWrite_keeps (hP : Keeps 0x17dfffffffbc P) {s : State} (h : P s)  {v : Word} :
    P (State.keepOffWrite s v) := by
  unfold State.keepOffWrite
  dsimp only
  split
  · exact State.pmRefuse_keeps (hP.mono (by decide)) h
  · refine hP.pm (by decide) _ _ (foldl_keeps (foldl_keeps (State.pmAccept_keeps (hP.mono (by decide)) h) ?_) ?_)
    · exact fun t d ht => State.setFld_keeps (hP.mono (by decide)) (State.pdOff_keeps (hP.mono (by decide))
        (State.pdDisableUnits_keeps (hP.mono (by decide)) ht))
    · exact fun t d ht => State.setFld_keeps (hP.mono (by decide)) ht

theorem State.wakeEvent_keeps (hP : Keeps 0x186dce3d9b4 P) {s : State} (h : P s)  {src : ℕ} :
    P (State.wakeEvent s src) := by
  unfold State.wakeEvent
  extract_lets a0
  all_goals clear_value a0
  repeat' first
    | with_reducible assumption
    | with_reducible refine State.wakeRecord_keeps (hP.mono (by decide)) ?_
    | with_reducible refine State.wakeExit_keeps (hP.mono (by decide)) ?_
    | with_reducible refine ite_keeps ?_ ?_
    | split
    | extract_lets
    | with_reducible refine hP.pm (by decide) _ _ ?_

theorem State.warmReset_keeps (hP : Keeps 0x179edfe3ffbc P) {s : State} (h : P s) :
    P (State.warmReset s) := by
  unfold State.warmReset
  extract_lets a0 a1 a2 a3 a4
  refine have k1 : P a1 := ?_; have k2 : P a2 := ?_; have k4 : P a4 := ?_; ?_
  all_goals clear_value a0 a3
  repeat' first
    | with_reducible assumption
    | with_reducible refine State.setReg_keeps (hP.mono (by decide)) ?_
    | with_reducible refine State.warmUnits_keeps (hP.mono (by decide)) ?_
    | with_reducible refine State.bootStart_keeps (hP.mono (by decide)) ?_
    | with_reducible refine State.pmGo_keeps (hP.mono (by decide)) ?_
    | with_reducible refine ite_keeps ?_ ?_
    | split
    | extract_lets
    | unfold a1
    | unfold a2
    | unfold a4
    | with_reducible refine hP.pm (by decide) _ _ ?_

theorem State.ilkStatusWrite_keeps (hP : Keeps 0x4 P) {s : State} (h : P s)  {v : Word} :
    P (State.ilkStatusWrite s v) := by
  unfold State.ilkStatusWrite
  repeat' first
    | with_reducible assumption
    | with_reducible refine State.setFld_keeps (hP.mono (by decide)) ?_
    | with_reducible refine ite_keeps ?_ ?_
    | with_reducible refine forRange_keeps ?_ ?_
    | intro _ _ _

theorem State.gpioPulse_keeps (hP : Keeps 0x10000000000 P) {s : State} (h : P s)  {k : ℕ} :
    P (State.gpioPulse s k) := by
  unfold State.gpioPulse
  extract_lets a0
  all_goals clear_value a0
  repeat' first
    | with_reducible assumption
    | with_reducible refine ite_keeps ?_ ?_
    | split
    | extract_lets
    | with_reducible refine hP.pm (by decide) _ _ ?_

theorem State.ilkCfgWrite_keeps (hP : Keeps 0x6dce3d9b4 P) {s : State} (h : P s)  {v : Word} :
    P (State.ilkCfgWrite s v) := by
  unfold State.ilkCfgWrite
  extract_lets a0
  refine have k0 : P a0 := ?_; ?_
  repeat' first
    | with_reducible assumption
    | with_reducible refine State.setFld_keeps (hP.mono (by decide)) ?_
    | with_reducible refine State.ilkCause_keeps (hP.mono (by decide)) ?_
    | with_reducible refine ite_keeps ?_ ?_
    | with_reducible refine forRange_keeps ?_ ?_
    | intro _ _ _

theorem State.clockBack_keeps (hP : Keeps 0x1894 P) {s : State} (h : P s)  {d : ℕ} :
    P (State.clockBack s d) := by
  unfold State.clockBack
  extract_lets a0
  refine have k0 : P a0 := ?_; ?_
  repeat' first
    | with_reducible assumption
    | with_reducible refine State.tmRefBack_keeps (hP.mono (by decide)) ?_
    | with_reducible refine State.setLock_keeps (hP.mono (by decide)) ?_
    | with_reducible refine State.icLevel_keeps (hP.mono (by decide)) ?_
    | with_reducible refine ite_keeps ?_ ?_

theorem State.pmResetWrite_keeps (hP : Keeps 0x179edfe3ffbc P) {s : State} (h : P s)  {p : Path} {v : Word} :
    P (State.pmResetWrite s p v) := by
  unfold State.pmResetWrite
  repeat' first
    | with_reducible assumption
    | with_reducible refine State.coldBegin_keeps (hP.mono (by decide)) ?_
    | with_reducible refine State.warmReset_keeps (hP.mono (by decide)) ?_
    | with_reducible refine ite_keeps ?_ ?_

theorem State.gtExpiry_keeps (hP : Keeps 0x10100001024 P) {s : State} (h : P s)  {g : ℕ} :
    P (State.gtExpiry s g) := by
  unfold State.gtExpiry
  extract_lets a0 a1 a2
  refine have k0 : P a0 := ?_; have k1 : P a1 := ?_; have k2 : P a2 := ?_; ?_
  repeat' first
    | with_reducible assumption
    | with_reducible refine State.when_keeps (hP.mono (by decide)) ?_ ?_
    | with_reducible refine State.setFlag_keeps (hP.mono (by decide)) ?_
    | with_reducible refine State.setGtOn_keeps (hP.mono (by decide)) ?_
    | with_reducible refine State.fire_keeps (hP.mono (by decide)) ?_
    | with_reducible refine State.strobe_keeps (hP.mono (by decide)) ?_
    | with_reducible refine State.scanTrigger_keeps (hP.mono (by decide)) ?_
    | with_reducible refine ite_keeps ?_ ?_
    | with_reducible refine forRange_keeps ?_ ?_
    | intro _ _ _
    | intro _ _

theorem State.powerBad_keeps (hP : Keeps 0x186dce3d9b4 P) {s : State} (h : P s)  {d : ℕ} :
    P (State.powerBad s d) := by
  unfold State.powerBad
  extract_lets a0 a1
  refine have k0 : P a0 := ?_; have k1 : P a1 := ?_; ?_
  repeat' first
    | with_reducible assumption
    | with_reducible refine State.setFld_keeps (hP.mono (by decide)) ?_
    | with_reducible refine State.raise_keeps (hP.mono (by decide)) ?_
    | with_reducible refine State.popTodo_keeps (hP.mono (by decide)) ?_
    | with_reducible refine State.when_keeps (hP.mono (by decide)) ?_ ?_
    | with_reducible refine State.pmNext_keeps (hP.mono (by decide)) ?_
    | with_reducible refine ite_keeps ?_ ?_
    | intro _ _ _
    | intro _ _

theorem State.causeWrite_keeps (hP : Keeps 0x4 P) {s : State} (h : P s)  {v : Word} :
    P (State.causeWrite s v) := by
  unfold State.causeWrite
  repeat' first
    | with_reducible assumption
    | with_reducible refine State.setRegBit_keeps (hP.mono (by decide)) ?_
    | with_reducible refine ite_keeps ?_ ?_
    | with_reducible refine forRange_keeps ?_ ?_
    | intro _ _ _

end Sys2Proof.Machine
end

