-- ==== Sys2Proof/Laws/KeepsBoot.lean ====
section
/-!
SUPPORT. What the operations of Machine/Boot.lean may change.
-/
namespace Sys2Proof.Machine

variable {P : State → Prop}

theorem State.setStage_keeps (hP : Keeps 0x4 P) {s : State} (h : P s)  {v : ℕ} :
    P (State.setStage s v) := by
  unfold State.setStage
  repeat' first
    | with_reducible assumption
    | with_reducible refine State.setFld_keeps (hP.mono (by decide)) ?_

theorem State.push_keeps (hP : Keeps 0x4 P) {s : State} (h : P s) :
    P (State.push s) := by
  unfold State.push
  repeat' first
    | with_reducible assumption
    | with_reducible refine State.when_keeps (hP.mono (by decide)) ?_ ?_
    | with_reducible refine State.setStage_keeps (hP.mono (by decide)) ?_
    | intro _ _ _
    | intro _ _

theorem State.secRefuse_keeps (hP : Keeps 0x4 P) {s : State} (h : P s)  {r : ℕ} :
    P (State.secRefuse s r) := by
  unfold State.secRefuse
  repeat' first
    | with_reducible assumption
    | with_reducible refine State.showRefusal_keeps (hP.mono (by decide)) ?_
    | with_reducible refine State.setFld_keeps (hP.mono (by decide)) ?_
    | with_reducible refine State.setFlag_keeps (hP.mono (by decide)) ?_

theorem State.secAccept_keeps (hP : Keeps 0x4 P) {s : State} (h : P s) :
    P (State.secAccept s) := by
  unfold State.secAccept
  repeat' first
    | with_reducible assumption
    | with_reducible refine State.setFld_keeps (hP.mono (by decide)) ?_
    | with_reducible refine State.setFlag_keeps (hP.mono (by decide)) ?_

theorem State.reboot_keeps (hP : Keeps 0x19e5ce3d9b4 P) {s : State} (h : P s) :
    P (State.reboot s) := by
  unfold State.reboot
  have q1 := fun (u : State) (hu : P u) v0 => hP.sec (by decide) u v0 hu
  have q2 := fun (u : State) (hu : P u) v0 v1 => hP.pm (by decide) _ v1 (q1 u hu v0)
  dsimp only at q2
  extract_lets a0 a1 a2 a3 a4
  refine have k0 : P a0 := ?_; have k1 : P a1 := ?_; have k4 : P a4 := ?_; ?_
  all_goals clear_value a2 a3
  repeat' first
    | with_reducible assumption
    | with_reducible refine State.secRefuse_keeps (hP.mono (by decide)) ?_
    | with_reducible refine State.sdgReset_keeps (hP.mono (by decide)) ?_
    | with_reducible refine State.cwDisableAll_keeps (hP.mono (by decide)) ?_
    | with_reducible refine State.cwReset_keeps (hP.mono (by decide)) ?_
    | with_reducible refine State.bwReset_keeps (hP.mono (by decide)) ?_
    | with_reducible refine State.secAccept_keeps (hP.mono (by decide)) ?_
    | with_reducible refine State.setFlag_keeps (hP.mono (by decide)) ?_
    | with_reducible refine State.csLost_keeps (hP.mono (by decide)) ?_
    | with_reducible refine State.bootStart_keeps (hP.mono (by decide)) ?_
    | with_reducible refine State.enterMode_keeps (hP.mono (by decide)) ?_
    | with_reducible refine ite_keeps ?_ ?_
    | with_reducible refine forRange_keeps ?_ ?_
    | intro _ _ _
    | intro _ _
    | split
    | extract_lets
    | refine q2 _ ?_ _ _

theorem State.secCtrlWrite_keeps (hP : Keeps 0x19e5ce3d9b4 P) {s : State} (h : P s)  {v : Word} :
    P (State.secCtrlWrite s v) := by
  unfold State.secCtrlWrite
  extract_lets a0 a1
  refine have k0 : P a0 := ?_; have k1 : P a1 := ?_; ?_
  repeat' first
    | with_reducible assumption
    | with_reducible refine State.setFlag_keeps (hP.mono (by decide)) ?_
    | with_reducible refine State.when_keeps (hP.mono (by decide)) ?_ ?_
    | with_reducible refine State.push_keeps (hP.mono (by decide)) ?_
    | with_reducible refine State.reboot_keeps (hP.mono (by decide)) ?_
    | intro _ _ _
    | intro _ _

theorem State.otpIgnored_keeps (hP : Keeps 0x4 P) {s : State} (h : P s) :
    P (State.otpIgnored s) := by
  unfold State.otpIgnored
  repeat' first
    | with_reducible assumption
    | with_reducible refine State.setFlag_keeps (hP.mono (by decide)) ?_

theorem State.provision_keeps (hP : Keeps 0x8000000004 P) {s : State} (h : P s)  {x : List Byte} :
    P (State.provision s x) := by
  unfold State.provision
  extract_lets a0 a1 a2 a3 a4 a5
  refine have k5 : P a5 := ?_; ?_
  all_goals clear_value a0 a1 a2 a3 a4
  repeat' first
    | with_reducible assumption
    | with_reducible refine State.otpIgnored_keeps (hP.mono (by decide)) ?_
    | with_reducible refine State.setFld_keeps (hP.mono (by decide)) ?_
    | with_reducible refine ite_keeps ?_ ?_
    | with_reducible refine foldl_keeps ?_ ?_
    | with_reducible refine forRange_keeps ?_ ?_
    | intro _ _ _
    | intro _ _
    | split
    | extract_lets
    | unfold a5
    | with_reducible refine hP.sec (by decide) _ _ ?_

theorem State.arbRaise_keeps (hP : Keeps 0x4 P) {s : State} (h : P s)  {k : ℕ} {v : ℕ} :
    P (State.arbRaise s k v) := by
  unfold State.arbRaise
  repeat' first
    | with_reducible assumption
    | with_reducible refine State.setFld_keeps (hP.mono (by decide)) ?_

theorem State.otpChanges_keeps (hP : Keeps 0x8000000004 P) {s : State} (h : P s) :
    P (State.otpChanges s) := by
  unfold State.otpChanges
  extract_lets a0
  refine have k0 : P a0 := ?_; ?_
  repeat' first
    | with_reducible assumption
    | with_reducible refine State.provision_keeps (hP.mono (by decide)) ?_
    | with_reducible refine State.arbRaise_keeps (hP.mono (by decide)) ?_
    | split
    | extract_lets
    | unfold a0

theorem State.csStop_keeps (hP : Keeps 0x65ce1d8b4 P) {s : State} (h : P s)  {u : ℕ} :
    P (State.csStop s u) := by
  unfold State.csStop
  repeat' first
    | with_reducible assumption
    | with_reducible refine State.runEnd_keeps (hP.mono (by decide)) ?_
    | with_reducible refine State.portStop_keeps (hP.mono (by decide)) ?_
    | with_reducible refine State.icLevel_keeps (hP.mono (by decide)) ?_
    | with_reducible refine State.sdgEnd_keeps (hP.mono (by decide)) ?_
    | with_reducible refine ite_keeps ?_ ?_
    | with_reducible refine foldl_keeps ?_ ?_
    | intro _ _ _

theorem State.reloadReset_keeps (hP : Keeps 0x1f5ce1d8b4 P) {s : State} (h : P s)  {u : ℕ} :
    P (State.reloadReset s u) := by
  unfold State.reloadReset
  repeat' first
    | with_reducible assumption
    | with_reducible refine State.bwReset_keeps (hP.mono (by decide)) ?_
    | with_reducible refine State.cwReset_keeps (hP.mono (by decide)) ?_
    | with_reducible refine State.sdgReset_keeps (hP.mono (by decide)) ?_
    | with_reducible refine State.dpwHalt_keeps (hP.mono (by decide)) ?_
    | with_reducible refine ite_keeps ?_ ?_

theorem State.reload_keeps (hP : Keeps 0x1f5ce1d8b4 P) {s : State} (h : P s)  {u : ℕ} :
    P (State.reload s u) := by
  unfold State.reload
  extract_lets a0
  refine have k0 : P a0 := ?_; ?_
  repeat' first
    | with_reducible assumption
    | with_reducible refine State.secRefuse_keeps (hP.mono (by decide)) ?_
    | with_reducible refine State.reloadReset_keeps (hP.mono (by decide)) ?_
    | with_reducible refine State.secAccept_keeps (hP.mono (by decide)) ?_
    | with_reducible refine State.setFlag_keeps (hP.mono (by decide)) ?_
    | with_reducible refine ite_keeps ?_ ?_
    | with_reducible refine foldl_keeps ?_ ?_
    | intro _ _ _

theorem State.csDbe_keeps (hP : Keeps 0x1f5ce1d8b4 P) {s : State} (h : P s)  {u : ℕ} :
    P (State.csDbe s u) := by
  unfold State.csDbe
  extract_lets a0 a1 a2
  refine have k0 : P a0 := ?_; have k1 : P a1 := ?_; have k2 : P a2 := ?_; ?_
  repeat' first
    | with_reducible assumption
    | with_reducible refine State.setFlag_keeps (hP.mono (by decide)) ?_
    | with_reducible refine State.icPend_keeps (hP.mono (by decide)) ?_
    | with_reducible refine State.raise_keeps (hP.mono (by decide)) ?_
    | with_reducible refine State.incSat_keeps (hP.mono (by decide)) ?_
    | with_reducible refine State.csStop_keeps (hP.mono (by decide)) ?_
    | with_reducible refine State.when_keeps (hP.mono (by decide)) ?_ ?_
    | with_reducible refine State.reload_keeps (hP.mono (by decide)) ?_
    | with_reducible refine ite_keeps ?_ ?_
    | intro _ _ _
    | intro _ _

theorem State.showPatch_keeps (hP : Keeps 0x4 P) {s : State} (h : P s)  {svn : Fld} {id : Fld} {x : Option Section} :
    P (State.showPatch s svn id x) := by
  unfold State.showPatch
  repeat' first
    | with_reducible assumption
    | with_reducible refine State.setFld_keeps (hP.mono (by decide)) ?_
    | split

theorem State.patchError_keeps (hP : Keeps 0x8000000024 P) {s : State} (h : P s)  {pm : Bool} :
    P (State.patchError s pm) := by
  unfold State.patchError
  extract_lets a0 a1
  refine have k0 : P a0 := ?_; ?_
  all_goals clear_value a1
  repeat' first
    | with_reducible assumption
    | with_reducible refine State.raise_keeps (hP.mono (by decide)) ?_
    | with_reducible refine State.showPatch_keeps (hP.mono (by decide)) ?_
    | with_reducible refine ite_keeps ?_ ?_
    | split
    | extract_lets
    | unfold a0
    | with_reducible refine hP.sec (by decide) _ _ ?_

theorem State.imageRejected_keeps (hP : Keeps 0x8000000024 P) {s : State} (h : P s)  {reason : ℕ} :
    P (State.imageRejected s reason) := by
  unfold State.imageRejected
  extract_lets a0 a1
  refine have k0 : P a0 := ?_; have k1 : ∀ u, P u → P (a1 u) := ?_; ?_
  repeat' first
    | with_reducible assumption
    | with_reducible refine k1 _ ?_
    | with_reducible refine State.raise_keeps (hP.mono (by decide)) ?_
    | with_reducible refine State.setFld_keeps (hP.mono (by decide)) ?_
    | with_reducible refine State.setStage_keeps (hP.mono (by decide)) ?_
    | with_reducible refine ite_keeps ?_ ?_
    | intro _ _
    | split
    | extract_lets
    | unfold a0
    | unfold a1
    | with_reducible refine hP.sec (by decide) _ _ ?_

theorem State.loadPatches_keeps (hP : Keeps 0x8000000004 P) {s : State} (h : P s)  {plain : List Byte} :
    P (State.loadPatches s plain) := by
  unfold State.loadPatches
  extract_lets a0 a1 a2 a3
  refine have k2 : P a2 := ?_; have k3 : P a3 := ?_; ?_
  all_goals clear_value a0 a1
  repeat' first
    | with_reducible assumption
    | with_reducible refine State.showPatch_keeps (hP.mono (by decide)) ?_
    | split
    | extract_lets
    | unfold a2
    | unfold a3
    | with_reducible refine hP.sec (by decide) _ _ ?_

theorem State.csSbe_keeps (hP : Keeps 0x834 P) {s : State} (h : P s)  {u : ℕ} :
    P (State.csSbe s u) := by
  unfold State.csSbe
  repeat' first
    | with_reducible assumption
    | with_reducible refine State.when_keeps (hP.mono (by decide)) ?_ ?_
    | with_reducible refine State.icPend_keeps (hP.mono (by decide)) ?_
    | with_reducible refine State.raise_keeps (hP.mono (by decide)) ?_
    | with_reducible refine State.incSat_keeps (hP.mono (by decide)) ?_
    | intro _ _ _
    | intro _ _

theorem State.scrub_keeps (hP : Keeps 0x9f5ce1d8b4 P) {s : State} (h : P s)  {es : List CsError} :
    P (State.scrub s es) := by
  unfold State.scrub
  extract_lets a0 a1 a2
  refine have k1 : P a1 := ?_; ?_
  all_goals clear_value a0 a2
  repeat' first
    | with_reducible assumption
    | with_reducible refine State.csDbe_keeps (hP.mono (by decide)) ?_
    | with_reducible refine State.when_keeps (hP.mono (by decide)) ?_ ?_
    | with_reducible refine State.setFlag_keeps (hP.mono (by decide)) ?_
    | with_reducible refine State.csSbe_keeps (hP.mono (by decide)) ?_
    | with_reducible refine ite_keeps ?_ ?_
    | with_reducible refine foldl_keeps ?_ ?_
    | intro _ _ _
    | intro _ _
    | split
    | extract_lets
    | unfold a1
    | with_reducible refine hP.sec (by decide) _ _ ?_

theorem State.takePcieId_keeps (hP : Keeps 0x8000000000 P) {s : State} (h : P s)  {plain : List Byte} :
    P (State.takePcieId s plain) := by
  unfold State.takePcieId
  extract_lets a0
  all_goals clear_value a0
  repeat' first
    | with_reducible assumption
    | with_reducible refine ite_keeps ?_ ?_
    | split
    | extract_lets
    | with_reducible refine hP.sec (by decide) _ _ ?_

theorem State.imageAccepted_keeps (hP : Keeps 0x186dce3d9b4 P) {s : State} (h : P s)  {i : BootImage} :
    P (State.imageAccepted s i) := by
  unfold State.imageAccepted
  extract_lets a0 a1 a2 a3 a4 a5
  refine have k3 : P a3 := ?_; have k4 : P a4 := ?_; have k5 : P a5 := ?_; ?_
  all_goals clear_value a0 a1 a2
  repeat' first
    | with_reducible assumption
    | with_reducible refine State.takePcieId_keeps (hP.mono (by decide)) ?_
    | with_reducible refine State.loadPatches_keeps (hP.mono (by decide)) ?_
    | with_reducible refine State.setFld_keeps (hP.mono (by decide)) ?_
    | with_reducible refine State.pmGo_keeps (hP.mono (by decide)) ?_
    | with_reducible refine State.setStage_keeps (hP.mono (by decide)) ?_
    | with_reducible refine ite_keeps ?_ ?_
    | split
    | extract_lets
    | unfold a3
    | unfold a4
    | unfold a5
    | with_reducible refine hP.sec (by decide) _ _ ?_

theorem State.imageCheck_keeps (hP : Keeps 0x186dce3d9b4 P) {s : State} (h : P s)  {i : BootImage} :
    P (State.imageCheck s i) := by
  unfold State.imageCheck
  repeat' first
    | with_reducible assumption
    | with_reducible refine State.imageRejected_keeps (hP.mono (by decide)) ?_
    | with_reducible refine State.imageAccepted_keeps (hP.mono (by decide)) ?_
    | with_reducible refine ite_keeps ?_ ?_
    | split

theorem State.csLoad_keeps (hP : Keeps 0x8000000004 P) {s : State} (h : P s)  {u : ℕ} :
    P (State.csLoad s u) := by
  unfold State.csLoad
  extract_lets a0
  refine have k0 : P a0 := ?_; ?_
  repeat' first
    | with_reducible assumption
    | with_reducible refine State.setFlag_keeps (hP.mono (by decide)) ?_
    | with_reducible refine State.setRegN_keeps (hP.mono (by decide)) ?_
    | with_reducible refine State.setReg_keeps (hP.mono (by decide)) ?_
    | with_reducible refine ite_keeps ?_ ?_
    | split
    | extract_lets
    | unfold a0
    | with_reducible refine hP.sec (by decide) _ _ ?_

theorem State.reloadDone_keeps (hP : Keeps 0x80008018b4 P) {s : State} (h : P s)  {u : ℕ} :
    P (State.reloadDone s u) := by
  unfold State.reloadDone
  extract_lets a0
  refine have k0 : P a0 := ?_; ?_
  repeat' first
    | with_reducible assumption
    | with_reducible refine State.csLoad_keeps (hP.mono (by decide)) ?_
    | with_reducible refine State.portDisable_keeps (hP.mono (by decide)) ?_
    | with_reducible refine State.setFlag_keeps (hP.mono (by decide)) ?_
    | with_reducible refine ite_keeps ?_ ?_

theorem State.loadComplete_keeps (hP : Keeps 0x186dce3d9b4 P) {s : State} (h : P s) :
    P (State.loadComplete s) := by
  unfold State.loadComplete
  extract_lets a0
  refine have k0 : P a0 := ?_; ?_
  repeat' first
    | with_reducible assumption
    | with_reducible refine State.csLoad_keeps (hP.mono (by decide)) ?_
    | with_reducible refine State.pmGo_keeps (hP.mono (by decide)) ?_
    | with_reducible refine State.setStage_keeps (hP.mono (by decide)) ?_
    | with_reducible refine State.otpChanges_keeps (hP.mono (by decide)) ?_
    | with_reducible refine ite_keeps ?_ ?_
    | with_reducible refine forRange_keeps ?_ ?_
    | intro _ _ _

end Sys2Proof.Machine
end

