-- ==== Sys2Proof/Laws/KeepsFen.lean ====
section
/-!
SUPPORT. What the operations of Machine/Fen.lean may change.
-/
namespace Sys2Proof.Machine

variable {P : State → Prop}

theorem State.coincide_keeps (hP : Keeps 0x4 P) {s : State} (h : P s)  {t : ℕ} :
    P (State.coincide s t) := by
  unfold State.coincide
  repeat' first
    | with_reducible assumption
    | with_reducible refine State.incSat_keeps (hP.mono (by decide)) ?_
    | split

theorem State.activate_keeps (hP : Keeps 0x1044 P) {s : State} (h : P s)  {i : ℕ} {same : Bool} :
    P (State.activate s i same) := by
  unfold State.activate
  extract_lets a0 a1 a2 a3
  refine have k2 : P a2 := ?_; ?_
  all_goals clear_value a0 a1 a3
  repeat' first
    | with_reducible assumption
    | with_reducible refine State.incSat_keeps (hP.mono (by decide)) ?_
    | with_reducible refine State.coincide_keeps (hP.mono (by decide)) ?_
    | with_reducible refine State.draw_keeps (hP.mono (by decide)) ?_
    | with_reducible refine State.setFlag_keeps (hP.mono (by decide)) ?_
    | with_reducible refine ite_keeps ?_ ?_
    | split
    | extract_lets
    | unfold a2
    | with_reducible refine hP.fen (by decide) _ _ ?_

theorem State.activateAll_keeps (hP : Keeps 0x1044 P) {s : State} (h : P s)  {c : ℕ} :
    P (State.activateAll s c) := by
  unfold State.activateAll
  exact foldl_fst_keeps h fun acc x ha => State.activate_keeps (hP.mono (by decide)) ha

theorem State.accept_keeps (hP : Keeps 0x1044 P) {s : State} (h : P s)  {c : ℕ} :
    P (State.accept s c) := by
  unfold State.accept
  extract_lets a0 a1 a2 a3
  refine have k0 : P a0 := ?_; have k1 : P a1 := ?_; have k2 : P a2 := ?_; ?_
  all_goals clear_value a3
  repeat' first
    | with_reducible assumption
    | with_reducible refine State.setRegBit_keeps (hP.mono (by decide)) ?_
    | with_reducible refine State.incWrap_keeps (hP.mono (by decide)) ?_
    | with_reducible refine State.activateAll_keeps (hP.mono (by decide)) ?_
    | with_reducible refine ite_keeps ?_ ?_
    | with_reducible refine forRange_keeps ?_ ?_
    | intro _ _ _
    | intro _ _
    | split
    | extract_lets
    | unfold a0
    | unfold a1
    | unfold a2
    | with_reducible refine hP.fen (by decide) _ _ ?_

theorem State.chEvent_keeps (hP : Keeps 0x1044 P) {s : State} (h : P s)  {c : ℕ} :
    P (State.chEvent s c) := by
  unfold State.chEvent
  extract_lets a0
  all_goals clear_value a0
  repeat' first
    | with_reducible assumption
    | with_reducible refine State.accept_keeps (hP.mono (by decide)) ?_
    | with_reducible refine State.setRegBit_keeps (hP.mono (by decide)) ?_
    | with_reducible refine ite_keeps ?_ ?_
    | split
    | extract_lets
    | with_reducible refine hP.fen (by decide) _ _ ?_

theorem State.sourceEvent_keeps (hP : Keeps 0x1044 P) {s : State} (h : P s)  {x : ℕ} :
    P (State.sourceEvent s x) := by
  unfold State.sourceEvent
  extract_lets a0 a1
  refine have k1 : P a1 := ?_; ?_
  all_goals clear_value a0
  repeat' first
    | with_reducible assumption
    | with_reducible refine State.chEvent_keeps (hP.mono (by decide)) ?_
    | with_reducible refine ite_keeps ?_ ?_
    | with_reducible refine forRange_keeps ?_ ?_
    | intro _ _ _
    | intro _ _
    | split
    | extract_lets
    | unfold a1
    | with_reducible refine hP.fen (by decide) _ _ ?_

theorem State.fenSecLog_keeps (hP : Keeps 0x814 P) {s : State} (h : P s)  {p : Path} {off : ℕ} :
    P (State.fenSecLog s p off) := by
  unfold State.fenSecLog
  extract_lets a0 a1 a2 a3
  refine have k0 : P a0 := ?_; have k1 : P a1 := ?_; have k2 : P a2 := ?_; have k3 : P a3 := ?_; ?_
  repeat' first
    | with_reducible assumption
    | with_reducible refine State.incSat_keeps (hP.mono (by decide)) ?_
    | with_reducible refine State.setFld_keeps (hP.mono (by decide)) ?_
    | with_reducible refine State.setFlag_keeps (hP.mono (by decide)) ?_
    | with_reducible refine State.icPend_keeps (hP.mono (by decide)) ?_

theorem State.fenFlagsWrite_keeps (hP : Keeps 0x814 P) {s : State} (h : P s)  {p : Path} {off : ℕ} {w : ℕ} {v : Word} :
    P (State.fenFlagsWrite s p off w v) := by
  unfold State.fenFlagsWrite
  extract_lets a0 a1
  refine have k1 : P a1 := ?_; ?_
  all_goals clear_value a0
  repeat' first
    | with_reducible assumption
    | with_reducible refine State.setRegBit_keeps (hP.mono (by decide)) ?_
    | with_reducible refine State.fenSecLog_keeps (hP.mono (by decide)) ?_
    | with_reducible refine ite_keeps ?_ ?_
    | with_reducible refine forRange_keeps ?_ ?_
    | intro _ _ _

theorem State.chOff_keeps (hP : Keeps 0x1000 P) {s : State} (h : P s)  {c : ℕ} :
    P (State.chOff s c) := by
  unfold State.chOff
  extract_lets a0
  all_goals clear_value a0
  repeat' first
    | with_reducible assumption
    | extract_lets
    | with_reducible refine hP.fen (by decide) _ _ ?_

theorem State.loopCfgWrite_keeps (hP : Keeps 0x4 P) {s : State} (h : P s)  {v : Word} :
    P (State.loopCfgWrite s v) := by
  unfold State.loopCfgWrite
  repeat' first
    | with_reducible assumption
    | with_reducible refine State.setFld_keeps (hP.mono (by decide)) ?_
    | with_reducible refine ite_keeps ?_ ?_

theorem State.fenOutcome_keeps (hP : Keeps 0x814 P) {s : State} (h : P s)  {fails : List Failure} {item : ℕ} {on : State → State} {off : State → State} (hon : ∀ y0, P y0 → P (on y0)) (hoff : ∀ y0, P y0 → P (off y0)) :
    P (State.fenOutcome s fails item on off) := by
  unfold State.fenOutcome
  extract_lets a0 a1 a2 a3
  refine have k0 : P a0 := ?_; have k1 : P a1 := ?_; have k2 : P a2 := ?_; have k3 : P a3 := ?_; ?_
  repeat' first
    | with_reducible assumption
    | with_reducible refine hon _ ?_
    | with_reducible refine hoff _ ?_
    | with_reducible refine State.setFlag_keeps (hP.mono (by decide)) ?_
    | with_reducible refine State.setFld_keeps (hP.mono (by decide)) ?_
    | with_reducible refine State.reportRefused_keeps (hP.mono (by decide)) ?_
    | with_reducible refine State.reportAccepted_keeps (hP.mono (by decide)) ?_
    | split

theorem State.tiEnable_keeps (hP : Keeps 0x1814 P) {s : State} (h : P s)  {i : ℕ} :
    P (State.tiEnable s i) := by
  unfold State.tiEnable
  exact State.fenOutcome_keeps (hP.mono (by decide)) h (fun y hy => hP.fen (by decide) y _ hy) (fun _ hy => hy)

theorem State.tiWrite_keeps (hP : Keeps 0x1814 P) {s : State} (h : P s)  {p : Path} {i : ℕ} {v : Word} :
    P (State.tiWrite s p i v) := by
  unfold State.tiWrite
  extract_lets a0 a1 a2 a3 a4
  refine have k3 : P a3 := ?_; ?_
  all_goals clear_value a0 a1 a2 a4
  repeat' first
    | with_reducible assumption
    | with_reducible refine State.setReg_keeps (hP.mono (by decide)) ?_
    | with_reducible refine State.tiEnable_keeps (hP.mono (by decide)) ?_
    | with_reducible refine State.fenSecLog_keeps (hP.mono (by decide)) ?_
    | with_reducible refine ite_keeps ?_ ?_
    | split
    | extract_lets
    | unfold a3
    | with_reducible refine hP.fen (by decide) _ _ ?_

theorem State.tiCountWrite_keeps (hP : Keeps 0x814 P) {s : State} (h : P s)  {p : Path} {i : ℕ} {v : Word} :
    P (State.tiCountWrite s p i v) := by
  unfold State.tiCountWrite
  repeat' first
    | with_reducible assumption
    | with_reducible refine State.setFlag_keeps (hP.mono (by decide)) ?_
    | with_reducible refine State.fenSecLog_keeps (hP.mono (by decide)) ?_
    | with_reducible refine ite_keeps ?_ ?_

theorem State.cntWrite_keeps (hP : Keeps 0x814 P) {s : State} (h : P s)  {p : Path} {j : ℕ} {v : Word} :
    P (State.cntWrite s p j v) := by
  unfold State.cntWrite
  extract_lets a0
  refine have k0 : P a0 := ?_; ?_
  repeat' first
    | with_reducible assumption
    | with_reducible refine State.setReg_keeps (hP.mono (by decide)) ?_
    | with_reducible refine State.fenSecLog_keeps (hP.mono (by decide)) ?_
    | with_reducible refine ite_keeps ?_ ?_

theorem State.swevWrite_keeps (hP : Keeps 0x1000 P) {s : State} (h : P s)  {v : Word} :
    P (State.swevWrite s v) := by
  unfold State.swevWrite
  repeat' first
    | with_reducible assumption
    | with_reducible refine State.fire_keeps (hP.mono (by decide)) ?_
    | with_reducible refine ite_keeps ?_ ?_
    | with_reducible refine forRange_keeps ?_ ?_
    | intro _ _ _

theorem State.chEnable_keeps (hP : Keeps 0x1814 P) {s : State} (h : P s)  {c : ℕ} :
    P (State.chEnable s c) := by
  unfold State.chEnable
  exact State.fenOutcome_keeps (hP.mono (by decide)) h (fun y hy => hP.fen (by decide) y _ hy) (fun _ hy => hy)

theorem State.chWrite_keeps (hP : Keeps 0x1814 P) {s : State} (h : P s)  {p : Path} {c : ℕ} {v : Word} :
    P (State.chWrite s p c v) := by
  unfold State.chWrite
  extract_lets a0 a1 a2 a3
  refine have k3 : P a3 := ?_; ?_
  all_goals clear_value a0 a1 a2
  repeat' first
    | with_reducible assumption
    | with_reducible refine State.setReg_keeps (hP.mono (by decide)) ?_
    | with_reducible refine State.chEnable_keeps (hP.mono (by decide)) ?_
    | with_reducible refine State.chOff_keeps (hP.mono (by decide)) ?_
    | with_reducible refine State.fenSecLog_keeps (hP.mono (by decide)) ?_
    | with_reducible refine ite_keeps ?_ ?_

theorem State.loopInterval_keeps (hP : Keeps 0x1834 P) {s : State} (h : P s)  {c : ℕ} :
    P (State.loopInterval s c) := by
  unfold State.loopInterval
  extract_lets a0 a1 a2 a3 a4
  refine have k2 : P a2 := ?_; have k3 : P a3 := ?_; have k4 : P a4 := ?_; ?_
  all_goals clear_value a0 a1
  repeat' first
    | with_reducible assumption
    | with_reducible refine State.setFlag_keeps (hP.mono (by decide)) ?_
    | with_reducible refine State.chOff_keeps (hP.mono (by decide)) ?_
    | with_reducible refine State.setRegBit_keeps (hP.mono (by decide)) ?_
    | with_reducible refine State.icPend_keeps (hP.mono (by decide)) ?_
    | with_reducible refine State.raise_keeps (hP.mono (by decide)) ?_
    | with_reducible refine ite_keeps ?_ ?_
    | split
    | extract_lets
    | unfold a2
    | unfold a3
    | unfold a4
    | with_reducible refine hP.fen (by decide) _ _ ?_

theorem State.rearmEnd_keeps (hP : Keeps 0x1044 P) {s : State} (h : P s)  {c : ℕ} :
    P (State.rearmEnd s c) := by
  unfold State.rearmEnd
  extract_lets a0 a1 a2
  refine have k2 : P a2 := ?_; ?_
  all_goals clear_value a0 a1
  repeat' first
    | with_reducible assumption
    | with_reducible refine State.accept_keeps (hP.mono (by decide)) ?_
    | with_reducible refine ite_keeps ?_ ?_
    | split
    | extract_lets
    | unfold a2
    | with_reducible refine hP.fen (by decide) _ _ ?_

end Sys2Proof.Machine
end

