-- ==== Sys2Proof/Laws/KeepsReedControl.lean ====
section
/-!
SUPPORT. What the operations of Machine/ReedControl.lean may change.
-/
namespace Sys2Proof.Machine

variable {P : State → Prop}

theorem State.cCallr_keeps (hP : Keeps 0x200280834 P) {s : State} (h : P s)  {c : ℕ} {k : Cond} :
    P (State.cCallr s c k) := by
  unfold State.cCallr
  repeat' first
    | with_reducible assumption
    | with_reducible refine State.control_keeps (hP.mono (by decide)) ?_ ?_
    | intro _ _ _
    | intro _ _

theorem State.cHalt_keeps (hP : Keeps 0x200280834 P) {s : State} (h : P s)  {c : ℕ} :
    P (State.cHalt s c) := by
  unfold State.cHalt
  repeat' first
    | with_reducible assumption
    | with_reducible refine State.control_keeps (hP.mono (by decide)) ?_ ?_
    | intro _ _ _
    | intro _ _

theorem State.cSwi_keeps (hP : Keeps 0x200280834 P) {s : State} (h : P s)  {c : ℕ} :
    P (State.cSwi s c) := by
  unfold State.cSwi
  repeat' first
    | with_reducible assumption
    | with_reducible refine State.control_keeps (hP.mono (by decide)) ?_ ?_
    | with_reducible refine State.corePend_keeps (hP.mono (by decide)) ?_
    | intro _ _ _
    | intro _ _

theorem State.cCall_keeps (hP : Keeps 0x200280834 P) {s : State} (h : P s)  {c : ℕ} {k : Cond} {tgt : ℕ} :
    P (State.cCall s c k tgt) := by
  unfold State.cCall
  repeat' first
    | with_reducible assumption
    | with_reducible refine State.control_keeps (hP.mono (by decide)) ?_ ?_
    | intro _ _ _
    | intro _ _

theorem State.cRet_keeps (hP : Keeps 0x200280834 P) {s : State} (h : P s)  {c : ℕ} {k : Cond} :
    P (State.cRet s c k) := by
  unfold State.cRet
  repeat' first
    | with_reducible assumption
    | with_reducible refine State.control_keeps (hP.mono (by decide)) ?_ ?_
    | intro _ _ _
    | intro _ _

theorem State.cIen_keeps (hP : Keeps 0x200280834 P) {s : State} (h : P s)  {c : ℕ} {mask : ℕ} {rc : Bool} :
    P (State.cIen s c mask rc) := by
  unfold State.cIen
  repeat' first
    | with_reducible assumption
    | with_reducible refine State.control_keeps (hP.mono (by decide)) ?_ ?_
    | with_reducible refine State.setFlag_keeps (hP.mono (by decide)) ?_
    | with_reducible refine ite_keeps ?_ ?_
    | intro _ _ _
    | intro _ _

theorem State.cBr_keeps (hP : Keeps 0x200280834 P) {s : State} (h : P s)  {c : ℕ} {k : Cond} {tgt : ℕ} :
    P (State.cBr s c k tgt) := by
  unfold State.cBr
  repeat' first
    | with_reducible assumption
    | with_reducible refine State.control_keeps (hP.mono (by decide)) ?_ ?_
    | intro _ _ _
    | intro _ _

theorem State.setLoop_keeps (hP : Keeps 0x200000 P) {s : State} (h : P s)  {c : ℕ} {id : ℕ} {v : ℕ} :
    P (State.setLoop s c id v) := by
  unfold State.setLoop
  extract_lets a0
  all_goals clear_value a0
  repeat' first
    | with_reducible assumption
    | with_reducible refine State.setCore_keeps (hP.mono (by decide)) ?_

theorem State.cBrr_keeps (hP : Keeps 0x200280834 P) {s : State} (h : P s)  {c : ℕ} {k : Cond} :
    P (State.cBrr s c k) := by
  unfold State.cBrr
  repeat' first
    | with_reducible assumption
    | with_reducible refine State.control_keeps (hP.mono (by decide)) ?_ ?_
    | intro _ _ _
    | intro _ _

theorem State.cReti_keeps (hP : Keeps 0x200280834 P) {s : State} (h : P s)  {c : ℕ} :
    P (State.cReti s c) := by
  unfold State.cReti
  extract_lets a0 a1
  all_goals clear_value a0 a1
  repeat' first
    | with_reducible assumption
    | with_reducible refine State.control_keeps (hP.mono (by decide)) ?_ ?_
    | with_reducible refine ite_keeps ?_ ?_
    | intro _ _ _
    | intro _ _

theorem State.cLoop_keeps (hP : Keeps 0x200280834 P) {s : State} (h : P s)  {c : ℕ} {lv : ℕ} {count : BitVec 16 ⊕ Fin 32} {tgt : ℕ} :
    P (State.cLoop s c lv count tgt) := by
  unfold State.cLoop
  repeat' first
    | with_reducible assumption
    | with_reducible refine State.control_keeps (hP.mono (by decide)) ?_ ?_
    | with_reducible refine State.setLoop_keeps (hP.mono (by decide)) ?_
    | with_reducible refine ite_keeps ?_ ?_
    | intro _ _ _
    | intro _ _

theorem State.cBrk_keeps (hP : Keeps 0x200280834 P) {s : State} (h : P s)  {c : ℕ} {lv : ℕ} {k : Cond} {tgt : ℕ} :
    P (State.cBrk s c lv k tgt) := by
  unfold State.cBrk
  repeat' first
    | with_reducible assumption
    | with_reducible refine State.control_keeps (hP.mono (by decide)) ?_ ?_
    | with_reducible refine State.setLoop_keeps (hP.mono (by decide)) ?_
    | with_reducible refine ite_keeps ?_ ?_
    | with_reducible refine forRange_keeps ?_ ?_
    | intro _ _ _
    | intro _ _
    | split

end Sys2Proof.Machine
end

