-- ==== Sys2Proof/Laws/KeepsReedData.lean ====
section
/-!
SUPPORT. What the operations of Machine/ReedData.lean may change.
-/
namespace Sys2Proof.Machine

variable {P : State → Prop}

theorem State.putAcc_keeps (hP : Keeps 0x200000 P) {s : State} (h : P s)  {c : ℕ} {lat : ℕ} {x : ℕ} {re : ℤ} {im : ℤ} :
    P (State.putAcc s c lat x re im) := by
  unfold State.putAcc
  extract_lets a0 a1
  all_goals clear_value a0 a1
  repeat' first
    | with_reducible assumption
    | with_reducible refine State.putSat_keeps (hP.mono (by decide)) ?_
    | with_reducible refine State.put_keeps (hP.mono (by decide)) ?_

theorem State.aluI_keeps (hP : Keeps 0x200280834 P) {s : State} (h : P s)  {c : ℕ} {d : ℕ} {a : ℕ} {f : Word → Word} :
    P (State.aluI s c d a f) := by
  unfold State.aluI
  repeat' first
    | with_reducible assumption
    | with_reducible refine State.dSlot_keeps (hP.mono (by decide)) ?_ ?_
    | with_reducible refine State.putW_keeps (hP.mono (by decide)) ?_
    | intro _ _ _
    | intro _ _

theorem State.shiftI_keeps (hP : Keeps 0x200280834 P) {s : State} (h : P s)  {c : ℕ} {d : ℕ} {a : ℕ} {v : BitVec 14} {f : Word → ℕ → Word} :
    P (State.shiftI s c d a v f) := by
  unfold State.shiftI
  repeat' first
    | with_reducible assumption
    | with_reducible refine State.dSlot_keeps (hP.mono (by decide)) ?_ ?_
    | with_reducible refine State.putW_keeps (hP.mono (by decide)) ?_
    | intro _ _ _
    | intro _ _

theorem State.dSari_keeps (hP : Keeps 0x200280834 P) {s : State} (h : P s)  {c : ℕ} {d : ℕ} {a : ℕ} {v : BitVec 14} :
    P (State.dSari s c d a v) := by
  unfold State.dSari
  repeat' first
    | with_reducible assumption
    | with_reducible refine State.shiftI_keeps (hP.mono (by decide)) ?_

theorem State.aluR_keeps (hP : Keeps 0x200280834 P) {s : State} (h : P s)  {c : ℕ} {d : ℕ} {a : ℕ} {b : Src} {f : Word → Word → Word} :
    P (State.aluR s c d a b f) := by
  unfold State.aluR
  repeat' first
    | with_reducible assumption
    | with_reducible refine State.dSlot_keeps (hP.mono (by decide)) ?_ ?_
    | with_reducible refine State.putW_keeps (hP.mono (by decide)) ?_
    | intro _ _ _
    | intro _ _

theorem State.dShl_keeps (hP : Keeps 0x200280834 P) {s : State} (h : P s)  {c : ℕ} {d : ℕ} {a : ℕ} {b : Src} :
    P (State.dShl s c d a b) := by
  unfold State.dShl
  repeat' first
    | with_reducible assumption
    | with_reducible refine State.aluR_keeps (hP.mono (by decide)) ?_

theorem State.aluSat_keeps (hP : Keeps 0x200280834 P) {s : State} (h : P s)  {c : ℕ} {d : ℕ} {a : ℕ} {b : Src} {f : ℤ → ℤ → ℤ} :
    P (State.aluSat s c d a b f) := by
  unfold State.aluSat
  repeat' first
    | with_reducible assumption
    | with_reducible refine State.dSlot_keeps (hP.mono (by decide)) ?_ ?_
    | with_reducible refine State.putSat_keeps (hP.mono (by decide)) ?_
    | with_reducible refine State.putW_keeps (hP.mono (by decide)) ?_
    | intro _ _ _
    | intro _ _

theorem State.dAdds_keeps (hP : Keeps 0x200280834 P) {s : State} (h : P s)  {c : ℕ} {d : ℕ} {a : ℕ} {b : Src} :
    P (State.dAdds s c d a b) := by
  unfold State.dAdds
  repeat' first
    | with_reducible assumption
    | with_reducible refine State.aluSat_keeps (hP.mono (by decide)) ?_

theorem State.accessFault_keeps (hP : Keeps 0x200000 P) {s : State} (h : P s)  {c : ℕ} :
    P (State.accessFault s c) := by
  unfold State.accessFault
  extract_lets a0
  all_goals clear_value a0
  repeat' first
    | with_reducible assumption
    | with_reducible refine State.setCore_keeps (hP.mono (by decide)) ?_

theorem State.pointer_keeps (hP : Keeps 0x200000 P) {s : State} (h : P s)  {c : ℕ} {x : ℕ} {v : Option ℕ} :
    P (State.pointer s c x v) := by
  unfold State.pointer
  repeat' first
    | with_reducible assumption
    | with_reducible refine State.put_keeps (hP.mono (by decide)) ?_
    | split

theorem State.storeAt_keeps (hP : Keeps 0x200000 P) {s : State} (h : P s)  {c : ℕ} {a : ℕ} {size : ℕ} {v : ℕ} :
    P (State.storeAt s c a size v) := by
  unfold State.storeAt
  extract_lets a0
  all_goals clear_value a0
  repeat' first
    | with_reducible assumption
    | with_reducible refine State.setCore_keeps (hP.mono (by decide)) ?_

theorem State.dLdst_keeps (hP : Keeps 0x200280834 P) {s : State} (h : P s)  {c : ℕ} {g1 : ℕ} {g2 : ℕ} {pa : ℕ} {pb : ℕ} {ma : Bool} {mb : Bool} :
    P (State.dLdst s c g1 g2 pa pb ma mb) := by
  unfold State.dLdst
  repeat' first
    | with_reducible assumption
    | with_reducible refine State.dSlot_keeps (hP.mono (by decide)) ?_ ?_
    | with_reducible refine State.accessFault_keeps (hP.mono (by decide)) ?_
    | with_reducible refine State.pointer_keeps (hP.mono (by decide)) ?_
    | with_reducible refine State.storeAt_keeps (hP.mono (by decide)) ?_
    | with_reducible refine State.putW_keeps (hP.mono (by decide)) ?_
    | with_reducible refine ite_keeps ?_ ?_
    | intro _ _ _
    | intro _ _

theorem State.dSubs_keeps (hP : Keeps 0x200280834 P) {s : State} (h : P s)  {c : ℕ} {d : ℕ} {a : ℕ} {b : Src} :
    P (State.dSubs s c d a b) := by
  unfold State.dSubs
  repeat' first
    | with_reducible assumption
    | with_reducible refine State.aluSat_keeps (hP.mono (by decide)) ?_

theorem State.dStore_keeps (hP : Keeps 0x200280834 P) {s : State} (h : P s)  {c : ℕ} {g : ℕ} {x : ℕ} {size : ℕ} {am : AddrMode} :
    P (State.dStore s c g x size am) := by
  unfold State.dStore
  repeat' first
    | with_reducible assumption
    | with_reducible refine State.dSlot_keeps (hP.mono (by decide)) ?_ ?_
    | with_reducible refine State.accessFault_keeps (hP.mono (by decide)) ?_
    | with_reducible refine State.pointer_keeps (hP.mono (by decide)) ?_
    | with_reducible refine State.storeAt_keeps (hP.mono (by decide)) ?_
    | with_reducible refine ite_keeps ?_ ?_
    | intro _ _ _
    | intro _ _

theorem State.dStW_keeps (hP : Keeps 0x200280834 P) {s : State} (h : P s)  {c : ℕ} {g : ℕ} {x : ℕ} {am : AddrMode} :
    P (State.dStW s c g x am) := by
  unfold State.dStW
  repeat' first
    | with_reducible assumption
    | with_reducible refine State.dStore_keeps (hP.mono (by decide)) ?_

theorem State.dRddec_keeps (hP : Keeps 0x200280834 P) {s : State} (h : P s)  {c : ℕ} {d : ℕ} {a : ℕ} {v : BitVec 10} :
    P (State.dRddec s c d a v) := by
  unfold State.dRddec
  repeat' first
    | with_reducible assumption
    | with_reducible refine State.dSlot_keeps (hP.mono (by decide)) ?_ ?_
    | with_reducible refine State.putW_keeps (hP.mono (by decide)) ?_
    | intro _ _ _
    | intro _ _

theorem State.dAdd_keeps (hP : Keeps 0x200280834 P) {s : State} (h : P s)  {c : ℕ} {d : ℕ} {a : ℕ} {b : Src} :
    P (State.dAdd s c d a b) := by
  unfold State.dAdd
  repeat' first
    | with_reducible assumption
    | with_reducible refine State.aluR_keeps (hP.mono (by decide)) ?_

theorem State.dModp_keeps (hP : Keeps 0x200280834 P) {s : State} (h : P s)  {c : ℕ} {pd : ℕ} {mx : ℕ} :
    P (State.dModp s c pd mx) := by
  unfold State.dModp
  repeat' first
    | with_reducible assumption
    | with_reducible refine State.dSlot_keeps (hP.mono (by decide)) ?_ ?_
    | with_reducible refine State.accessFault_keeps (hP.mono (by decide)) ?_
    | with_reducible refine State.put_keeps (hP.mono (by decide)) ?_
    | with_reducible refine ite_keeps ?_ ?_
    | intro _ _ _
    | intro _ _

theorem State.dLd2_keeps (hP : Keeps 0x200280834 P) {s : State} (h : P s)  {c : ℕ} {g1 : ℕ} {g2 : ℕ} {pa : ℕ} {pb : ℕ} {ma : Bool} {mb : Bool} :
    P (State.dLd2 s c g1 g2 pa pb ma mb) := by
  unfold State.dLd2
  repeat' first
    | with_reducible assumption
    | with_reducible refine State.dSlot_keeps (hP.mono (by decide)) ?_ ?_
    | with_reducible refine State.accessFault_keeps (hP.mono (by decide)) ?_
    | with_reducible refine State.pointer_keeps (hP.mono (by decide)) ?_
    | with_reducible refine State.putW_keeps (hP.mono (by decide)) ?_
    | with_reducible refine ite_keeps ?_ ?_
    | intro _ _ _
    | intro _ _

theorem State.dNop_keeps (hP : Keeps 0x200280834 P) {s : State} (h : P s)  {c : ℕ} :
    P (State.dNop s c) := by
  unfold State.dNop
  exact State.dSlot_keeps (hP.mono (by decide)) h (fun _ hy => hy)

theorem State.dStH_keeps (hP : Keeps 0x200280834 P) {s : State} (h : P s)  {c : ℕ} {g : ℕ} {x : ℕ} {am : AddrMode} :
    P (State.dStH s c g x am) := by
  unfold State.dStH
  repeat' first
    | with_reducible assumption
    | with_reducible refine State.dStore_keeps (hP.mono (by decide)) ?_

theorem State.dCput_keeps (hP : Keeps 0x200280834 P) {s : State} (h : P s)  {c : ℕ} {g : ℕ} {cs : ℕ} {part : ℕ} :
    P (State.dCput s c g cs part) := by
  unfold State.dCput
  repeat' first
    | with_reducible assumption
    | with_reducible refine State.dSlot_keeps (hP.mono (by decide)) ?_ ?_
    | with_reducible refine State.put_keeps (hP.mono (by decide)) ?_
    | with_reducible refine ite_keeps ?_ ?_
    | intro _ _ _
    | intro _ _

theorem State.compare_keeps (hP : Keeps 0x200000 P) {s : State} (h : P s)  {c : ℕ} {a : Word} {b : Word} :
    P (State.compare s c a b) := by
  unfold State.compare
  extract_lets a0
  all_goals clear_value a0
  repeat' first
    | with_reducible assumption
    | with_reducible refine State.putFlag_keeps (hP.mono (by decide)) ?_

theorem State.dSar_keeps (hP : Keeps 0x200280834 P) {s : State} (h : P s)  {c : ℕ} {d : ℕ} {a : ℕ} {b : Src} :
    P (State.dSar s c d a b) := by
  unfold State.dSar
  repeat' first
    | with_reducible assumption
    | with_reducible refine State.aluR_keeps (hP.mono (by decide)) ?_

theorem State.mac_keeps (hP : Keeps 0x200280834 P) {s : State} (h : P s)  {c : ℕ} {cd : ℕ} {a : ℕ} {b : ℕ} {conj : Bool} {neg : Bool} :
    P (State.mac s c cd a b conj neg) := by
  unfold State.mac
  repeat' first
    | with_reducible assumption
    | with_reducible refine State.dSlot_keeps (hP.mono (by decide)) ?_ ?_
    | with_reducible refine State.putAcc_keeps (hP.mono (by decide)) ?_
    | with_reducible refine ite_keeps ?_ ?_
    | intro _ _ _
    | intro _ _

theorem State.dCmacj_keeps (hP : Keeps 0x200280834 P) {s : State} (h : P s)  {c : ℕ} {cd : ℕ} {a : ℕ} {b : ℕ} :
    P (State.dCmacj s c cd a b) := by
  unfold State.dCmacj
  repeat' first
    | with_reducible assumption
    | with_reducible refine State.mac_keeps (hP.mono (by decide)) ?_

theorem State.dSub_keeps (hP : Keeps 0x200280834 P) {s : State} (h : P s)  {c : ℕ} {d : ℕ} {a : ℕ} {b : Src} :
    P (State.dSub s c d a b) := by
  unfold State.dSub
  repeat' first
    | with_reducible assumption
    | with_reducible refine State.aluR_keeps (hP.mono (by decide)) ?_

theorem State.cmulTo_keeps (hP : Keeps 0x200280834 P) {s : State} (h : P s)  {c : ℕ} {cd : ℕ} {a : ℕ} {b : ℕ} {conj : Bool} :
    P (State.cmulTo s c cd a b conj) := by
  unfold State.cmulTo
  repeat' first
    | with_reducible assumption
    | with_reducible refine State.dSlot_keeps (hP.mono (by decide)) ?_ ?_
    | with_reducible refine State.putAcc_keeps (hP.mono (by decide)) ?_
    | intro _ _ _
    | intro _ _

theorem State.dCmulj_keeps (hP : Keeps 0x200280834 P) {s : State} (h : P s)  {c : ℕ} {cd : ℕ} {a : ℕ} {b : ℕ} :
    P (State.dCmulj s c cd a b) := by
  unfold State.dCmulj
  repeat' first
    | with_reducible assumption
    | with_reducible refine State.cmulTo_keeps (hP.mono (by decide)) ?_

theorem State.dBstg_keeps (hP : Keeps 0x200280834 P) {s : State} (h : P s)  {c : ℕ} :
    P (State.dBstg s c) := by
  unfold State.dBstg
  repeat' first
    | with_reducible assumption
    | with_reducible refine State.dSlot_keeps (hP.mono (by decide)) ?_ ?_
    | with_reducible refine State.put_keeps (hP.mono (by decide)) ?_
    | with_reducible refine State.putFlag_keeps (hP.mono (by decide)) ?_
    | intro _ _ _
    | intro _ _

theorem State.dCmac_keeps (hP : Keeps 0x200280834 P) {s : State} (h : P s)  {c : ℕ} {cd : ℕ} {a : ℕ} {b : ℕ} :
    P (State.dCmac s c cd a b) := by
  unfold State.dCmac
  repeat' first
    | with_reducible assumption
    | with_reducible refine State.mac_keeps (hP.mono (by decide)) ?_

theorem State.dCmpi_keeps (hP : Keeps 0x200280834 P) {s : State} (h : P s)  {c : ℕ} {a : ℕ} {v : BitVec 14} :
    P (State.dCmpi s c a v) := by
  unfold State.dCmpi
  repeat' first
    | with_reducible assumption
    | with_reducible refine State.dSlot_keeps (hP.mono (by decide)) ?_ ?_
    | with_reducible refine State.compare_keeps (hP.mono (by decide)) ?_
    | intro _ _ _
    | intro _ _

theorem State.dCmp_keeps (hP : Keeps 0x200280834 P) {s : State} (h : P s)  {c : ℕ} {a : ℕ} {b : Src} :
    P (State.dCmp s c a b) := by
  unfold State.dCmp
  repeat' first
    | with_reducible assumption
    | with_reducible refine State.dSlot_keeps (hP.mono (by decide)) ?_ ?_
    | with_reducible refine State.compare_keeps (hP.mono (by decide)) ?_
    | intro _ _ _
    | intro _ _

theorem State.dLoad_keeps (hP : Keeps 0x200280834 P) {s : State} (h : P s)  {c : ℕ} {g : ℕ} {x : ℕ} {size : ℕ} {am : AddrMode} {ext : ℕ → Word} :
    P (State.dLoad s c g x size am ext) := by
  unfold State.dLoad
  repeat' first
    | with_reducible assumption
    | with_reducible refine State.dSlot_keeps (hP.mono (by decide)) ?_ ?_
    | with_reducible refine State.accessFault_keeps (hP.mono (by decide)) ?_
    | with_reducible refine State.pointer_keeps (hP.mono (by decide)) ?_
    | with_reducible refine State.putW_keeps (hP.mono (by decide)) ?_
    | with_reducible refine ite_keeps ?_ ?_
    | intro _ _ _
    | intro _ _

theorem State.dLdHu_keeps (hP : Keeps 0x200280834 P) {s : State} (h : P s)  {c : ℕ} {g : ℕ} {x : ℕ} {am : AddrMode} :
    P (State.dLdHu s c g x am) := by
  unfold State.dLdHu
  repeat' first
    | with_reducible assumption
    | with_reducible refine State.dLoad_keeps (hP.mono (by decide)) ?_

theorem State.dMax_keeps (hP : Keeps 0x200280834 P) {s : State} (h : P s)  {c : ℕ} {d : ℕ} {a : ℕ} {b : Src} :
    P (State.dMax s c d a b) := by
  unfold State.dMax
  repeat' first
    | with_reducible assumption
    | with_reducible refine State.aluR_keeps (hP.mono (by decide)) ?_

theorem State.dCmsu_keeps (hP : Keeps 0x200280834 P) {s : State} (h : P s)  {c : ℕ} {cd : ℕ} {a : ℕ} {b : ℕ} :
    P (State.dCmsu s c cd a b) := by
  unfold State.dCmsu
  repeat' first
    | with_reducible assumption
    | with_reducible refine State.mac_keeps (hP.mono (by decide)) ?_

theorem State.dOr_keeps (hP : Keeps 0x200280834 P) {s : State} (h : P s)  {c : ℕ} {d : ℕ} {a : ℕ} {b : Src} :
    P (State.dOr s c d a b) := by
  unfold State.dOr
  repeat' first
    | with_reducible assumption
    | with_reducible refine State.aluR_keeps (hP.mono (by decide)) ?_

theorem State.dAndi_keeps (hP : Keeps 0x200280834 P) {s : State} (h : P s)  {c : ℕ} {d : ℕ} {a : ℕ} {v : BitVec 14} :
    P (State.dAndi s c d a v) := by
  unfold State.dAndi
  repeat' first
    | with_reducible assumption
    | with_reducible refine State.aluI_keeps (hP.mono (by decide)) ?_

theorem State.dXor_keeps (hP : Keeps 0x200280834 P) {s : State} (h : P s)  {c : ℕ} {d : ℕ} {a : ℕ} {b : Src} :
    P (State.dXor s c d a b) := by
  unfold State.dXor
  repeat' first
    | with_reducible assumption
    | with_reducible refine State.aluR_keeps (hP.mono (by decide)) ?_

theorem State.dBfly_keeps (hP : Keeps 0x200280834 P) {s : State} (h : P s)  {c : ℕ} {d : ℕ} {a : ℕ} {b : ℕ} {t : ℕ} {sc : ℕ} :
    P (State.dBfly s c d a b t sc) := by
  unfold State.dBfly
  repeat' first
    | with_reducible assumption
    | with_reducible refine State.dSlot_keeps (hP.mono (by decide)) ?_ ?_
    | with_reducible refine State.putW_keeps (hP.mono (by decide)) ?_
    | with_reducible refine State.putSat_keeps (hP.mono (by decide)) ?_
    | with_reducible refine State.putFlag_keeps (hP.mono (by decide)) ?_
    | with_reducible refine ite_keeps ?_ ?_
    | intro _ _ _
    | intro _ _

theorem State.dCrnd_keeps (hP : Keeps 0x200280834 P) {s : State} (h : P s)  {c : ℕ} {g : ℕ} {cs : ℕ} {sh : ℕ} :
    P (State.dCrnd s c g cs sh) := by
  unfold State.dCrnd
  repeat' first
    | with_reducible assumption
    | with_reducible refine State.dSlot_keeps (hP.mono (by decide)) ?_ ?_
    | with_reducible refine State.putSat_keeps (hP.mono (by decide)) ?_
    | with_reducible refine State.putW_keeps (hP.mono (by decide)) ?_
    | intro _ _ _
    | intro _ _

theorem State.dCmul_keeps (hP : Keeps 0x200280834 P) {s : State} (h : P s)  {c : ℕ} {cd : ℕ} {a : ℕ} {b : ℕ} :
    P (State.dCmul s c cd a b) := by
  unfold State.dCmul
  repeat' first
    | with_reducible assumption
    | with_reducible refine State.cmulTo_keeps (hP.mono (by decide)) ?_

theorem State.dExp_keeps (hP : Keeps 0x200280834 P) {s : State} (h : P s)  {c : ℕ} {d : ℕ} {a : ℕ} {x : Bool} :
    P (State.dExp s c d a x) := by
  unfold State.dExp
  repeat' first
    | with_reducible assumption
    | with_reducible refine State.aluI_keeps (hP.mono (by decide)) ?_

theorem State.dNorm_keeps (hP : Keeps 0x200280834 P) {s : State} (h : P s)  {c : ℕ} {d : ℕ} {a : ℕ} {x : Bool} :
    P (State.dNorm s c d a x) := by
  unfold State.dNorm
  repeat' first
    | with_reducible assumption
    | with_reducible refine State.aluI_keeps (hP.mono (by decide)) ?_

theorem State.dMov_keeps (hP : Keeps 0x200280834 P) {s : State} (h : P s)  {c : ℕ} {dst : ℕ} {x3 : MovSrc} :
    P (State.dMov s c dst x3) := by
  unfold State.dMov
  repeat' first
    | with_reducible assumption
    | with_reducible refine State.dSlot_keeps (hP.mono (by decide)) ?_ ?_
    | with_reducible refine State.writeId_keeps (hP.mono (by decide)) ?_
    | with_reducible refine State.setCore_keeps (hP.mono (by decide)) ?_
    | with_reducible refine ite_keeps ?_ ?_
    | intro _ _ _
    | intro _ _
    | split

theorem State.dLdW_keeps (hP : Keeps 0x200280834 P) {s : State} (h : P s)  {c : ℕ} {g : ℕ} {x : ℕ} {am : AddrMode} :
    P (State.dLdW s c g x am) := by
  unfold State.dLdW
  repeat' first
    | with_reducible assumption
    | with_reducible refine State.dLoad_keeps (hP.mono (by decide)) ?_

theorem State.dAddi_keeps (hP : Keeps 0x200280834 P) {s : State} (h : P s)  {c : ℕ} {d : ℕ} {a : ℕ} {v : BitVec 14} :
    P (State.dAddi s c d a v) := by
  unfold State.dAddi
  repeat' first
    | with_reducible assumption
    | with_reducible refine State.aluI_keeps (hP.mono (by decide)) ?_

theorem State.dShr_keeps (hP : Keeps 0x200280834 P) {s : State} (h : P s)  {c : ℕ} {d : ℕ} {a : ℕ} {b : Src} :
    P (State.dShr s c d a b) := by
  unfold State.dShr
  repeat' first
    | with_reducible assumption
    | with_reducible refine State.aluR_keeps (hP.mono (by decide)) ?_

theorem State.dShli_keeps (hP : Keeps 0x200280834 P) {s : State} (h : P s)  {c : ℕ} {d : ℕ} {a : ℕ} {v : BitVec 14} :
    P (State.dShli s c d a v) := by
  unfold State.dShli
  repeat' first
    | with_reducible assumption
    | with_reducible refine State.shiftI_keeps (hP.mono (by decide)) ?_

theorem State.dAnd_keeps (hP : Keeps 0x200280834 P) {s : State} (h : P s)  {c : ℕ} {d : ℕ} {a : ℕ} {b : Src} :
    P (State.dAnd s c d a b) := by
  unfold State.dAnd
  repeat' first
    | with_reducible assumption
    | with_reducible refine State.aluR_keeps (hP.mono (by decide)) ?_

theorem State.dRdft_keeps (hP : Keeps 0x200280834 P) {s : State} (h : P s)  {c : ℕ} {d : ℕ} {h : Bool} :
    P (State.dRdft s c d h) := by
  unfold State.dRdft
  repeat' first
    | with_reducible assumption
    | with_reducible refine State.dSlot_keeps (hP.mono (by decide)) ?_ ?_
    | with_reducible refine State.putW_keeps (hP.mono (by decide)) ?_
    | with_reducible refine State.setCore_keeps (hP.mono (by decide)) ?_
    | with_reducible refine ite_keeps ?_ ?_
    | intro _ _ _
    | intro _ _

theorem State.dMin_keeps (hP : Keeps 0x200280834 P) {s : State} (h : P s)  {c : ℕ} {d : ℕ} {a : ℕ} {b : Src} :
    P (State.dMin s c d a b) := by
  unfold State.dMin
  repeat' first
    | with_reducible assumption
    | with_reducible refine State.aluR_keeps (hP.mono (by decide)) ?_

theorem State.dShri_keeps (hP : Keeps 0x200280834 P) {s : State} (h : P s)  {c : ℕ} {d : ℕ} {a : ℕ} {v : BitVec 14} :
    P (State.dShri s c d a v) := by
  unfold State.dShri
  repeat' first
    | with_reducible assumption
    | with_reducible refine State.shiftI_keeps (hP.mono (by decide)) ?_

theorem State.dCclr_keeps (hP : Keeps 0x200280834 P) {s : State} (h : P s)  {c : ℕ} {cd : ℕ} :
    P (State.dCclr s c cd) := by
  unfold State.dCclr
  repeat' first
    | with_reducible assumption
    | with_reducible refine State.dSlot_keeps (hP.mono (by decide)) ?_ ?_
    | with_reducible refine State.putAcc_keeps (hP.mono (by decide)) ?_
    | intro _ _ _
    | intro _ _

theorem State.dMul_keeps (hP : Keeps 0x200280834 P) {s : State} (h : P s)  {c : ℕ} {d : ℕ} {a : ℕ} {b : Src} :
    P (State.dMul s c d a b) := by
  unfold State.dMul
  repeat' first
    | with_reducible assumption
    | with_reducible refine State.dSlot_keeps (hP.mono (by decide)) ?_ ?_
    | with_reducible refine State.putW_keeps (hP.mono (by decide)) ?_
    | intro _ _ _
    | intro _ _

theorem State.dShc_keeps (hP : Keeps 0x200280834 P) {s : State} (h : P s)  {c : ℕ} {d : ℕ} {a : ℕ} {b : ℕ} :
    P (State.dShc s c d a b) := by
  unfold State.dShc
  repeat' first
    | with_reducible assumption
    | with_reducible refine State.dSlot_keeps (hP.mono (by decide)) ?_ ?_
    | with_reducible refine State.putSat_keeps (hP.mono (by decide)) ?_
    | with_reducible refine State.putW_keeps (hP.mono (by decide)) ?_
    | intro _ _ _
    | intro _ _

theorem State.dCget_keeps (hP : Keeps 0x200280834 P) {s : State} (h : P s)  {c : ℕ} {g : ℕ} {cs : ℕ} {part : ℕ} :
    P (State.dCget s c g cs part) := by
  unfold State.dCget
  repeat' first
    | with_reducible assumption
    | with_reducible refine State.dSlot_keeps (hP.mono (by decide)) ?_ ?_
    | with_reducible refine State.put_keeps (hP.mono (by decide)) ?_
    | with_reducible refine ite_keeps ?_ ?_
    | intro _ _ _
    | intro _ _

theorem State.dLdH_keeps (hP : Keeps 0x200280834 P) {s : State} (h : P s)  {c : ℕ} {g : ℕ} {x : ℕ} {am : AddrMode} :
    P (State.dLdH s c g x am) := by
  unfold State.dLdH
  repeat' first
    | with_reducible assumption
    | with_reducible refine State.dLoad_keeps (hP.mono (by decide)) ?_

theorem State.dCadd_keeps (hP : Keeps 0x200280834 P) {s : State} (h : P s)  {c : ℕ} {cd : ℕ} {a : ℕ} {b : ℕ} :
    P (State.dCadd s c cd a b) := by
  unfold State.dCadd
  repeat' first
    | with_reducible assumption
    | with_reducible refine State.dSlot_keeps (hP.mono (by decide)) ?_ ?_
    | with_reducible refine State.putAcc_keeps (hP.mono (by decide)) ?_
    | intro _ _ _
    | intro _ _

end Sys2Proof.Machine
end

