-- ==== Sys2Proof/Laws/KeepsReedTimed.lean ====
section
/-!
SUPPORT. What the operations of Machine/ReedTimed.lean may change.
-/
namespace Sys2Proof.Machine

variable {P : State → Prop}

theorem State.tTnop_keeps (hP : Keeps 0x200280834 P) {s : State} (h : P s)  {c : ℕ} {long : Bool} :
    P (State.tTnop s c long) := by
  unfold State.tTnop
  repeat' first
    | with_reducible assumption
    | with_reducible refine State.tSlot_keeps (hP.mono (by decide)) ?_ ?_
    | with_reducible refine State.bundleClose_keeps (hP.mono (by decide)) ?_
    | intro _ _ _
    | intro _ _

theorem State.playChoice_keeps (hP : Keeps 0x20002c834 P) {s : State} (h : P s)  {n : ℕ} {e : ℕ} {t : TCmd} {choice : ℕ} :
    P (State.playChoice s n e t choice) := by
  unfold State.playChoice
  repeat' first
    | with_reducible assumption
    | with_reducible refine State.engPlay_keeps (hP.mono (by decide)) ?_
    | with_reducible refine ite_keeps ?_ ?_

theorem State.cplayCommit_keeps (hP : Keeps 0x20002c834 P) {s : State} (h : P s)  {n : ℕ} {e : ℕ} {a : Armed} :
    P (State.cplayCommit s n e a) := by
  unfold State.cplayCommit
  extract_lets a0 a1 a2 a3 a4 a5 a6 a7
  refine have k5 : P a5 := ?_; have k6 : P a6 := ?_; have k7 : P a7 := ?_; ?_
  all_goals clear_value a0 a1 a2 a3 a4
  repeat' first
    | with_reducible assumption
    | with_reducible refine State.playChoice_keeps (hP.mono (by decide)) ?_
    | with_reducible refine State.incSat_keeps (hP.mono (by decide)) ?_
    | with_reducible refine State.corePend_keeps (hP.mono (by decide)) ?_
    | with_reducible refine State.coreFault_keeps (hP.mono (by decide)) ?_
    | with_reducible refine ite_keeps ?_ ?_
    | split

theorem State.setSchedule_keeps (hP : Keeps 0x200000 P) {s : State} (h : P s)  {c : ℕ} {v : ℕ} :
    P (State.setSchedule s c v) := by
  unfold State.setSchedule
  extract_lets a0
  all_goals clear_value a0
  repeat' first
    | with_reducible assumption
    | with_reducible refine State.setCore_keeps (hP.mono (by decide)) ?_

theorem State.tSync_keeps (hP : Keeps 0x200280834 P) {s : State} (h : P s)  {c : ℕ} {o : TOff} :
    P (State.tSync s c o) := by
  unfold State.tSync
  repeat' first
    | with_reducible assumption
    | with_reducible refine State.tSlot_keeps (hP.mono (by decide)) ?_ ?_
    | with_reducible refine State.bundleClose_keeps (hP.mono (by decide)) ?_
    | with_reducible refine State.setSchedule_keeps (hP.mono (by decide)) ?_
    | intro _ _ _
    | intro _ _

theorem State.enqueue_keeps (hP : Keeps 0x200004 P) {s : State} (h : P s)  {c : ℕ} {t : TCmd} :
    P (State.enqueue s c t) := by
  unfold State.enqueue
  extract_lets a0 a1 a2 a3 a4 a5 a6
  refine have k4 : P a4 := ?_; have k5 : P a5 := ?_; have k6 : P a6 := ?_; ?_
  all_goals clear_value a0 a1 a2 a3
  repeat' first
    | with_reducible assumption
    | with_reducible refine State.setCore_keeps (hP.mono (by decide)) ?_
    | with_reducible refine State.incWrap_keeps (hP.mono (by decide)) ?_
    | with_reducible refine State.setFld_keeps (hP.mono (by decide)) ?_

theorem State.tCommand_keeps (hP : Keeps 0x200280834 P) {s : State} (h : P s)  {c : ℕ} {top : ℕ} {tgt : ℕ} {x : TArg} {align : ℕ} {targets : List (ℕ × ℕ)} :
    P (State.tCommand s c top tgt x align targets) := by
  unfold State.tCommand
  repeat' first
    | with_reducible assumption
    | with_reducible refine State.tSlot_keeps (hP.mono (by decide)) ?_ ?_
    | with_reducible refine State.bundleClose_keeps (hP.mono (by decide)) ?_
    | with_reducible refine State.enqueue_keeps (hP.mono (by decide)) ?_
    | with_reducible refine State.setCore_keeps (hP.mono (by decide)) ?_
    | with_reducible refine ite_keeps ?_ ?_
    | intro _ _ _
    | intro _ _

theorem State.tJump_keeps (hP : Keeps 0x200280834 P) {s : State} (h : P s)  {c : ℕ} {tgt : ℕ} {x : TArg} :
    P (State.tJump s c tgt x) := by
  unfold State.tJump
  repeat' first
    | with_reducible assumption
    | with_reducible refine State.tCommand_keeps (hP.mono (by decide)) ?_

theorem State.tFreq_keeps (hP : Keeps 0x200280834 P) {s : State} (h : P s)  {c : ℕ} {tgt : ℕ} {x : TArg} :
    P (State.tFreq s c tgt x) := by
  unfold State.tFreq
  repeat' first
    | with_reducible assumption
    | with_reducible refine State.tCommand_keeps (hP.mono (by decide)) ?_

theorem State.fenceRelease_keeps (hP : Keeps 0x280004 P) {s : State} (h : P s)  {c : ℕ} :
    P (State.fenceRelease s c) := by
  unfold State.fenceRelease
  extract_lets a0
  all_goals clear_value a0
  repeat' first
    | with_reducible assumption
    | with_reducible refine State.bundleEnd_keeps (hP.mono (by decide)) ?_
    | with_reducible refine State.setCore_keeps (hP.mono (by decide)) ?_
    | with_reducible refine ite_keeps ?_ ?_

theorem State.setArmed_keeps (hP : Keeps 0x400000 P) {s : State} (h : P s)  {n : ℕ} {tgt : ℕ} {l : List Armed} :
    P (State.setArmed s n tgt l) := by
  unfold State.setArmed
  repeat' first
    | with_reducible assumption
    | exact fun hw => SMap.wf_set _ hw _ _
    | with_reducible refine hP.armed (by decide) _ _ ?_ ?_

theorem State.arm_keeps (hP : Keeps 0x400000 P) {s : State} (h : P s)  {n : ℕ} {t : TCmd} :
    P (State.arm s n t) := by
  unfold State.arm
  extract_lets a0 a1
  all_goals clear_value a0 a1
  repeat' first
    | with_reducible assumption
    | with_reducible refine State.setArmed_keeps (hP.mono (by decide)) ?_
    | with_reducible refine foldl_keeps ?_ ?_
    | intro _ _ _

theorem State.tTrig_keeps (hP : Keeps 0x200280834 P) {s : State} (h : P s)  {c : ℕ} {tgt : ℕ} {x : TArg} :
    P (State.tTrig s c tgt x) := by
  unfold State.tTrig
  repeat' first
    | with_reducible assumption
    | with_reducible refine State.tCommand_keeps (hP.mono (by decide)) ?_

theorem State.tMark_keeps (hP : Keeps 0x200280834 P) {s : State} (h : P s)  {c : ℕ} {tgt : ℕ} {x : TArg} :
    P (State.tMark s c tgt x) := by
  unfold State.tMark
  repeat' first
    | with_reducible assumption
    | with_reducible refine State.tCommand_keeps (hP.mono (by decide)) ?_

theorem State.tFence_keeps (hP : Keeps 0x200280834 P) {s : State} (h : P s)  {c : ℕ} {long : Bool} :
    P (State.tFence s c long) := by
  unfold State.tFence
  repeat' first
    | with_reducible assumption
    | with_reducible refine State.tSlot_keeps (hP.mono (by decide)) ?_ ?_
    | with_reducible refine State.bundleClose_keeps (hP.mono (by decide)) ?_
    | with_reducible refine State.setCore_keeps (hP.mono (by decide)) ?_
    | with_reducible refine ite_keeps ?_ ?_
    | intro _ _ _
    | intro _ _

theorem State.recordCommit_keeps (hP : Keeps 0x200200004 P) {s : State} (h : P s)  {t : TCmd} :
    P (State.recordCommit s t) := by
  unfold State.recordCommit
  extract_lets a0 a1 a2 a3 a4 a5 a6
  refine have k3 : P a3 := ?_; have k5 : P a5 := ?_; have k6 : P a6 := ?_; ?_
  all_goals clear_value a0 a1 a2 a4
  repeat' first
    | with_reducible assumption
    | with_reducible refine State.runCommit_keeps (hP.mono (by decide)) ?_
    | with_reducible refine State.setCore_keeps (hP.mono (by decide)) ?_
    | with_reducible refine State.setReg_keeps (hP.mono (by decide)) ?_
    | with_reducible refine State.setReg64_keeps (hP.mono (by decide)) ?_
    | with_reducible refine ite_keeps ?_ ?_

theorem State.commitOne_keeps (hP : Keeps 0x20823d834 P) {s : State} (h : P s)  {n : ℕ} {b : ℕ} {a : Armed} :
    P (State.commitOne s n b a) := by
  unfold State.commitOne
  extract_lets a0 a1 a2 a3
  refine have k1 : P a1 := ?_; ?_
  all_goals clear_value a0 a2 a3
  repeat' first
    | with_reducible assumption
    | with_reducible refine State.recordCommit_keeps (hP.mono (by decide)) ?_
    | with_reducible refine State.winCommit_keeps (hP.mono (by decide)) ?_
    | with_reducible refine State.markCmd_keeps (hP.mono (by decide)) ?_
    | with_reducible refine State.fire_keeps (hP.mono (by decide)) ?_
    | with_reducible refine State.engPlay_keeps (hP.mono (by decide)) ?_
    | with_reducible refine State.cplayCommit_keeps (hP.mono (by decide)) ?_
    | with_reducible refine State.engFrame_keeps (hP.mono (by decide)) ?_
    | with_reducible refine State.engAmp_keeps (hP.mono (by decide)) ?_
    | with_reducible refine State.engJump_keeps (hP.mono (by decide)) ?_
    | with_reducible refine State.carrierFreq_keeps (hP.mono (by decide)) ?_
    | with_reducible refine State.toneFreq_keeps (hP.mono (by decide)) ?_
    | with_reducible refine ite_keeps ?_ ?_

theorem State.commitArmed_keeps (hP : Keeps 0x20863d834 P) {s : State} (h : P s)  {n : ℕ} {b : ℕ} :
    P (State.commitArmed s n b) := by
  unfold State.commitArmed
  repeat' first
    | with_reducible assumption
    | with_reducible refine State.setArmed_keeps (hP.mono (by decide)) ?_
    | with_reducible refine State.commitOne_keeps (hP.mono (by decide)) ?_
    | with_reducible refine ite_keeps ?_ ?_
    | with_reducible refine foldl_keeps ?_ ?_
    | intro _ _ _
    | intro _ _
    | split

theorem State.tFrame_keeps (hP : Keeps 0x200280834 P) {s : State} (h : P s)  {c : ℕ} {tgt : ℕ} {x : TArg} :
    P (State.tFrame s c tgt x) := by
  unfold State.tFrame
  repeat' first
    | with_reducible assumption
    | with_reducible refine State.tCommand_keeps (hP.mono (by decide)) ?_

theorem State.tCplay_keeps (hP : Keeps 0x200280834 P) {s : State} (h : P s)  {c : ℕ} {tgt : ℕ} {x : TArg} :
    P (State.tCplay s c tgt x) := by
  unfold State.tCplay
  repeat' first
    | with_reducible assumption
    | with_reducible refine State.tCommand_keeps (hP.mono (by decide)) ?_

theorem State.tWait_keeps (hP : Keeps 0x200280834 P) {s : State} (h : P s)  {c : ℕ} {o : TOff} :
    P (State.tWait s c o) := by
  unfold State.tWait
  repeat' first
    | with_reducible assumption
    | with_reducible refine State.tSlot_keeps (hP.mono (by decide)) ?_ ?_
    | with_reducible refine State.bundleClose_keeps (hP.mono (by decide)) ?_
    | with_reducible refine State.setSchedule_keeps (hP.mono (by decide)) ?_
    | intro _ _ _
    | intro _ _

theorem State.mailboxWrite_keeps (hP : Keeps 0x4 P) {s : State} (h : P s)  {c : ℕ} {v : Word} :
    P (State.mailboxWrite s c v) := by
  unfold State.mailboxWrite
  repeat' first
    | with_reducible assumption
    | with_reducible refine State.corePend_keeps (hP.mono (by decide)) ?_
    | with_reducible refine State.setReg_keeps (hP.mono (by decide)) ?_

theorem State.tAmp_keeps (hP : Keeps 0x200280834 P) {s : State} (h : P s)  {c : ℕ} {tgt : ℕ} {x : TArg} :
    P (State.tAmp s c tgt x) := by
  unfold State.tAmp
  repeat' first
    | with_reducible assumption
    | with_reducible refine State.tCommand_keeps (hP.mono (by decide)) ?_

theorem State.tFramea_keeps (hP : Keeps 0x200280834 P) {s : State} (h : P s)  {c : ℕ} {tgt : ℕ} {x : TArg} :
    P (State.tFramea s c tgt x) := by
  unfold State.tFramea
  repeat' first
    | with_reducible assumption
    | with_reducible refine State.tCommand_keeps (hP.mono (by decide)) ?_

theorem State.tPlay_keeps (hP : Keeps 0x200280834 P) {s : State} (h : P s)  {c : ℕ} {tgt : ℕ} {x : TArg} :
    P (State.tPlay s c tgt x) := by
  unfold State.tPlay
  repeat' first
    | with_reducible assumption
    | with_reducible refine State.tCommand_keeps (hP.mono (by decide)) ?_

theorem State.tFreqp_keeps (hP : Keeps 0x200280834 P) {s : State} (h : P s)  {c : ℕ} {tgt : ℕ} {x : TArg} :
    P (State.tFreqp s c tgt x) := by
  unfold State.tFreqp
  repeat' first
    | with_reducible assumption
    | with_reducible refine State.tCommand_keeps (hP.mono (by decide)) ?_

theorem State.queuePop_keeps (hP : Keeps 0x280004 P) {s : State} (h : P s)  {c : ℕ} {rest : List TCmd} :
    P (State.queuePop s c rest) := by
  unfold State.queuePop
  extract_lets a0 a1 a2 a3 a4 a5 a6 a7
  refine have k4 : P a4 := ?_; have k5 : P a5 := ?_; have k6 : P a6 := ?_; ?_
  all_goals clear_value a0 a1 a2 a3 a7
  repeat' first
    | with_reducible assumption
    | with_reducible refine State.setCore_keeps (hP.mono (by decide)) ?_
    | with_reducible refine State.setFld_keeps (hP.mono (by decide)) ?_
    | with_reducible refine State.corePend_keeps (hP.mono (by decide)) ?_
    | with_reducible refine State.bundleEnd_keeps (hP.mono (by decide)) ?_
    | with_reducible refine State.enqueue_keeps (hP.mono (by decide)) ?_
    | with_reducible refine State.setRcState_keeps (hP.mono (by decide)) ?_
    | with_reducible refine ite_keeps ?_ ?_
    | split

theorem State.deliver_keeps (hP : Keeps 0x200680834 P) {s : State} (h : P s)  {c : ℕ} :
    P (State.deliver s c) := by
  unfold State.deliver
  extract_lets a0 a1
  all_goals clear_value a0 a1
  repeat' first
    | with_reducible assumption
    | with_reducible refine State.queuePop_keeps (hP.mono (by decide)) ?_
    | with_reducible refine State.incSat_keeps (hP.mono (by decide)) ?_
    | with_reducible refine State.coreFault_keeps (hP.mono (by decide)) ?_
    | with_reducible refine State.corePend_keeps (hP.mono (by decide)) ?_
    | with_reducible refine State.arm_keeps (hP.mono (by decide)) ?_
    | with_reducible refine State.setCore_keeps (hP.mono (by decide)) ?_
    | with_reducible refine ite_keeps ?_ ?_
    | split

theorem State.tWin_keeps (hP : Keeps 0x200280834 P) {s : State} (h : P s)  {c : ℕ} {tgt : ℕ} {x : TArg} :
    P (State.tWin s c tgt x) := by
  unfold State.tWin
  repeat' first
    | with_reducible assumption
    | with_reducible refine State.tCommand_keeps (hP.mono (by decide)) ?_

end Sys2Proof.Machine
end

