-- ==== Sys2Proof/Laws/KeepsReedStep.lean ====
section
/-!
SUPPORT. What the operations of Machine/ReedStep.lean may change.
-/
namespace Sys2Proof.Machine

variable {P : State → Prop}

theorem State.reedOp_keeps (hP : Keeps 0x200280834 P) {s : State} (h : P s)  {x1 : Instr} :
    P (State.reedOp s x1) := by
  unfold State.reedOp
  repeat' first
    | with_reducible assumption
    | with_reducible refine State.dNop_keeps (hP.mono (by decide)) ?_
    | with_reducible refine State.dAdd_keeps (hP.mono (by decide)) ?_
    | with_reducible refine State.dSub_keeps (hP.mono (by decide)) ?_
    | with_reducible refine State.dAdds_keeps (hP.mono (by decide)) ?_
    | with_reducible refine State.dSubs_keeps (hP.mono (by decide)) ?_
    | with_reducible refine State.dAnd_keeps (hP.mono (by decide)) ?_
    | with_reducible refine State.dOr_keeps (hP.mono (by decide)) ?_
    | with_reducible refine State.dXor_keeps (hP.mono (by decide)) ?_
    | with_reducible refine State.dShl_keeps (hP.mono (by decide)) ?_
    | with_reducible refine State.dShr_keeps (hP.mono (by decide)) ?_
    | with_reducible refine State.dSar_keeps (hP.mono (by decide)) ?_
    | with_reducible refine State.dMin_keeps (hP.mono (by decide)) ?_
    | with_reducible refine State.dMax_keeps (hP.mono (by decide)) ?_
    | with_reducible refine State.dCmp_keeps (hP.mono (by decide)) ?_
    | with_reducible refine State.dMul_keeps (hP.mono (by decide)) ?_
    | with_reducible refine State.dAddi_keeps (hP.mono (by decide)) ?_
    | with_reducible refine State.dShli_keeps (hP.mono (by decide)) ?_
    | with_reducible refine State.dShri_keeps (hP.mono (by decide)) ?_
    | with_reducible refine State.dSari_keeps (hP.mono (by decide)) ?_
    | with_reducible refine State.dCmpi_keeps (hP.mono (by decide)) ?_
    | with_reducible refine State.dAndi_keeps (hP.mono (by decide)) ?_
    | with_reducible refine State.dMov_keeps (hP.mono (by decide)) ?_
    | with_reducible refine State.dModp_keeps (hP.mono (by decide)) ?_
    | with_reducible refine State.dExp_keeps (hP.mono (by decide)) ?_
    | with_reducible refine State.dNorm_keeps (hP.mono (by decide)) ?_
    | with_reducible refine State.dShc_keeps (hP.mono (by decide)) ?_
    | with_reducible refine State.dLdW_keeps (hP.mono (by decide)) ?_
    | with_reducible refine State.dLdH_keeps (hP.mono (by decide)) ?_
    | with_reducible refine State.dLdHu_keeps (hP.mono (by decide)) ?_
    | with_reducible refine State.dStW_keeps (hP.mono (by decide)) ?_
    | with_reducible refine State.dStH_keeps (hP.mono (by decide)) ?_
    | with_reducible refine State.dLd2_keeps (hP.mono (by decide)) ?_
    | with_reducible refine State.dLdst_keeps (hP.mono (by decide)) ?_
    | with_reducible refine State.dRddec_keeps (hP.mono (by decide)) ?_
    | with_reducible refine State.dRdft_keeps (hP.mono (by decide)) ?_
    | with_reducible refine State.dCmac_keeps (hP.mono (by decide)) ?_
    | with_reducible refine State.dCmacj_keeps (hP.mono (by decide)) ?_
    | with_reducible refine State.dCmul_keeps (hP.mono (by decide)) ?_
    | with_reducible refine State.dCmulj_keeps (hP.mono (by decide)) ?_
    | with_reducible refine State.dCmsu_keeps (hP.mono (by decide)) ?_
    | with_reducible refine State.dCrnd_keeps (hP.mono (by decide)) ?_
    | with_reducible refine State.dCget_keeps (hP.mono (by decide)) ?_
    | with_reducible refine State.dCput_keeps (hP.mono (by decide)) ?_
    | with_reducible refine State.dCclr_keeps (hP.mono (by decide)) ?_
    | with_reducible refine State.dCadd_keeps (hP.mono (by decide)) ?_
    | with_reducible refine State.dBfly_keeps (hP.mono (by decide)) ?_
    | with_reducible refine State.dBstg_keeps (hP.mono (by decide)) ?_
    | with_reducible refine State.cBr_keeps (hP.mono (by decide)) ?_
    | with_reducible refine State.cBrr_keeps (hP.mono (by decide)) ?_
    | with_reducible refine State.cCall_keeps (hP.mono (by decide)) ?_
    | with_reducible refine State.cCallr_keeps (hP.mono (by decide)) ?_
    | with_reducible refine State.cRet_keeps (hP.mono (by decide)) ?_
    | with_reducible refine State.cLoop_keeps (hP.mono (by decide)) ?_
    | with_reducible refine State.cBrk_keeps (hP.mono (by decide)) ?_
    | with_reducible refine State.cReti_keeps (hP.mono (by decide)) ?_
    | with_reducible refine State.cHalt_keeps (hP.mono (by decide)) ?_
    | with_reducible refine State.cSwi_keeps (hP.mono (by decide)) ?_
    | with_reducible refine State.cIen_keeps (hP.mono (by decide)) ?_
    | with_reducible refine State.tTnop_keeps (hP.mono (by decide)) ?_
    | with_reducible refine State.tPlay_keeps (hP.mono (by decide)) ?_
    | with_reducible refine State.tCplay_keeps (hP.mono (by decide)) ?_
    | with_reducible refine State.tFrame_keeps (hP.mono (by decide)) ?_
    | with_reducible refine State.tFramea_keeps (hP.mono (by decide)) ?_
    | with_reducible refine State.tFreq_keeps (hP.mono (by decide)) ?_
    | with_reducible refine State.tFreqp_keeps (hP.mono (by decide)) ?_
    | with_reducible refine State.tAmp_keeps (hP.mono (by decide)) ?_
    | with_reducible refine State.tWin_keeps (hP.mono (by decide)) ?_
    | with_reducible refine State.tMark_keeps (hP.mono (by decide)) ?_
    | with_reducible refine State.tJump_keeps (hP.mono (by decide)) ?_
    | with_reducible refine State.tTrig_keeps (hP.mono (by decide)) ?_
    | with_reducible refine State.tWait_keeps (hP.mono (by decide)) ?_
    | with_reducible refine State.tSync_keeps (hP.mono (by decide)) ?_
    | with_reducible refine State.tFence_keeps (hP.mono (by decide)) ?_
    | split

theorem State.stepBundle_keeps (hP : Keeps 0x200280834 P) {s : State} (h : P s)  {c : Fin 64} :
    P (State.stepBundle s c) := by
  unfold State.stepBundle
  extract_lets a0
  refine have k0 : P a0 := ?_; ?_
  repeat' first
    | with_reducible assumption
    | with_reducible refine State.closeHalf_keeps (hP.mono (by decide)) ?_
    | with_reducible refine State.reedOp_keeps (hP.mono (by decide)) ?_
    | with_reducible refine State.bundleStart_keeps (hP.mono (by decide)) ?_ ?_
    | with_reducible refine State.illegalBundle_keeps (hP.mono (by decide)) ?_
    | with_reducible refine ite_keeps ?_ ?_
    | with_reducible refine foldl_keeps ?_ ?_
    | intro _ _ _
    | intro _ _
    | split

theorem State.coreCtrlWrite_keeps (hP : Keeps 0x200280834 P) {s : State} (h : P s)  {c : Fin 64} {v : Word} :
    P (State.coreCtrlWrite s c v) := by
  unfold State.coreCtrlWrite
  extract_lets a0
  refine have k0 : P a0 := ?_; ?_
  repeat' first
    | with_reducible assumption
    | with_reducible refine State.setFlag_keeps (hP.mono (by decide)) ?_
    | with_reducible refine State.stepBundle_keeps (hP.mono (by decide)) ?_
    | with_reducible refine ite_keeps ?_ ?_

end Sys2Proof.Machine
end

