-- ==== Sys2Proof/Laws/KeepsBusWrite.lean ====
section
/-!
SUPPORT. What the operations of Machine/BusWrite.lean may change.
-/
namespace Sys2Proof.Machine

variable {P : State → Prop}

theorem one_keeps {base off : Nat} {s : State} (h : P s) : KeepsOpt P (one base off s) := by
  unfold one
  split
  · exact some_keeps h
  · exact none_keeps

theorem State.secWrite_keeps (hP : Keeps 0x19f5ce3d9b4 P) {s : State} (h : P s)  {off : ℕ} {v : Word} :
    KeepsOpt P ((State.secWrite s off v)) := by
  unfold State.secWrite
  repeat' first
    | with_reducible assumption
    | with_reducible refine State.secCtrlWrite_keeps (hP.mono (by decide)) ?_
    | with_reducible refine State.when_keeps (hP.mono (by decide)) ?_ ?_
    | with_reducible refine State.reload_keeps (hP.mono (by decide)) ?_
    | with_reducible exact none_keeps
    | with_reducible refine some_keeps ?_
    | with_reducible refine orElse_keeps ?_ ?_
    | with_reducible refine map_keeps (fun _ => ?_)
    | with_reducible refine getD_keeps ?_ ?_
    | with_reducible refine one_keeps ?_
    | intro _ _ _
    | intro _ _

theorem State.setPage_keeps (hP : Keeps 0x20000000000 P) {s : State} (h : P s)  {p : Path} {n : ℕ} :
    P (State.setPage s p n) := by
  unfold State.setPage
  repeat' first
    | with_reducible assumption
    | exact fun hw => SMap.wf_set _ hw _ _
    | with_reducible refine hP.pages (by decide) _ _ ?_ ?_

theorem State.setSnap_keeps (hP : Keeps 0x40000000000 P) {s : State} (h : P s)  {p : Path} {x : Snap} :
    P (State.setSnap s p x) := by
  unfold State.setSnap
  repeat' first
    | with_reducible assumption
    | exact fun hw => SMap.wf_set _ hw _ _
    | with_reducible refine hP.snaps (by decide) _ _ ?_ ?_

theorem State.snapRelease_keeps (hP : Keeps 0x40000000000 P) {s : State} (h : P s)  {p : Path} :
    P (State.snapRelease s p) := by
  unfold State.snapRelease
  extract_lets a0
  all_goals clear_value a0
  repeat' first
    | with_reducible assumption
    | with_reducible refine State.setSnap_keeps (hP.mono (by decide)) ?_

theorem State.snapReq_keeps (hP : Keeps 0x40000000000 P) {s : State} (h : P s)  {p : Path} {mask : ℕ} :
    P (State.snapReq s p mask) := by
  unfold State.snapReq
  extract_lets a0
  all_goals clear_value a0
  repeat' first
    | with_reducible assumption
    | with_reducible refine State.setSnap_keeps (hP.mono (by decide)) ?_
    | with_reducible refine ite_keeps ?_ ?_

theorem State.snapReqWrite_keeps (hP : Keeps 0x40000000000 P) {s : State} (h : P s)  {p : Path} {v : Word} :
    P (State.snapReqWrite s p v) := by
  unfold State.snapReqWrite
  extract_lets a0
  refine have k0 : P a0 := ?_; ?_
  repeat' first
    | with_reducible assumption
    | with_reducible refine State.snapRelease_keeps (hP.mono (by decide)) ?_
    | with_reducible refine State.snapReq_keeps (hP.mono (by decide)) ?_
    | with_reducible refine ite_keeps ?_ ?_

theorem State.glbWrite_keeps (hP : Keeps 0x60000000000 P) {s : State} (h : P s)  {p : Path} {off : ℕ} {v : Word} :
    KeepsOpt P ((State.glbWrite s p off v)) := by
  unfold State.glbWrite
  extract_lets a0
  all_goals clear_value a0
  repeat' first
    | with_reducible assumption
    | with_reducible refine State.setPage_keeps (hP.mono (by decide)) ?_
    | with_reducible refine State.snapReqWrite_keeps (hP.mono (by decide)) ?_
    | with_reducible refine State.setSnap_keeps (hP.mono (by decide)) ?_
    | with_reducible exact none_keeps
    | with_reducible refine some_keeps ?_
    | with_reducible refine orElse_keeps ?_ ?_
    | with_reducible refine map_keeps (fun _ => ?_)
    | with_reducible refine getD_keeps ?_ ?_
    | with_reducible refine one_keeps ?_
    | with_reducible refine ite_keeps ?_ ?_

theorem State.plainWrite_keeps (hP : Keeps 0x4 P) {s : State} (h : P s)  {off : ℕ} {v : Word} :
    P (State.plainWrite s off v) := by
  unfold State.plainWrite
  repeat' first
    | with_reducible assumption
    | with_reducible refine State.setReg_keeps (hP.mono (by decide)) ?_
    | with_reducible refine foldl_keeps ?_ ?_
    | intro _ _ _
    | intro _ _
    | split

theorem State.readoutWrite_keeps (hP : Keeps 0x425840c834 P) {s : State} (h : P s)  {n : ℕ} {off : ℕ} {v : Word} :
    KeepsOpt P ((State.readoutWrite s n off v)) := by
  unfold State.readoutWrite
  repeat' first
    | with_reducible assumption
    | with_reducible refine State.roCtrlWrite_keeps (hP.mono (by decide)) ?_
    | with_reducible refine State.calCfgWrite_keeps (hP.mono (by decide)) ?_
    | with_reducible refine State.fgcalWrite_keeps (hP.mono (by decide)) ?_
    | with_reducible refine State.trkCfgWrite_keeps (hP.mono (by decide)) ?_
    | with_reducible refine State.when_keeps (hP.mono (by decide)) ?_ ?_
    | with_reducible refine State.accClear_keeps (hP.mono (by decide)) ?_
    | with_reducible refine State.trkEstimate_keeps (hP.mono (by decide)) ?_
    | with_reducible refine State.plainWrite_keeps (hP.mono (by decide)) ?_
    | with_reducible exact none_keeps
    | with_reducible refine some_keeps ?_
    | with_reducible refine orElse_keeps ?_ ?_
    | with_reducible refine map_keeps (fun _ => ?_)
    | with_reducible refine getD_keeps ?_ ?_
    | with_reducible refine one_keeps ?_
    | intro _ _ _
    | intro _ _

theorem State.coreWrite_keeps (hP : Keeps 0x200280834 P) {s : State} (h : P s)  {n : ℕ} {off : ℕ} {v : Word} :
    KeepsOpt P ((State.coreWrite s n off v)) := by
  unfold State.coreWrite
  repeat' first
    | with_reducible assumption
    | with_reducible refine State.coreCtrlWrite_keeps (hP.mono (by decide)) ?_
    | with_reducible refine State.plainWrite_keeps (hP.mono (by decide)) ?_
    | with_reducible refine State.mailboxWrite_keeps (hP.mono (by decide)) ?_
    | with_reducible exact none_keeps
    | with_reducible refine some_keeps ?_
    | with_reducible refine orElse_keeps ?_ ?_
    | with_reducible refine map_keeps (fun _ => ?_)
    | with_reducible refine getD_keeps ?_ ?_
    | with_reducible refine one_keeps ?_
    | with_reducible refine ite_keeps ?_ ?_

theorem State.driveWrite_keeps (hP : Keeps 0x20043e834 P) {s : State} (h : P s)  {n : ℕ} {off : ℕ} {v : Word} :
    KeepsOpt P ((State.driveWrite s n off v)) := by
  unfold State.driveWrite
  repeat' first
    | with_reducible assumption
    | with_reducible refine State.drvCtrlWrite_keeps (hP.mono (by decide)) ?_
    | with_reducible refine State.djCfgWrite_keeps (hP.mono (by decide)) ?_
    | with_reducible refine State.sbCfgWrite_keeps (hP.mono (by decide)) ?_
    | with_reducible refine State.sbCtrlWrite_keeps (hP.mono (by decide)) ?_
    | with_reducible refine State.segWrite_keeps (hP.mono (by decide)) ?_
    | with_reducible exact none_keeps
    | with_reducible refine some_keeps ?_
    | with_reducible refine orElse_keeps ?_ ?_
    | with_reducible refine map_keeps (fun _ => ?_)
    | with_reducible refine getD_keeps ?_ ?_
    | with_reducible refine one_keeps ?_

theorem State.poolWrite_keeps (hP : Keeps 0x42586be834 P) {s : State} (h : P s)  {n : ℕ} {off : ℕ} {v : Word} :
    KeepsOpt P ((State.poolWrite s n off v)) := by
  unfold State.poolWrite
  repeat' first
    | with_reducible assumption
    | with_reducible refine State.readoutWrite_keeps (hP.mono (by decide)) ?_
    | with_reducible refine State.flxCtrlWrite_keeps (hP.mono (by decide)) ?_
    | with_reducible refine State.flxAmpWrite_keeps (hP.mono (by decide)) ?_
    | with_reducible refine State.coreWrite_keeps (hP.mono (by decide)) ?_
    | with_reducible refine State.driveWrite_keeps (hP.mono (by decide)) ?_
    | with_reducible refine opt_keeps (by with_reducible assumption) ?_
    | with_reducible refine opt_keeps (by with_reducible assumption) ?_
    | with_reducible refine opt_keeps (by with_reducible assumption) ?_
    | with_reducible exact none_keeps
    | with_reducible refine some_keeps ?_
    | with_reducible refine orElse_keeps ?_ ?_
    | with_reducible refine map_keeps (fun _ => ?_)
    | with_reducible refine getD_keeps ?_ ?_
    | with_reducible refine one_keeps ?_
    | split

theorem State.fenWrite_keeps (hP : Keeps 0x1814 P) {s : State} (h : P s)  {p : Path} {off : ℕ} {v : Word} :
    KeepsOpt P ((State.fenWrite s p off v)) := by
  unfold State.fenWrite
  repeat' first
    | with_reducible assumption
    | with_reducible refine State.loopCfgWrite_keeps (hP.mono (by decide)) ?_
    | with_reducible refine State.swevWrite_keeps (hP.mono (by decide)) ?_
    | with_reducible refine State.fenFlagsWrite_keeps (hP.mono (by decide)) ?_
    | with_reducible refine State.cntWrite_keeps (hP.mono (by decide)) ?_
    | with_reducible refine State.chWrite_keeps (hP.mono (by decide)) ?_
    | with_reducible refine State.tiWrite_keeps (hP.mono (by decide)) ?_
    | with_reducible refine State.tiCountWrite_keeps (hP.mono (by decide)) ?_
    | with_reducible refine State.dnCtrlWrite_keeps (hP.mono (by decide)) ?_
    | with_reducible exact none_keeps
    | with_reducible refine some_keeps ?_
    | with_reducible refine orElse_keeps ?_ ?_
    | with_reducible refine map_keeps (fun _ => ?_)
    | with_reducible refine getD_keeps ?_ ?_
    | with_reducible refine one_keeps ?_

theorem State.cwWrite_keeps (hP : Keeps 0x28018b4 P) {s : State} (h : P s)  {off : ℕ} {v : Word} :
    KeepsOpt P ((State.cwWrite s off v)) := by
  unfold State.cwWrite
  repeat' first
    | with_reducible assumption
    | with_reducible refine State.cwCtrlWrite_keeps (hP.mono (by decide)) ?_
    | with_reducible refine State.rdyUpdate_keeps (hP.mono (by decide)) ?_
    | with_reducible refine State.plainWrite_keeps (hP.mono (by decide)) ?_
    | with_reducible refine State.cwPortCtrlWrite_keeps (hP.mono (by decide)) ?_
    | with_reducible exact none_keeps
    | with_reducible refine some_keeps ?_
    | with_reducible refine orElse_keeps ?_ ?_
    | with_reducible refine map_keeps (fun _ => ?_)
    | with_reducible refine getD_keeps ?_ ?_
    | with_reducible refine one_keeps ?_

theorem State.ringWrite_keeps (hP : Keeps 0xc00000814 P) {s : State} (h : P s)  {p : ℕ} {r : ℕ} {off : ℕ} {v : Word} :
    KeepsOpt P ((State.ringWrite s p r off v)) := by
  unfold State.ringWrite
  repeat' first
    | with_reducible assumption
    | with_reducible refine State.sqShapeWrite_keeps (hP.mono (by decide)) ?_
    | with_reducible refine State.sqCtrlWrite_keeps (hP.mono (by decide)) ?_
    | with_reducible refine State.cqShapeWrite_keeps (hP.mono (by decide)) ?_
    | with_reducible refine State.cqCtrlWrite_keeps (hP.mono (by decide)) ?_
    | with_reducible exact none_keeps
    | with_reducible refine some_keeps ?_
    | with_reducible refine orElse_keeps ?_ ?_
    | with_reducible refine map_keeps (fun _ => ?_)
    | with_reducible refine getD_keeps ?_ ?_
    | with_reducible refine one_keeps ?_

theorem State.bwWrite_keeps (hP : Keeps 0x1e5861c834 P) {s : State} (h : P s)  {off : ℕ} {v : Word} :
    KeepsOpt P ((State.bwWrite s off v)) := by
  unfold State.bwWrite
  extract_lets a0
  all_goals clear_value a0
  repeat' first
    | with_reducible assumption
    | with_reducible refine State.ownerWrite_keeps (hP.mono (by decide)) ?_
    | with_reducible refine State.partCtrlWrite_keeps (hP.mono (by decide)) ?_
    | with_reducible refine State.ringWrite_keeps (hP.mono (by decide)) ?_
    | with_reducible refine opt_keeps (by with_reducible assumption) ?_
    | with_reducible exact none_keeps
    | with_reducible refine some_keeps ?_
    | with_reducible refine orElse_keeps ?_ ?_
    | with_reducible refine map_keeps (fun _ => ?_)
    | with_reducible refine getD_keeps ?_ ?_
    | with_reducible refine one_keeps ?_
    | with_reducible refine ite_keeps ?_ ?_
    | split

theorem State.icWrite_keeps (hP : Keeps 0x814 P) {s : State} (h : P s)  {off : ℕ} {v : Word} :
    KeepsOpt P ((State.icWrite s off v)) := by
  unfold State.icWrite
  repeat' first
    | with_reducible assumption
    | with_reducible refine State.icCfgWrite_keeps (hP.mono (by decide)) ?_
    | with_reducible refine State.icGateWrite_keeps (hP.mono (by decide)) ?_
    | with_reducible refine State.icEoi_keeps (hP.mono (by decide)) ?_
    | with_reducible refine State.icMaskWrite_keeps (hP.mono (by decide)) ?_
    | with_reducible refine State.icMaskAlias_keeps (hP.mono (by decide)) ?_
    | with_reducible refine State.icPendWrite_keeps (hP.mono (by decide)) ?_
    | with_reducible exact none_keeps
    | with_reducible refine some_keeps ?_
    | with_reducible refine orElse_keeps ?_ ?_
    | with_reducible refine map_keeps (fun _ => ?_)
    | with_reducible refine getD_keeps ?_ ?_
    | with_reducible refine one_keeps ?_

theorem State.tmWrite_keeps (hP : Keeps 0x1ab4 P) {s : State} (h : P s)  {off : ℕ} {v : Word} :
    KeepsOpt P ((State.tmWrite s off v)) := by
  unfold State.tmWrite
  repeat' first
    | with_reducible assumption
    | with_reducible refine State.tmCtrlWrite_keeps (hP.mono (by decide)) ?_
    | with_reducible refine State.tpoCtrlWrite_keeps (hP.mono (by decide)) ?_
    | with_reducible refine State.asymWrite_keeps (hP.mono (by decide)) ?_
    | with_reducible exact none_keeps
    | with_reducible refine some_keeps ?_
    | with_reducible refine orElse_keeps ?_ ?_
    | with_reducible refine map_keeps (fun _ => ?_)
    | with_reducible refine getD_keeps ?_ ?_
    | with_reducible refine one_keeps ?_

theorem State.sluWrite_keeps (hP : Keeps 0x180000814 P) {s : State} (h : P s)  {off : ℕ} {v : Word} :
    KeepsOpt P ((State.sluWrite s off v)) := by
  unfold State.sluWrite
  repeat' first
    | with_reducible assumption
    | with_reducible refine State.sluCtrlWrite_keeps (hP.mono (by decide)) ?_
    | with_reducible refine State.when_keeps (hP.mono (by decide)) ?_ ?_
    | with_reducible refine State.strobe_keeps (hP.mono (by decide)) ?_
    | with_reducible refine State.chCfgWrite_keeps (hP.mono (by decide)) ?_
    | with_reducible refine State.slewWrite_keeps (hP.mono (by decide)) ?_
    | with_reducible refine State.rangeWrite_keeps (hP.mono (by decide)) ?_
    | with_reducible refine State.chStatusWrite_keeps (hP.mono (by decide)) ?_
    | with_reducible exact none_keeps
    | with_reducible refine some_keeps ?_
    | with_reducible refine orElse_keeps ?_ ?_
    | with_reducible refine map_keeps (fun _ => ?_)
    | with_reducible refine getD_keeps ?_ ?_
    | with_reducible refine one_keeps ?_
    | intro _ _ _
    | intro _ _

theorem State.dpwWrite_keeps (hP : Keeps 0x100000814 P) {s : State} (h : P s)  {off : ℕ} {v : Word} :
    KeepsOpt P ((State.dpwWrite s off v)) := by
  unfold State.dpwWrite
  repeat' first
    | with_reducible assumption
    | with_reducible refine State.dpwCtrlWrite_keeps (hP.mono (by decide)) ?_
    | with_reducible refine State.injWrite_keeps (hP.mono (by decide)) ?_
    | with_reducible refine State.calWrite_keeps (hP.mono (by decide)) ?_
    | with_reducible refine State.when_keeps (hP.mono (by decide)) ?_ ?_
    | with_reducible refine State.dpwAccClear_keeps (hP.mono (by decide)) ?_
    | with_reducible exact none_keeps
    | with_reducible refine some_keeps ?_
    | with_reducible refine orElse_keeps ?_ ?_
    | with_reducible refine map_keeps (fun _ => ?_)
    | with_reducible refine getD_keeps ?_ ?_
    | with_reducible refine one_keeps ?_
    | intro _ _ _
    | intro _ _

theorem State.pmWrite_keeps (hP : Keeps 0x17dffffffffc P) {s : State} (h : P s)  {p : Path} {off : ℕ} {v : Word} :
    KeepsOpt P ((State.pmWrite s p off v)) := by
  unfold State.pmWrite
  repeat' first
    | with_reducible assumption
    | with_reducible refine State.when_keeps (hP.mono (by decide)) ?_ ?_
    | with_reducible refine State.modeRequest_keeps (hP.mono (by decide)) ?_
    | with_reducible refine State.keepOffWrite_keeps (hP.mono (by decide)) ?_
    | with_reducible refine State.pmResetWrite_keeps (hP.mono (by decide)) ?_
    | with_reducible refine State.unitResetWrite_keeps (hP.mono (by decide)) ?_
    | with_reducible refine State.causeWrite_keeps (hP.mono (by decide)) ?_
    | with_reducible refine State.ilkCfgWrite_keeps (hP.mono (by decide)) ?_
    | with_reducible refine State.ilkStatusWrite_keeps (hP.mono (by decide)) ?_
    | with_reducible refine State.thermCfgWrite_keeps (hP.mono (by decide)) ?_
    | with_reducible refine State.gtCtrlWrite_keeps (hP.mono (by decide)) ?_
    | with_reducible refine State.gtPeriodWrite_keeps (hP.mono (by decide)) ?_
    | with_reducible refine State.gpioWrite_keeps (hP.mono (by decide)) ?_
    | with_reducible exact none_keeps
    | with_reducible refine some_keeps ?_
    | with_reducible refine orElse_keeps ?_ ?_
    | with_reducible refine map_keeps (fun _ => ?_)
    | with_reducible refine getD_keeps ?_ ?_
    | with_reducible refine one_keeps ?_
    | intro _ _ _
    | intro _ _

theorem State.ownWrite_keeps (hP : Keeps 0x17dffffffffc P) {s : State} (h : P s)  {p : Path} {off : ℕ} {v : Word} :
    KeepsOpt P ((State.ownWrite s p off v)) := by
  unfold State.ownWrite
  split
  · exact State.glbWrite_keeps (hP.mono (by decide)) h
  split
  · exact State.poolWrite_keeps (hP.mono (by decide)) h
  split
  · exact orElse_keeps (one_keeps (State.sdgCtrlWrite_keeps (hP.mono (by decide)) h))
      (one_keeps (State.when_keeps (hP.mono (by decide)) h
        fun _ hy => State.sdgUntrustedClear_keeps (hP.mono (by decide)) hy))
  · exact State.fenWrite_keeps (hP.mono (by decide)) h
  · exact State.cwWrite_keeps (hP.mono (by decide)) h
  · exact State.bwWrite_keeps (hP.mono (by decide)) h
  · exact State.icWrite_keeps (hP.mono (by decide)) h
  · exact State.tmWrite_keeps (hP.mono (by decide)) h
  · exact State.sluWrite_keeps (hP.mono (by decide)) h
  · exact State.dpwWrite_keeps (hP.mono (by decide)) h
  · exact State.secWrite_keeps (hP.mono (by decide)) h
  · exact State.pmWrite_keeps (hP.mono (by decide)) h
  · exact none_keeps

theorem State.unitWrite_keeps (hP : Keeps 0x17dffffffffc P) {s : State} (h : P s)  {p : Path} {off : ℕ} {v : Word} :
    P (State.unitWrite s p off v) := by
  unfold State.unitWrite
  repeat' first
    | with_reducible assumption
    | with_reducible refine State.ownWrite_keeps (hP.mono (by decide)) ?_
    | with_reducible refine State.plainWrite_keeps (hP.mono (by decide)) ?_
    | with_reducible refine opt_keeps (by with_reducible assumption) ?_
    | with_reducible exact none_keeps
    | with_reducible refine some_keeps ?_
    | with_reducible refine orElse_keeps ?_ ?_
    | with_reducible refine map_keeps (fun _ => ?_)
    | with_reducible refine getD_keeps ?_ ?_

theorem State.windowStore_keeps (hP : Keeps 0x1c0000 P) {s : State} (h : P s)  {n : ℕ} {w : ℕ} {bytes : List Byte} :
    P (State.windowStore s n w bytes) := by
  unfold State.windowStore
  split
  · exact hP.peat (by decide) s _ h (fun hw => Memory.wf_writeBytes hw _ _)
  · split
    · exact h
    · exact hP.imem (by decide) s _ h (fun hw => imemWrite_wf hw _ _)
  · exact hP.dmem (by decide) s _ h (fun hw => Memory.wf_writeBytes hw _ _)
  · exact h

theorem State.windowWrite_keeps (hP : Keeps 0x1c0814 P) {s : State} (h : P s)  {p : Path} {w : ℕ} {bytes : List Byte} :
    P (State.windowWrite s p w bytes) := by
  unfold State.windowWrite
  repeat' first
    | with_reducible assumption
    | with_reducible refine State.when_keeps (hP.mono (by decide)) ?_ ?_
    | with_reducible refine State.accessErr_keeps (hP.mono (by decide)) ?_
    | with_reducible refine State.secLog_keeps (hP.mono (by decide)) ?_
    | with_reducible refine State.windowStore_keeps (hP.mono (by decide)) ?_
    | with_reducible refine ite_keeps ?_ ?_
    | intro _ _ _
    | intro _ _

theorem State.windowRead_keeps (hP : Keeps 0x814 P) {s : State} (h : P s)  {p : Path} {w : ℕ} {size : ℕ} :
    P ((State.windowRead s p w size).1) := by
  unfold State.windowRead
  extract_lets a0
  all_goals clear_value a0
  repeat' first
    | with_reducible assumption
    | with_reducible refine State.when_keeps (hP.mono (by decide)) ?_ ?_
    | with_reducible refine State.accessErr_keeps (hP.mono (by decide)) ?_
    | with_reducible refine State.secLog_keeps (hP.mono (by decide)) ?_
    | with_reducible refine ite_keeps ?_ ?_
    | intro _ _ _
    | intro _ _
    | split

theorem State.busWrite_keeps (hP : Keeps 0x17dffffffffc P) {s : State} (h : P s)  {p : Path} {off : ℕ} {v : Word} :
    P (State.busWrite s p off v) := by
  unfold State.busWrite
  repeat' first
    | with_reducible assumption
    | with_reducible refine State.when_keeps (hP.mono (by decide)) ?_ ?_
    | with_reducible refine State.accessErr_keeps (hP.mono (by decide)) ?_
    | with_reducible refine State.windowWrite_keeps (hP.mono (by decide)) ?_
    | with_reducible refine State.viaBus_keeps (hP.mono (by decide)) ?_ ?_
    | with_reducible refine State.unitWrite_keeps (hP.mono (by decide)) ?_
    | with_reducible refine ite_keeps ?_ ?_
    | intro _ _ _
    | intro _ _

end Sys2Proof.Machine
end

