-- ==== Sys2Proof/Laws/KeepsBus.lean ====
section
/-!
SUPPORT. What the operations of Machine/Bus.lean may change.
-/
namespace Sys2Proof.Machine

variable {P : State → Prop}

theorem State.windowAccess_keeps (hP : Keeps 0x1c0814 P) {s : State} (h : P s)  {p : Path} {w : ℕ} {x3 : WindowAccess} :
    P (State.windowAccess s p w x3) := by
  unfold State.windowAccess
  repeat' first
    | with_reducible assumption
    | with_reducible refine State.windowWrite_keeps (hP.mono (by decide)) ?_
    | with_reducible refine State.windowRead_keeps (hP.mono (by decide)) ?_
    | with_reducible refine State.emit_keeps (hP.mono (by decide)) ?_
    | with_reducible refine fst_keeps (by with_reducible assumption) ?_
    | split

theorem State.param_keeps (hP : Keeps 0x17dffffffffc P) {s : State} (h : P s)  {p : Fin 4} {r : ℕ} :
    P (State.param s p r) := by
  unfold State.param
  repeat' first
    | with_reducible assumption
    | with_reducible refine State.busWrite_keeps (hP.mono (by decide)) ?_
    | with_reducible refine State.finishOk_keeps (hP.mono (by decide)) ?_
    | with_reducible refine State.setReg64_keeps (hP.mono (by decide)) ?_
    | with_reducible refine ite_keeps ?_ ?_
    | with_reducible refine forRange_keeps ?_ ?_
    | intro _ _ _
    | intro _ _
    | split

theorem State.badAccess_keeps (hP : Keeps 0x14 P) {s : State} (h : P s)  {p : Path} {off : ℕ} {write : Bool} :
    P (State.badAccess s p off write) := by
  unfold State.badAccess
  extract_lets a0
  refine have k0 : P a0 := ?_; ?_
  repeat' first
    | with_reducible assumption
    | with_reducible refine State.when_keeps (hP.mono (by decide)) ?_ ?_
    | with_reducible refine State.accessErr_keeps (hP.mono (by decide)) ?_
    | with_reducible refine State.emit_keeps (hP.mono (by decide)) ?_
    | with_reducible refine ite_keeps ?_ ?_
    | intro _ _ _
    | intro _ _

end Sys2Proof.Machine
end

