-- ==== Sys2Proof/Laws/KeepsBusRead.lean ====
section
/-!
SUPPORT. What the operations of Machine/BusRead.lean may change.
-/
namespace Sys2Proof.Machine

variable {P : State → Prop}

theorem State.openRead_keeps (hP : Keeps 0x40 P) {s : State} (h : P s) {off : Nat} :
    ∀ r, s.openRead off = some r → P r.1 := by
  unfold State.openRead
  intro r
  dsimp only
  split
  · split
    · split
      · exact fun e => Option.some.inj e ▸ State.draw_keeps (hP.mono (by decide)) h
      · exact nofun
    · exact nofun
  · split
    · split
      · exact fun e => Option.some.inj e ▸ State.draw_keeps (hP.mono (by decide)) h
      · exact nofun
    · exact nofun

theorem State.latchAll_keeps (hP : Keeps 0x8 P) {s : State} (h : P s)  {p : Path} {off : ℕ} :
    P (State.latchAll s p off) := by
  unfold State.latchAll
  extract_lets a0
  refine have k0 : P a0 := ?_; ?_
  repeat' first
    | with_reducible assumption
    | with_reducible refine State.setLatch_keeps (hP.mono (by decide)) ?_
    | with_reducible refine State.setLatchOnce_keeps (hP.mono (by decide)) ?_
    | with_reducible refine foldl_keeps ?_ ?_
    | intro _ _ _

theorem State.onceRead_keeps (hP : Keeps 0x8 P) {s : State} (h : P s)  {p : Path} {off : ℕ} :
    P ((State.onceRead s p off).1) := by
  unfold State.onceRead
  repeat' first
    | with_reducible assumption
    | with_reducible refine State.setLatch_keeps (hP.mono (by decide)) ?_
    | with_reducible refine ite_keeps ?_ ?_
    | split

theorem State.readSync_keeps (hP : Keeps 0x200020834 P) {s : State} (h : P s)  {off : ℕ} :
    P (State.readSync s off) := by
  unfold State.readSync
  repeat' first
    | with_reducible assumption
    | with_reducible refine State.fluxAdvance_keeps (hP.mono (by decide)) ?_
    | with_reducible refine ite_keeps ?_ ?_
    | with_reducible refine forRange_keeps ?_ ?_
    | intro _ _ _

theorem State.liveRead_keeps (hP : Keeps 0xc9c P) {s : State} (h : P s)  {p : Path} {off : ℕ} :
    P ((State.liveRead s p off).1) := by
  unfold State.liveRead
  repeat' first
    | with_reducible assumption
    | with_reducible refine State.ppsRead_keeps (hP.mono (by decide)) ?_
    | with_reducible refine State.sumRead_keeps (hP.mono (by decide)) ?_
    | with_reducible refine State.onceRead_keeps (hP.mono (by decide)) ?_
    | with_reducible refine State.latchAll_keeps (hP.mono (by decide)) ?_
    | with_reducible refine fst_keeps (by with_reducible assumption) ?_
    | with_reducible refine ite_keeps ?_ ?_
    | split

theorem State.regRead_keeps (hP : Keeps 0x200020cfc P) {s : State} (h : P s)  {p : Path} {off : ℕ} :
    P ((State.regRead s p off).1) := by
  unfold State.regRead
  split
  · exact h
  split
  · exact h
  have h' : P (s.readSync off) := State.readSync_keeps (hP.mono (by decide)) h
  dsimp only
  split
  · exact State.openRead_keeps (hP.mono (by decide)) h' _ (by assumption)
  · exact State.liveRead_keeps (hP.mono (by decide)) h'

theorem State.snapCapture_keeps (hP : Keeps 0x40000000000 P) {s : State} (h : P s)  {p : Path} :
    P (State.snapCapture s p) := by
  unfold State.snapCapture
  extract_lets a0 a1
  all_goals clear_value a0 a1
  repeat' first
    | with_reducible assumption
    | with_reducible refine State.setSnap_keeps (hP.mono (by decide)) ?_
    | with_reducible refine ite_keeps ?_ ?_

theorem State.busRead_keeps (hP : Keeps 0x200020cfc P) {s : State} (h : P s)  {p : Path} {off : ℕ} :
    P ((State.busRead s p off).1) := by
  have hw : ∀ r : State × List Byte, P r.1 → P (let q := r; (q.1, w32 (leNat q.2))).1 := fun _ hr => hr
  unfold State.busRead
  by_cases h1 : (off % 4 != 0) = true
  · rw [if_pos h1]
    exact State.when_keeps (hP.mono (by decide)) h fun _ hy => State.accessErr_keeps (hP.mono (by decide)) hy
  rw [if_neg h1]
  by_cases h2 : (windowBase ≤ off && off < 0x4000000) = true
  · rw [if_pos h2]
    exact hw _ (State.windowRead_keeps (hP.mono (by decide)) h)
  rw [if_neg h2]
  by_cases h3 : off < 0x3000000
  · rw [if_pos h3]
    exact State.regRead_keeps (hP.mono (by decide)) h
  · rw [if_neg h3]
    exact h

theorem State.readOut_keeps (hP : Keeps 0x200020cfc P) {s : State} (h : P s)  {p : Path} {off : ℕ} :
    P (State.readOut s p off) := by
  unfold State.readOut
  extract_lets a0
  refine have k0 : P a0.1 := ?_; ?_
  repeat' first
    | with_reducible assumption
    | with_reducible refine State.busRead_keeps (hP.mono (by decide)) ?_
    | with_reducible refine State.emit_keeps (hP.mono (by decide)) ?_

end Sys2Proof.Machine
end

