-- ==== Sys2Proof/Laws/KeepsHostRun.lean ====
section
/-!
SUPPORT. What the operations of Machine/HostRun.lean may change.
-/
namespace Sys2Proof.Machine

variable {P : State → Prop}

theorem State.runDesc_keeps (hP : Keeps 0x600000814 P) {s : State} (h : P s)  {p : ℕ} {r : ℕ} :
    P (State.runDesc s p r) := by
  unfold State.runDesc
  repeat' first
    | with_reducible assumption
    | with_reducible refine State.refuse_keeps (hP.mono (by decide)) ?_
    | with_reducible refine State.setPhase_keeps (hP.mono (by decide)) ?_
    | split
    | extract_lets
    | with_reducible refine hP.runs (by decide) _ _ ?_

theorem State.runRefused_keeps (hP : Keeps 0x600000814 P) {s : State} (h : P s)  {x : Run} {why : ℕ} :
    P (State.runRefused s x why) := by
  unfold State.runRefused
  repeat' first
    | with_reducible assumption
    | with_reducible refine State.refuse_keeps (hP.mono (by decide)) ?_
    | with_reducible refine hP.runs (by decide) _ _ ?_

theorem State.runsDone_keeps (hP : Keeps 0x65c83d9b4 P) {s : State} (h : P s) :
    P (State.runsDone s) := by
  unfold State.runsDone
  repeat' first
    | with_reducible assumption
    | with_reducible refine State.enterMode_keeps (hP.mono (by decide)) ?_
    | with_reducible refine ite_keeps ?_ ?_

theorem State.runPoolStart_keeps (hP : Keeps 0x8004004 P) {s : State} (h : P s)  {n : ℕ} :
    P (State.runPoolStart s n) := by
  unfold State.runPoolStart
  extract_lets a0 a1 a2 a3
  refine have k0 : P a0 := ?_; have k1 : P a1 := ?_; have k2 : P a2 := ?_; have k3 : P a3 := ?_; ?_
  repeat' first
    | with_reducible assumption
    | with_reducible refine State.slotsReset_keeps (hP.mono (by decide)) ?_
    | with_reducible refine State.setReg_keeps (hP.mono (by decide)) ?_
    | with_reducible refine State.setReg64_keeps (hP.mono (by decide)) ?_
    | with_reducible refine State.setChain_keeps (hP.mono (by decide)) ?_
    | with_reducible refine State.setTone_keeps (hP.mono (by decide)) ?_
    | with_reducible refine forRange_keeps ?_ ?_
    | intro _ _ _

theorem State.runStart_keeps (hP : Keeps 0x208205004 P) {s : State} (h : P s)  {p : ℕ} {r : ℕ} :
    P (State.runStart s p r) := by
  unfold State.runStart
  repeat' first
    | with_reducible assumption
    | with_reducible refine State.runPoolStart_keeps (hP.mono (by decide)) ?_
    | with_reducible refine State.coreStart_keeps (hP.mono (by decide)) ?_
    | with_reducible refine State.fire_keeps (hP.mono (by decide)) ?_
    | with_reducible refine State.setRun_keeps (hP.mono (by decide)) ?_
    | with_reducible refine ite_keeps ?_ ?_
    | with_reducible refine foldl_keeps ?_ ?_
    | with_reducible refine forRange_keeps ?_ ?_
    | intro _ _ _
    | intro _ _
    | split

theorem State.runReady_keeps (hP : Keeps 0x165c83d9b4 P) {s : State} (h : P s)  {p : ℕ} {r : ℕ} :
    P (State.runReady s p r) := by
  unfold State.runReady
  repeat' first
    | with_reducible assumption
    | with_reducible refine State.runRefused_keeps (hP.mono (by decide)) ?_
    | with_reducible refine State.setRun_keeps (hP.mono (by decide)) ?_
    | with_reducible refine State.when_keeps (hP.mono (by decide)) ?_ ?_
    | with_reducible refine State.nextBuffer_keeps (hP.mono (by decide)) ?_
    | with_reducible refine State.enterMode_keeps (hP.mono (by decide)) ?_
    | with_reducible refine ite_keeps ?_ ?_
    | intro _ _ _
    | intro _ _
    | split

theorem State.runComplete_keeps (hP : Keeps 0x165c83d9b4 P) {s : State} (h : P s)  {p : ℕ} {r : ℕ} :
    P (State.runComplete s p r) := by
  unfold State.runComplete
  repeat' first
    | with_reducible assumption
    | with_reducible refine State.runsDone_keeps (hP.mono (by decide)) ?_
    | with_reducible refine State.runFinish_keeps (hP.mono (by decide)) ?_
    | with_reducible refine ite_keeps ?_ ?_
    | split

end Sys2Proof.Machine
end

