-- ==== Sys2Proof/Laws/KeepsPins.lean ====
section
/-!
SUPPORT. What the operations of Machine/Pins.lean may change.
-/
namespace Sys2Proof.Machine

variable {P : State → Prop}

theorem State.jtagIr_keeps (hP : Keeps 0x80000000000 P) {s : State} (h : P s)  {i : JtagIr} :
    P (State.jtagIr s i) := by
  unfold State.jtagIr
  extract_lets a0
  all_goals clear_value a0
  repeat' first
    | with_reducible assumption
    | extract_lets
    | with_reducible refine hP.jtag (by decide) _ _ ?_

theorem State.spiBusy_keeps (hP : Keeps 0x100000000000 P) {s : State} (h : P s)  {busy : Bool} :
    P ((State.spiBusy s busy).2) := by
  unfold State.spiBusy
  extract_lets a0 a1
  all_goals clear_value a0 a1
  repeat' first
    | with_reducible assumption
    | extract_lets
    | with_reducible refine hP.spi (by decide) _ _ ?_

theorem State.spiErr_keeps (hP : Keeps 0x100000000000 P) {s : State} (h : P s) :
    P (State.spiErr s) := by
  unfold State.spiErr
  extract_lets a0
  all_goals clear_value a0
  repeat' first
    | with_reducible assumption
    | extract_lets
    | with_reducible refine hP.spi (by decide) _ _ ?_

theorem State.spiWords_keeps (hP : Keeps 0x17dffffffffc P) {s : State} (h : P s)  {off : ℕ} {x2 : List Word} :
    P (State.spiWords s off x2) := by
  induction x2 generalizing s off with
  | nil => exact h
  | cons w ws ih => exact ih (State.busWrite_keeps (hP.mono (by decide)) h)

theorem State.spiWrite_keeps (hP : Keeps 0x17dffffffffc P) {s : State} (h : P s)  {cmd : Byte} {off : ℕ} {data : List Byte} {busy : Bool} :
    P (State.spiWrite s cmd off data busy) := by
  unfold State.spiWrite
  repeat' first
    | with_reducible assumption
    | with_reducible refine State.spiBusy_keeps (hP.mono (by decide)) ?_
    | with_reducible refine State.spiErr_keeps (hP.mono (by decide)) ?_
    | with_reducible refine State.when_keeps (hP.mono (by decide)) ?_ ?_
    | with_reducible refine State.accessErr_keeps (hP.mono (by decide)) ?_
    | with_reducible refine State.spiWords_keeps (hP.mono (by decide)) ?_
    | with_reducible refine snd_keeps (by with_reducible assumption) ?_
    | with_reducible refine ite_keeps ?_ ?_
    | intro _ _ _
    | intro _ _
    | split
    | extract_lets
    | with_reducible refine hP.spi (by decide) _ _ ?_

theorem State.spiFetch_keeps (hP : Keeps 0x200020cfc P) {s : State} (h : P s)  {off : ℕ} {x2 : ℕ} :
    P (State.spiFetch s off x2) := by
  induction x2 generalizing s off with
  | zero => exact h
  | succ n ih => exact ih (State.readOut_keeps (hP.mono (by decide)) h)

theorem State.spiRead_keeps (hP : Keeps 0x100200020cfc P) {s : State} (h : P s)  {off : ℕ} {words : ℕ} {busy : Bool} :
    P (State.spiRead s off words busy) := by
  unfold State.spiRead
  repeat' first
    | with_reducible assumption
    | with_reducible refine State.spiBusy_keeps (hP.mono (by decide)) ?_
    | with_reducible refine State.spiErr_keeps (hP.mono (by decide)) ?_
    | with_reducible refine State.when_keeps (hP.mono (by decide)) ?_ ?_
    | with_reducible refine State.accessErr_keeps (hP.mono (by decide)) ?_
    | with_reducible refine State.spiFetch_keeps (hP.mono (by decide)) ?_
    | with_reducible refine snd_keeps (by with_reducible assumption) ?_
    | with_reducible refine ite_keeps ?_ ?_
    | intro _ _ _
    | intro _ _

theorem State.spiStatus_keeps (hP : Keeps 0x100000000010 P) {s : State} (h : P s)  {busy : Bool} :
    P (State.spiStatus s busy) := by
  unfold State.spiStatus
  repeat' first
    | with_reducible assumption
    | with_reducible refine State.spiBusy_keeps (hP.mono (by decide)) ?_
    | with_reducible refine State.emit_keeps (hP.mono (by decide)) ?_
    | with_reducible refine snd_keeps (by with_reducible assumption) ?_
    | with_reducible refine ite_keeps ?_ ?_
    | split
    | extract_lets
    | with_reducible refine hP.spi (by decide) _ _ ?_

theorem State.boundaryScan_keeps (hP : Keeps 0x80000000010 P) {s : State} (h : P s)  {captured : List Bool} {shifted : List Bool} :
    P (State.boundaryScan s captured shifted) := by
  unfold State.boundaryScan
  extract_lets a0 a1
  refine have k0 : P a0 := ?_; ?_
  all_goals clear_value a1
  repeat' first
    | with_reducible assumption
    | with_reducible refine State.emit_keeps (hP.mono (by decide)) ?_
    | extract_lets
    | unfold a0
    | with_reducible refine hP.jtag (by decide) _ _ ?_

theorem State.driveBalls_keeps (hP : Keeps 0x10 P) {s : State} (h : P s) :
    P (State.driveBalls s) := by
  unfold State.driveBalls
  repeat' first
    | with_reducible assumption
    | with_reducible refine State.emit_keeps (hP.mono (by decide)) ?_

theorem State.bypassScan_keeps (hP : Keeps 0x10 P) {s : State} (h : P s)  {shifted : List Bool} :
    P (State.bypassScan s shifted) := by
  unfold State.bypassScan
  repeat' first
    | with_reducible assumption
    | with_reducible refine State.emit_keeps (hP.mono (by decide)) ?_

end Sys2Proof.Machine
end

