-- ==== Sys2Proof/Laws/KeepsRemote.lean ====
section
/-!
SUPPORT. What the operations of Machine/Remote.lean may change.
-/
namespace Sys2Proof.Machine

variable {P : State → Prop}

theorem State.respond_keeps (hP : Keeps 0x800014 P) {s : State} (h : P s)  {p : ℕ} {src : ℕ} {loc : Bool} {data : Word} {tag : ℕ} {status : ℕ} :
    P (State.respond s p src loc data tag status) := by
  unfold State.respond
  repeat' first
    | with_reducible assumption
    | with_reducible refine State.queueFlit_keeps (hP.mono (by decide)) ?_
    | with_reducible refine State.sendPacket_keeps (hP.mono (by decide)) ?_
    | with_reducible refine ite_keeps ?_ ?_

theorem State.blockHead_keeps (hP : Keeps 0x800014 P) {s : State} (h : P s)  {p : ℕ} {f : Flit} :
    P (State.blockHead s p f) := by
  unfold State.blockHead
  extract_lets a0 a1 a2 a3 a4
  all_goals clear_value a0 a1 a2 a3 a4
  repeat' first
    | with_reducible assumption
    | with_reducible refine State.respond_keeps (hP.mono (by decide)) ?_
    | with_reducible refine State.setCwPort_keeps (hP.mono (by decide)) ?_
    | with_reducible refine ite_keeps ?_ ?_

theorem State.remoteRead_keeps (hP : Keeps 0x200820cfc P) {s : State} (h : P s)  {p : ℕ} {f : Flit} :
    P (State.remoteRead s p f) := by
  unfold State.remoteRead
  extract_lets a0 a1
  refine have k1 : P a1.1 := ?_; ?_
  all_goals clear_value a0
  repeat' first
    | with_reducible assumption
    | with_reducible refine State.busRead_keeps (hP.mono (by decide)) ?_
    | with_reducible refine State.respond_keeps (hP.mono (by decide)) ?_

theorem State.remoteWrite_keeps (hP : Keeps 0x17dffffffffc P) {s : State} (h : P s)  {p : ℕ} {f : Flit} :
    P (State.remoteWrite s p f) := by
  unfold State.remoteWrite
  extract_lets a0
  all_goals clear_value a0
  repeat' first
    | with_reducible assumption
    | with_reducible refine State.respond_keeps (hP.mono (by decide)) ?_
    | with_reducible refine State.busWrite_keeps (hP.mono (by decide)) ?_
    | with_reducible refine ite_keeps ?_ ?_

theorem State.blockStore_keeps (hP : Keeps 0x1c0814 P) {s : State} (h : P s)  {w : ℕ} {bytes : List Byte} :
    P (State.blockStore s w bytes) := by
  unfold State.blockStore
  repeat' first
    | with_reducible assumption
    | with_reducible refine State.windowWrite_keeps (hP.mono (by decide)) ?_

theorem State.blockData_keeps (hP : Keeps 0x9c0814 P) {s : State} (h : P s)  {p : ℕ} {f : Flit} :
    P (State.blockData s p f) := by
  unfold State.blockData
  repeat' first
    | with_reducible assumption
    | with_reducible refine State.blockStore_keeps (hP.mono (by decide)) ?_
    | with_reducible refine State.respond_keeps (hP.mono (by decide)) ?_
    | with_reducible refine State.setCwPort_keeps (hP.mono (by decide)) ?_
    | with_reducible refine ite_keeps ?_ ?_
    | split

end Sys2Proof.Machine
end

