-- ==== Sys2Proof/Laws/KeepsStep.lean ====
section
/-!
SUPPORT. What the operations of Machine/Step.lean may change.
-/
namespace Sys2Proof.Machine

variable {P : State → Prop}

theorem State.withFetchWord_keeps (hP : Keeps 0x1 P) {s : State} (h : P s)  {nbits : ℕ} {w : ℕ} :
    P (State.withFetchWord s nbits w) := by
  unfold State.withFetchWord
  repeat' first
    | with_reducible assumption
    | split
    | with_reducible refine hP.pending (by decide) _ _ ?_

end Sys2Proof.Machine
end

