-- ==== Sys2Proof/Laws/State.lean ====
section
/-!
SUPPORT. What the register and record updates leave in each field of the state.
-/
namespace Sys2Proof.Machine

variable (s : State)

/-! ### `setReg` -/

@[simp] theorem State.setReg_pending (off : Nat) (v : Word) : (s.setReg off v).pending = s.pending := rfl
@[simp] theorem State.setReg_part (off : Nat) (v : Word) : (s.setReg off v).part = s.part := rfl
@[simp] theorem State.setReg_latches (off : Nat) (v : Word) : (s.setReg off v).latches = s.latches := rfl
@[simp] theorem State.setReg_out (off : Nat) (v : Word) : (s.setReg off v).out = s.out := rfl
@[simp] theorem State.setReg_faultLog (off : Nat) (v : Word) : (s.setReg off v).faultLog = s.faultLog := rfl
@[simp] theorem State.setReg_freeIdx (off : Nat) (v : Word) : (s.setReg off v).freeIdx = s.freeIdx := rfl
@[simp] theorem State.setReg_tm (off : Nat) (v : Word) : (s.setReg off v).tm = s.tm := rfl
@[simp] theorem State.setReg_tmPorts (off : Nat) (v : Word) : (s.setReg off v).tmPorts = s.tmPorts := rfl
@[simp] theorem State.setReg_tpos (off : Nat) (v : Word) : (s.setReg off v).tpos = s.tpos := rfl
@[simp] theorem State.setReg_ppsStage (off : Nat) (v : Word) : (s.setReg off v).ppsStage = s.ppsStage := rfl
@[simp] theorem State.setReg_ic (off : Nat) (v : Word) : (s.setReg off v).ic = s.ic := rfl
@[simp] theorem State.setReg_fen (off : Nat) (v : Word) : (s.setReg off v).fen = s.fen := rfl
@[simp] theorem State.setReg_segStage (off : Nat) (v : Word) : (s.setReg off v).segStage = s.segStage := rfl
@[simp] theorem State.setReg_chains (off : Nat) (v : Word) : (s.setReg off v).chains = s.chains := rfl
@[simp] theorem State.setReg_sbufs (off : Nat) (v : Word) : (s.setReg off v).sbufs = s.sbufs := rfl
@[simp] theorem State.setReg_markers (off : Nat) (v : Word) : (s.setReg off v).markers = s.markers := rfl
@[simp] theorem State.setReg_filters (off : Nat) (v : Word) : (s.setReg off v).filters = s.filters := rfl
@[simp] theorem State.setReg_peat (off : Nat) (v : Word) : (s.setReg off v).peat = s.peat := rfl
@[simp] theorem State.setReg_dmem (off : Nat) (v : Word) : (s.setReg off v).dmem = s.dmem := rfl
@[simp] theorem State.setReg_imem (off : Nat) (v : Word) : (s.setReg off v).imem = s.imem := rfl
@[simp] theorem State.setReg_cores (off : Nat) (v : Word) : (s.setReg off v).cores = s.cores := rfl
@[simp] theorem State.setReg_armed (off : Nat) (v : Word) : (s.setReg off v).armed = s.armed := rfl
@[simp] theorem State.setReg_cw (off : Nat) (v : Word) : (s.setReg off v).cw = s.cw := rfl
@[simp] theorem State.setReg_esqTx (off : Nat) (v : Word) : (s.setReg off v).esqTx = s.esqTx := rfl
@[simp] theorem State.setReg_esqRx (off : Nat) (v : Word) : (s.setReg off v).esqRx = s.esqRx := rfl
@[simp] theorem State.setReg_sdg (off : Nat) (v : Word) : (s.setReg off v).sdg = s.sdg := rfl
@[simp] theorem State.setReg_tones (off : Nat) (v : Word) : (s.setReg off v).tones = s.tones := rfl
@[simp] theorem State.setReg_lines (off : Nat) (v : Word) : (s.setReg off v).lines = s.lines := rfl
@[simp] theorem State.setReg_weights (off : Nat) (v : Word) : (s.setReg off v).weights = s.weights := rfl
@[simp] theorem State.setReg_fifos (off : Nat) (v : Word) : (s.setReg off v).fifos = s.fifos := rfl
@[simp] theorem State.setReg_slu (off : Nat) (v : Word) : (s.setReg off v).slu = s.slu := rfl
@[simp] theorem State.setReg_dpw (off : Nat) (v : Word) : (s.setReg off v).dpw = s.dpw := rfl
@[simp] theorem State.setReg_runs (off : Nat) (v : Word) : (s.setReg off v).runs = s.runs := rfl
@[simp] theorem State.setReg_sqs (off : Nat) (v : Word) : (s.setReg off v).sqs = s.sqs := rfl
@[simp] theorem State.setReg_cqs (off : Nat) (v : Word) : (s.setReg off v).cqs = s.cqs := rfl
@[simp] theorem State.setReg_parts (off : Nat) (v : Word) : (s.setReg off v).parts = s.parts := rfl
@[simp] theorem State.setReg_fetches (off : Nat) (v : Word) : (s.setReg off v).fetches = s.fetches := rfl
@[simp] theorem State.setReg_roEver (off : Nat) (v : Word) : (s.setReg off v).roEver = s.roEver := rfl
@[simp] theorem State.setReg_sec (off : Nat) (v : Word) : (s.setReg off v).sec = s.sec := rfl
@[simp] theorem State.setReg_pm (off : Nat) (v : Word) : (s.setReg off v).pm = s.pm := rfl
@[simp] theorem State.setReg_pages (off : Nat) (v : Word) : (s.setReg off v).pages = s.pages := rfl
@[simp] theorem State.setReg_snaps (off : Nat) (v : Word) : (s.setReg off v).snaps = s.snaps := rfl
@[simp] theorem State.setReg_jtag (off : Nat) (v : Word) : (s.setReg off v).jtag = s.jtag := rfl
@[simp] theorem State.setReg_spi (off : Nat) (v : Word) : (s.setReg off v).spi = s.spi := rfl

/-! ### `setRegN` -/

@[simp] theorem State.setRegN_pending (off v : Nat) : (s.setRegN off v).pending = s.pending := rfl
@[simp] theorem State.setRegN_part (off v : Nat) : (s.setRegN off v).part = s.part := rfl
@[simp] theorem State.setRegN_latches (off v : Nat) : (s.setRegN off v).latches = s.latches := rfl
@[simp] theorem State.setRegN_out (off v : Nat) : (s.setRegN off v).out = s.out := rfl
@[simp] theorem State.setRegN_faultLog (off v : Nat) : (s.setRegN off v).faultLog = s.faultLog := rfl
@[simp] theorem State.setRegN_freeIdx (off v : Nat) : (s.setRegN off v).freeIdx = s.freeIdx := rfl
@[simp] theorem State.setRegN_tm (off v : Nat) : (s.setRegN off v).tm = s.tm := rfl
@[simp] theorem State.setRegN_tmPorts (off v : Nat) : (s.setRegN off v).tmPorts = s.tmPorts := rfl
@[simp] theorem State.setRegN_tpos (off v : Nat) : (s.setRegN off v).tpos = s.tpos := rfl
@[simp] theorem State.setRegN_ppsStage (off v : Nat) : (s.setRegN off v).ppsStage = s.ppsStage := rfl
@[simp] theorem State.setRegN_ic (off v : Nat) : (s.setRegN off v).ic = s.ic := rfl
@[simp] theorem State.setRegN_fen (off v : Nat) : (s.setRegN off v).fen = s.fen := rfl
@[simp] theorem State.setRegN_segStage (off v : Nat) : (s.setRegN off v).segStage = s.segStage := rfl
@[simp] theorem State.setRegN_chains (off v : Nat) : (s.setRegN off v).chains = s.chains := rfl
@[simp] theorem State.setRegN_sbufs (off v : Nat) : (s.setRegN off v).sbufs = s.sbufs := rfl
@[simp] theorem State.setRegN_markers (off v : Nat) : (s.setRegN off v).markers = s.markers := rfl
@[simp] theorem State.setRegN_filters (off v : Nat) : (s.setRegN off v).filters = s.filters := rfl
@[simp] theorem State.setRegN_peat (off v : Nat) : (s.setRegN off v).peat = s.peat := rfl
@[simp] theorem State.setRegN_dmem (off v : Nat) : (s.setRegN off v).dmem = s.dmem := rfl
@[simp] theorem State.setRegN_imem (off v : Nat) : (s.setRegN off v).imem = s.imem := rfl
@[simp] theorem State.setRegN_cores (off v : Nat) : (s.setRegN off v).cores = s.cores := rfl
@[simp] theorem State.setRegN_armed (off v : Nat) : (s.setRegN off v).armed = s.armed := rfl
@[simp] theorem State.setRegN_cw (off v : Nat) : (s.setRegN off v).cw = s.cw := rfl
@[simp] theorem State.setRegN_esqTx (off v : Nat) : (s.setRegN off v).esqTx = s.esqTx := rfl
@[simp] theorem State.setRegN_esqRx (off v : Nat) : (s.setRegN off v).esqRx = s.esqRx := rfl
@[simp] theorem State.setRegN_sdg (off v : Nat) : (s.setRegN off v).sdg = s.sdg := rfl
@[simp] theorem State.setRegN_tones (off v : Nat) : (s.setRegN off v).tones = s.tones := rfl
@[simp] theorem State.setRegN_lines (off v : Nat) : (s.setRegN off v).lines = s.lines := rfl
@[simp] theorem State.setRegN_weights (off v : Nat) : (s.setRegN off v).weights = s.weights := rfl
@[simp] theorem State.setRegN_fifos (off v : Nat) : (s.setRegN off v).fifos = s.fifos := rfl
@[simp] theorem State.setRegN_slu (off v : Nat) : (s.setRegN off v).slu = s.slu := rfl
@[simp] theorem State.setRegN_dpw (off v : Nat) : (s.setRegN off v).dpw = s.dpw := rfl
@[simp] theorem State.setRegN_runs (off v : Nat) : (s.setRegN off v).runs = s.runs := rfl
@[simp] theorem State.setRegN_sqs (off v : Nat) : (s.setRegN off v).sqs = s.sqs := rfl
@[simp] theorem State.setRegN_cqs (off v : Nat) : (s.setRegN off v).cqs = s.cqs := rfl
@[simp] theorem State.setRegN_parts (off v : Nat) : (s.setRegN off v).parts = s.parts := rfl
@[simp] theorem State.setRegN_fetches (off v : Nat) : (s.setRegN off v).fetches = s.fetches := rfl
@[simp] theorem State.setRegN_roEver (off v : Nat) : (s.setRegN off v).roEver = s.roEver := rfl
@[simp] theorem State.setRegN_sec (off v : Nat) : (s.setRegN off v).sec = s.sec := rfl
@[simp] theorem State.setRegN_pm (off v : Nat) : (s.setRegN off v).pm = s.pm := rfl
@[simp] theorem State.setRegN_pages (off v : Nat) : (s.setRegN off v).pages = s.pages := rfl
@[simp] theorem State.setRegN_snaps (off v : Nat) : (s.setRegN off v).snaps = s.snaps := rfl
@[simp] theorem State.setRegN_jtag (off v : Nat) : (s.setRegN off v).jtag = s.jtag := rfl
@[simp] theorem State.setRegN_spi (off v : Nat) : (s.setRegN off v).spi = s.spi := rfl

/-! ### `setFld` -/

@[simp] theorem State.setFld_pending (f : Fld) (v : Nat) : (s.setFld f v).pending = s.pending := rfl
@[simp] theorem State.setFld_part (f : Fld) (v : Nat) : (s.setFld f v).part = s.part := rfl
@[simp] theorem State.setFld_latches (f : Fld) (v : Nat) : (s.setFld f v).latches = s.latches := rfl
@[simp] theorem State.setFld_out (f : Fld) (v : Nat) : (s.setFld f v).out = s.out := rfl
@[simp] theorem State.setFld_faultLog (f : Fld) (v : Nat) : (s.setFld f v).faultLog = s.faultLog := rfl
@[simp] theorem State.setFld_freeIdx (f : Fld) (v : Nat) : (s.setFld f v).freeIdx = s.freeIdx := rfl
@[simp] theorem State.setFld_tm (f : Fld) (v : Nat) : (s.setFld f v).tm = s.tm := rfl
@[simp] theorem State.setFld_tmPorts (f : Fld) (v : Nat) : (s.setFld f v).tmPorts = s.tmPorts := rfl
@[simp] theorem State.setFld_tpos (f : Fld) (v : Nat) : (s.setFld f v).tpos = s.tpos := rfl
@[simp] theorem State.setFld_ppsStage (f : Fld) (v : Nat) : (s.setFld f v).ppsStage = s.ppsStage := rfl
@[simp] theorem State.setFld_ic (f : Fld) (v : Nat) : (s.setFld f v).ic = s.ic := rfl
@[simp] theorem State.setFld_fen (f : Fld) (v : Nat) : (s.setFld f v).fen = s.fen := rfl
@[simp] theorem State.setFld_segStage (f : Fld) (v : Nat) : (s.setFld f v).segStage = s.segStage := rfl
@[simp] theorem State.setFld_chains (f : Fld) (v : Nat) : (s.setFld f v).chains = s.chains := rfl
@[simp] theorem State.setFld_sbufs (f : Fld) (v : Nat) : (s.setFld f v).sbufs = s.sbufs := rfl
@[simp] theorem State.setFld_markers (f : Fld) (v : Nat) : (s.setFld f v).markers = s.markers := rfl
@[simp] theorem State.setFld_filters (f : Fld) (v : Nat) : (s.setFld f v).filters = s.filters := rfl
@[simp] theorem State.setFld_peat (f : Fld) (v : Nat) : (s.setFld f v).peat = s.peat := rfl
@[simp] theorem State.setFld_dmem (f : Fld) (v : Nat) : (s.setFld f v).dmem = s.dmem := rfl
@[simp] theorem State.setFld_imem (f : Fld) (v : Nat) : (s.setFld f v).imem = s.imem := rfl
@[simp] theorem State.setFld_cores (f : Fld) (v : Nat) : (s.setFld f v).cores = s.cores := rfl
@[simp] theorem State.setFld_armed (f : Fld) (v : Nat) : (s.setFld f v).armed = s.armed := rfl
@[simp] theorem State.setFld_cw (f : Fld) (v : Nat) : (s.setFld f v).cw = s.cw := rfl
@[simp] theorem State.setFld_esqTx (f : Fld) (v : Nat) : (s.setFld f v).esqTx = s.esqTx := rfl
@[simp] theorem State.setFld_esqRx (f : Fld) (v : Nat) : (s.setFld f v).esqRx = s.esqRx := rfl
@[simp] theorem State.setFld_sdg (f : Fld) (v : Nat) : (s.setFld f v).sdg = s.sdg := rfl
@[simp] theorem State.setFld_tones (f : Fld) (v : Nat) : (s.setFld f v).tones = s.tones := rfl
@[simp] theorem State.setFld_lines (f : Fld) (v : Nat) : (s.setFld f v).lines = s.lines := rfl
@[simp] theorem State.setFld_weights (f : Fld) (v : Nat) : (s.setFld f v).weights = s.weights := rfl
@[simp] theorem State.setFld_fifos (f : Fld) (v : Nat) : (s.setFld f v).fifos = s.fifos := rfl
@[simp] theorem State.setFld_slu (f : Fld) (v : Nat) : (s.setFld f v).slu = s.slu := rfl
@[simp] theorem State.setFld_dpw (f : Fld) (v : Nat) : (s.setFld f v).dpw = s.dpw := rfl
@[simp] theorem State.setFld_runs (f : Fld) (v : Nat) : (s.setFld f v).runs = s.runs := rfl
@[simp] theorem State.setFld_sqs (f : Fld) (v : Nat) : (s.setFld f v).sqs = s.sqs := rfl
@[simp] theorem State.setFld_cqs (f : Fld) (v : Nat) : (s.setFld f v).cqs = s.cqs := rfl
@[simp] theorem State.setFld_parts (f : Fld) (v : Nat) : (s.setFld f v).parts = s.parts := rfl
@[simp] theorem State.setFld_fetches (f : Fld) (v : Nat) : (s.setFld f v).fetches = s.fetches := rfl
@[simp] theorem State.setFld_roEver (f : Fld) (v : Nat) : (s.setFld f v).roEver = s.roEver := rfl
@[simp] theorem State.setFld_sec (f : Fld) (v : Nat) : (s.setFld f v).sec = s.sec := rfl
@[simp] theorem State.setFld_pm (f : Fld) (v : Nat) : (s.setFld f v).pm = s.pm := rfl
@[simp] theorem State.setFld_pages (f : Fld) (v : Nat) : (s.setFld f v).pages = s.pages := rfl
@[simp] theorem State.setFld_snaps (f : Fld) (v : Nat) : (s.setFld f v).snaps = s.snaps := rfl
@[simp] theorem State.setFld_jtag (f : Fld) (v : Nat) : (s.setFld f v).jtag = s.jtag := rfl
@[simp] theorem State.setFld_spi (f : Fld) (v : Nat) : (s.setFld f v).spi = s.spi := rfl

/-! ### `setFlag` -/

@[simp] theorem State.setFlag_pending (f : Fld) (b : Bool) : (s.setFlag f b).pending = s.pending := rfl
@[simp] theorem State.setFlag_part (f : Fld) (b : Bool) : (s.setFlag f b).part = s.part := rfl
@[simp] theorem State.setFlag_latches (f : Fld) (b : Bool) : (s.setFlag f b).latches = s.latches := rfl
@[simp] theorem State.setFlag_out (f : Fld) (b : Bool) : (s.setFlag f b).out = s.out := rfl
@[simp] theorem State.setFlag_faultLog (f : Fld) (b : Bool) : (s.setFlag f b).faultLog = s.faultLog := rfl
@[simp] theorem State.setFlag_freeIdx (f : Fld) (b : Bool) : (s.setFlag f b).freeIdx = s.freeIdx := rfl
@[simp] theorem State.setFlag_tm (f : Fld) (b : Bool) : (s.setFlag f b).tm = s.tm := rfl
@[simp] theorem State.setFlag_tmPorts (f : Fld) (b : Bool) : (s.setFlag f b).tmPorts = s.tmPorts := rfl
@[simp] theorem State.setFlag_tpos (f : Fld) (b : Bool) : (s.setFlag f b).tpos = s.tpos := rfl
@[simp] theorem State.setFlag_ppsStage (f : Fld) (b : Bool) : (s.setFlag f b).ppsStage = s.ppsStage := rfl
@[simp] theorem State.setFlag_ic (f : Fld) (b : Bool) : (s.setFlag f b).ic = s.ic := rfl
@[simp] theorem State.setFlag_fen (f : Fld) (b : Bool) : (s.setFlag f b).fen = s.fen := rfl
@[simp] theorem State.setFlag_segStage (f : Fld) (b : Bool) : (s.setFlag f b).segStage = s.segStage := rfl
@[simp] theorem State.setFlag_chains (f : Fld) (b : Bool) : (s.setFlag f b).chains = s.chains := rfl
@[simp] theorem State.setFlag_sbufs (f : Fld) (b : Bool) : (s.setFlag f b).sbufs = s.sbufs := rfl
@[simp] theorem State.setFlag_markers (f : Fld) (b : Bool) : (s.setFlag f b).markers = s.markers := rfl
@[simp] theorem State.setFlag_filters (f : Fld) (b : Bool) : (s.setFlag f b).filters = s.filters := rfl
@[simp] theorem State.setFlag_peat (f : Fld) (b : Bool) : (s.setFlag f b).peat = s.peat := rfl
@[simp] theorem State.setFlag_dmem (f : Fld) (b : Bool) : (s.setFlag f b).dmem = s.dmem := rfl
@[simp] theorem State.setFlag_imem (f : Fld) (b : Bool) : (s.setFlag f b).imem = s.imem := rfl
@[simp] theorem State.setFlag_cores (f : Fld) (b : Bool) : (s.setFlag f b).cores = s.cores := rfl
@[simp] theorem State.setFlag_armed (f : Fld) (b : Bool) : (s.setFlag f b).armed = s.armed := rfl
@[simp] theorem State.setFlag_cw (f : Fld) (b : Bool) : (s.setFlag f b).cw = s.cw := rfl
@[simp] theorem State.setFlag_esqTx (f : Fld) (b : Bool) : (s.setFlag f b).esqTx = s.esqTx := rfl
@[simp] theorem State.setFlag_esqRx (f : Fld) (b : Bool) : (s.setFlag f b).esqRx = s.esqRx := rfl
@[simp] theorem State.setFlag_sdg (f : Fld) (b : Bool) : (s.setFlag f b).sdg = s.sdg := rfl
@[simp] theorem State.setFlag_tones (f : Fld) (b : Bool) : (s.setFlag f b).tones = s.tones := rfl
@[simp] theorem State.setFlag_lines (f : Fld) (b : Bool) : (s.setFlag f b).lines = s.lines := rfl
@[simp] theorem State.setFlag_weights (f : Fld) (b : Bool) : (s.setFlag f b).weights = s.weights := rfl
@[simp] theorem State.setFlag_fifos (f : Fld) (b : Bool) : (s.setFlag f b).fifos = s.fifos := rfl
@[simp] theorem State.setFlag_slu (f : Fld) (b : Bool) : (s.setFlag f b).slu = s.slu := rfl
@[simp] theorem State.setFlag_dpw (f : Fld) (b : Bool) : (s.setFlag f b).dpw = s.dpw := rfl
@[simp] theorem State.setFlag_runs (f : Fld) (b : Bool) : (s.setFlag f b).runs = s.runs := rfl
@[simp] theorem State.setFlag_sqs (f : Fld) (b : Bool) : (s.setFlag f b).sqs = s.sqs := rfl
@[simp] theorem State.setFlag_cqs (f : Fld) (b : Bool) : (s.setFlag f b).cqs = s.cqs := rfl
@[simp] theorem State.setFlag_parts (f : Fld) (b : Bool) : (s.setFlag f b).parts = s.parts := rfl
@[simp] theorem State.setFlag_fetches (f : Fld) (b : Bool) : (s.setFlag f b).fetches = s.fetches := rfl
@[simp] theorem State.setFlag_roEver (f : Fld) (b : Bool) : (s.setFlag f b).roEver = s.roEver := rfl
@[simp] theorem State.setFlag_sec (f : Fld) (b : Bool) : (s.setFlag f b).sec = s.sec := rfl
@[simp] theorem State.setFlag_pm (f : Fld) (b : Bool) : (s.setFlag f b).pm = s.pm := rfl
@[simp] theorem State.setFlag_pages (f : Fld) (b : Bool) : (s.setFlag f b).pages = s.pages := rfl
@[simp] theorem State.setFlag_snaps (f : Fld) (b : Bool) : (s.setFlag f b).snaps = s.snaps := rfl
@[simp] theorem State.setFlag_jtag (f : Fld) (b : Bool) : (s.setFlag f b).jtag = s.jtag := rfl
@[simp] theorem State.setFlag_spi (f : Fld) (b : Bool) : (s.setFlag f b).spi = s.spi := rfl

/-! ### `setFldS` -/

@[simp] theorem State.setFldS_pending (f : Fld) (v : Int) : (s.setFldS f v).pending = s.pending := rfl
@[simp] theorem State.setFldS_part (f : Fld) (v : Int) : (s.setFldS f v).part = s.part := rfl
@[simp] theorem State.setFldS_latches (f : Fld) (v : Int) : (s.setFldS f v).latches = s.latches := rfl
@[simp] theorem State.setFldS_out (f : Fld) (v : Int) : (s.setFldS f v).out = s.out := rfl
@[simp] theorem State.setFldS_faultLog (f : Fld) (v : Int) : (s.setFldS f v).faultLog = s.faultLog := rfl
@[simp] theorem State.setFldS_freeIdx (f : Fld) (v : Int) : (s.setFldS f v).freeIdx = s.freeIdx := rfl
@[simp] theorem State.setFldS_tm (f : Fld) (v : Int) : (s.setFldS f v).tm = s.tm := rfl
@[simp] theorem State.setFldS_tmPorts (f : Fld) (v : Int) : (s.setFldS f v).tmPorts = s.tmPorts := rfl
@[simp] theorem State.setFldS_tpos (f : Fld) (v : Int) : (s.setFldS f v).tpos = s.tpos := rfl
@[simp] theorem State.setFldS_ppsStage (f : Fld) (v : Int) : (s.setFldS f v).ppsStage = s.ppsStage := rfl
@[simp] theorem State.setFldS_ic (f : Fld) (v : Int) : (s.setFldS f v).ic = s.ic := rfl
@[simp] theorem State.setFldS_fen (f : Fld) (v : Int) : (s.setFldS f v).fen = s.fen := rfl
@[simp] theorem State.setFldS_segStage (f : Fld) (v : Int) : (s.setFldS f v).segStage = s.segStage := rfl
@[simp] theorem State.setFldS_chains (f : Fld) (v : Int) : (s.setFldS f v).chains = s.chains := rfl
@[simp] theorem State.setFldS_sbufs (f : Fld) (v : Int) : (s.setFldS f v).sbufs = s.sbufs := rfl
@[simp] theorem State.setFldS_markers (f : Fld) (v : Int) : (s.setFldS f v).markers = s.markers := rfl
@[simp] theorem State.setFldS_filters (f : Fld) (v : Int) : (s.setFldS f v).filters = s.filters := rfl
@[simp] theorem State.setFldS_peat (f : Fld) (v : Int) : (s.setFldS f v).peat = s.peat := rfl
@[simp] theorem State.setFldS_dmem (f : Fld) (v : Int) : (s.setFldS f v).dmem = s.dmem := rfl
@[simp] theorem State.setFldS_imem (f : Fld) (v : Int) : (s.setFldS f v).imem = s.imem := rfl
@[simp] theorem State.setFldS_cores (f : Fld) (v : Int) : (s.setFldS f v).cores = s.cores := rfl
@[simp] theorem State.setFldS_armed (f : Fld) (v : Int) : (s.setFldS f v).armed = s.armed := rfl
@[simp] theorem State.setFldS_cw (f : Fld) (v : Int) : (s.setFldS f v).cw = s.cw := rfl
@[simp] theorem State.setFldS_esqTx (f : Fld) (v : Int) : (s.setFldS f v).esqTx = s.esqTx := rfl
@[simp] theorem State.setFldS_esqRx (f : Fld) (v : Int) : (s.setFldS f v).esqRx = s.esqRx := rfl
@[simp] theorem State.setFldS_sdg (f : Fld) (v : Int) : (s.setFldS f v).sdg = s.sdg := rfl
@[simp] theorem State.setFldS_tones (f : Fld) (v : Int) : (s.setFldS f v).tones = s.tones := rfl
@[simp] theorem State.setFldS_lines (f : Fld) (v : Int) : (s.setFldS f v).lines = s.lines := rfl
@[simp] theorem State.setFldS_weights (f : Fld) (v : Int) : (s.setFldS f v).weights = s.weights := rfl
@[simp] theorem State.setFldS_fifos (f : Fld) (v : Int) : (s.setFldS f v).fifos = s.fifos := rfl
@[simp] theorem State.setFldS_slu (f : Fld) (v : Int) : (s.setFldS f v).slu = s.slu := rfl
@[simp] theorem State.setFldS_dpw (f : Fld) (v : Int) : (s.setFldS f v).dpw = s.dpw := rfl
@[simp] theorem State.setFldS_runs (f : Fld) (v : Int) : (s.setFldS f v).runs = s.runs := rfl
@[simp] theorem State.setFldS_sqs (f : Fld) (v : Int) : (s.setFldS f v).sqs = s.sqs := rfl
@[simp] theorem State.setFldS_cqs (f : Fld) (v : Int) : (s.setFldS f v).cqs = s.cqs := rfl
@[simp] theorem State.setFldS_parts (f : Fld) (v : Int) : (s.setFldS f v).parts = s.parts := rfl
@[simp] theorem State.setFldS_fetches (f : Fld) (v : Int) : (s.setFldS f v).fetches = s.fetches := rfl
@[simp] theorem State.setFldS_roEver (f : Fld) (v : Int) : (s.setFldS f v).roEver = s.roEver := rfl
@[simp] theorem State.setFldS_sec (f : Fld) (v : Int) : (s.setFldS f v).sec = s.sec := rfl
@[simp] theorem State.setFldS_pm (f : Fld) (v : Int) : (s.setFldS f v).pm = s.pm := rfl
@[simp] theorem State.setFldS_pages (f : Fld) (v : Int) : (s.setFldS f v).pages = s.pages := rfl
@[simp] theorem State.setFldS_snaps (f : Fld) (v : Int) : (s.setFldS f v).snaps = s.snaps := rfl
@[simp] theorem State.setFldS_jtag (f : Fld) (v : Int) : (s.setFldS f v).jtag = s.jtag := rfl
@[simp] theorem State.setFldS_spi (f : Fld) (v : Int) : (s.setFldS f v).spi = s.spi := rfl

/-! ### `setReg64` -/

@[simp] theorem State.setReg64_pending (off v : Nat) : (s.setReg64 off v).pending = s.pending := rfl
@[simp] theorem State.setReg64_part (off v : Nat) : (s.setReg64 off v).part = s.part := rfl
@[simp] theorem State.setReg64_latches (off v : Nat) : (s.setReg64 off v).latches = s.latches := rfl
@[simp] theorem State.setReg64_out (off v : Nat) : (s.setReg64 off v).out = s.out := rfl
@[simp] theorem State.setReg64_faultLog (off v : Nat) : (s.setReg64 off v).faultLog = s.faultLog := rfl
@[simp] theorem State.setReg64_freeIdx (off v : Nat) : (s.setReg64 off v).freeIdx = s.freeIdx := rfl
@[simp] theorem State.setReg64_tm (off v : Nat) : (s.setReg64 off v).tm = s.tm := rfl
@[simp] theorem State.setReg64_tmPorts (off v : Nat) : (s.setReg64 off v).tmPorts = s.tmPorts := rfl
@[simp] theorem State.setReg64_tpos (off v : Nat) : (s.setReg64 off v).tpos = s.tpos := rfl
@[simp] theorem State.setReg64_ppsStage (off v : Nat) : (s.setReg64 off v).ppsStage = s.ppsStage := rfl
@[simp] theorem State.setReg64_ic (off v : Nat) : (s.setReg64 off v).ic = s.ic := rfl
@[simp] theorem State.setReg64_fen (off v : Nat) : (s.setReg64 off v).fen = s.fen := rfl
@[simp] theorem State.setReg64_segStage (off v : Nat) : (s.setReg64 off v).segStage = s.segStage := rfl
@[simp] theorem State.setReg64_chains (off v : Nat) : (s.setReg64 off v).chains = s.chains := rfl
@[simp] theorem State.setReg64_sbufs (off v : Nat) : (s.setReg64 off v).sbufs = s.sbufs := rfl
@[simp] theorem State.setReg64_markers (off v : Nat) : (s.setReg64 off v).markers = s.markers := rfl
@[simp] theorem State.setReg64_filters (off v : Nat) : (s.setReg64 off v).filters = s.filters := rfl
@[simp] theorem State.setReg64_peat (off v : Nat) : (s.setReg64 off v).peat = s.peat := rfl
@[simp] theorem State.setReg64_dmem (off v : Nat) : (s.setReg64 off v).dmem = s.dmem := rfl
@[simp] theorem State.setReg64_imem (off v : Nat) : (s.setReg64 off v).imem = s.imem := rfl
@[simp] theorem State.setReg64_cores (off v : Nat) : (s.setReg64 off v).cores = s.cores := rfl
@[simp] theorem State.setReg64_armed (off v : Nat) : (s.setReg64 off v).armed = s.armed := rfl
@[simp] theorem State.setReg64_cw (off v : Nat) : (s.setReg64 off v).cw = s.cw := rfl
@[simp] theorem State.setReg64_esqTx (off v : Nat) : (s.setReg64 off v).esqTx = s.esqTx := rfl
@[simp] theorem State.setReg64_esqRx (off v : Nat) : (s.setReg64 off v).esqRx = s.esqRx := rfl
@[simp] theorem State.setReg64_sdg (off v : Nat) : (s.setReg64 off v).sdg = s.sdg := rfl
@[simp] theorem State.setReg64_tones (off v : Nat) : (s.setReg64 off v).tones = s.tones := rfl
@[simp] theorem State.setReg64_lines (off v : Nat) : (s.setReg64 off v).lines = s.lines := rfl
@[simp] theorem State.setReg64_weights (off v : Nat) : (s.setReg64 off v).weights = s.weights := rfl
@[simp] theorem State.setReg64_fifos (off v : Nat) : (s.setReg64 off v).fifos = s.fifos := rfl
@[simp] theorem State.setReg64_slu (off v : Nat) : (s.setReg64 off v).slu = s.slu := rfl
@[simp] theorem State.setReg64_dpw (off v : Nat) : (s.setReg64 off v).dpw = s.dpw := rfl
@[simp] theorem State.setReg64_runs (off v : Nat) : (s.setReg64 off v).runs = s.runs := rfl
@[simp] theorem State.setReg64_sqs (off v : Nat) : (s.setReg64 off v).sqs = s.sqs := rfl
@[simp] theorem State.setReg64_cqs (off v : Nat) : (s.setReg64 off v).cqs = s.cqs := rfl
@[simp] theorem State.setReg64_parts (off v : Nat) : (s.setReg64 off v).parts = s.parts := rfl
@[simp] theorem State.setReg64_fetches (off v : Nat) : (s.setReg64 off v).fetches = s.fetches := rfl
@[simp] theorem State.setReg64_roEver (off v : Nat) : (s.setReg64 off v).roEver = s.roEver := rfl
@[simp] theorem State.setReg64_sec (off v : Nat) : (s.setReg64 off v).sec = s.sec := rfl
@[simp] theorem State.setReg64_pm (off v : Nat) : (s.setReg64 off v).pm = s.pm := rfl
@[simp] theorem State.setReg64_pages (off v : Nat) : (s.setReg64 off v).pages = s.pages := rfl
@[simp] theorem State.setReg64_snaps (off v : Nat) : (s.setReg64 off v).snaps = s.snaps := rfl
@[simp] theorem State.setReg64_jtag (off v : Nat) : (s.setReg64 off v).jtag = s.jtag := rfl
@[simp] theorem State.setReg64_spi (off v : Nat) : (s.setReg64 off v).spi = s.spi := rfl

/-! ### `setRegBit` -/

@[simp] theorem State.setRegBit_pending (off i : Nat) (b : Bool) : (s.setRegBit off i b).pending = s.pending := rfl
@[simp] theorem State.setRegBit_part (off i : Nat) (b : Bool) : (s.setRegBit off i b).part = s.part := rfl
@[simp] theorem State.setRegBit_latches (off i : Nat) (b : Bool) : (s.setRegBit off i b).latches = s.latches := rfl
@[simp] theorem State.setRegBit_out (off i : Nat) (b : Bool) : (s.setRegBit off i b).out = s.out := rfl
@[simp] theorem State.setRegBit_faultLog (off i : Nat) (b : Bool) : (s.setRegBit off i b).faultLog = s.faultLog := rfl
@[simp] theorem State.setRegBit_freeIdx (off i : Nat) (b : Bool) : (s.setRegBit off i b).freeIdx = s.freeIdx := rfl
@[simp] theorem State.setRegBit_tm (off i : Nat) (b : Bool) : (s.setRegBit off i b).tm = s.tm := rfl
@[simp] theorem State.setRegBit_tmPorts (off i : Nat) (b : Bool) : (s.setRegBit off i b).tmPorts = s.tmPorts := rfl
@[simp] theorem State.setRegBit_tpos (off i : Nat) (b : Bool) : (s.setRegBit off i b).tpos = s.tpos := rfl
@[simp] theorem State.setRegBit_ppsStage (off i : Nat) (b : Bool) : (s.setRegBit off i b).ppsStage = s.ppsStage := rfl
@[simp] theorem State.setRegBit_ic (off i : Nat) (b : Bool) : (s.setRegBit off i b).ic = s.ic := rfl
@[simp] theorem State.setRegBit_fen (off i : Nat) (b : Bool) : (s.setRegBit off i b).fen = s.fen := rfl
@[simp] theorem State.setRegBit_segStage (off i : Nat) (b : Bool) : (s.setRegBit off i b).segStage = s.segStage := rfl
@[simp] theorem State.setRegBit_chains (off i : Nat) (b : Bool) : (s.setRegBit off i b).chains = s.chains := rfl
@[simp] theorem State.setRegBit_sbufs (off i : Nat) (b : Bool) : (s.setRegBit off i b).sbufs = s.sbufs := rfl
@[simp] theorem State.setRegBit_markers (off i : Nat) (b : Bool) : (s.setRegBit off i b).markers = s.markers := rfl
@[simp] theorem State.setRegBit_filters (off i : Nat) (b : Bool) : (s.setRegBit off i b).filters = s.filters := rfl
@[simp] theorem State.setRegBit_peat (off i : Nat) (b : Bool) : (s.setRegBit off i b).peat = s.peat := rfl
@[simp] theorem State.setRegBit_dmem (off i : Nat) (b : Bool) : (s.setRegBit off i b).dmem = s.dmem := rfl
@[simp] theorem State.setRegBit_imem (off i : Nat) (b : Bool) : (s.setRegBit off i b).imem = s.imem := rfl
@[simp] theorem State.setRegBit_cores (off i : Nat) (b : Bool) : (s.setRegBit off i b).cores = s.cores := rfl
@[simp] theorem State.setRegBit_armed (off i : Nat) (b : Bool) : (s.setRegBit off i b).armed = s.armed := rfl
@[simp] theorem State.setRegBit_cw (off i : Nat) (b : Bool) : (s.setRegBit off i b).cw = s.cw := rfl
@[simp] theorem State.setRegBit_esqTx (off i : Nat) (b : Bool) : (s.setRegBit off i b).esqTx = s.esqTx := rfl
@[simp] theorem State.setRegBit_esqRx (off i : Nat) (b : Bool) : (s.setRegBit off i b).esqRx = s.esqRx := rfl
@[simp] theorem State.setRegBit_sdg (off i : Nat) (b : Bool) : (s.setRegBit off i b).sdg = s.sdg := rfl
@[simp] theorem State.setRegBit_tones (off i : Nat) (b : Bool) : (s.setRegBit off i b).tones = s.tones := rfl
@[simp] theorem State.setRegBit_lines (off i : Nat) (b : Bool) : (s.setRegBit off i b).lines = s.lines := rfl
@[simp] theorem State.setRegBit_weights (off i : Nat) (b : Bool) : (s.setRegBit off i b).weights = s.weights := rfl
@[simp] theorem State.setRegBit_fifos (off i : Nat) (b : Bool) : (s.setRegBit off i b).fifos = s.fifos := rfl
@[simp] theorem State.setRegBit_slu (off i : Nat) (b : Bool) : (s.setRegBit off i b).slu = s.slu := rfl
@[simp] theorem State.setRegBit_dpw (off i : Nat) (b : Bool) : (s.setRegBit off i b).dpw = s.dpw := rfl
@[simp] theorem State.setRegBit_runs (off i : Nat) (b : Bool) : (s.setRegBit off i b).runs = s.runs := rfl
@[simp] theorem State.setRegBit_sqs (off i : Nat) (b : Bool) : (s.setRegBit off i b).sqs = s.sqs := rfl
@[simp] theorem State.setRegBit_cqs (off i : Nat) (b : Bool) : (s.setRegBit off i b).cqs = s.cqs := rfl
@[simp] theorem State.setRegBit_parts (off i : Nat) (b : Bool) : (s.setRegBit off i b).parts = s.parts := rfl
@[simp] theorem State.setRegBit_fetches (off i : Nat) (b : Bool) : (s.setRegBit off i b).fetches = s.fetches := rfl
@[simp] theorem State.setRegBit_roEver (off i : Nat) (b : Bool) : (s.setRegBit off i b).roEver = s.roEver := rfl
@[simp] theorem State.setRegBit_sec (off i : Nat) (b : Bool) : (s.setRegBit off i b).sec = s.sec := rfl
@[simp] theorem State.setRegBit_pm (off i : Nat) (b : Bool) : (s.setRegBit off i b).pm = s.pm := rfl
@[simp] theorem State.setRegBit_pages (off i : Nat) (b : Bool) : (s.setRegBit off i b).pages = s.pages := rfl
@[simp] theorem State.setRegBit_snaps (off i : Nat) (b : Bool) : (s.setRegBit off i b).snaps = s.snaps := rfl
@[simp] theorem State.setRegBit_jtag (off i : Nat) (b : Bool) : (s.setRegBit off i b).jtag = s.jtag := rfl
@[simp] theorem State.setRegBit_spi (off i : Nat) (b : Bool) : (s.setRegBit off i b).spi = s.spi := rfl

/-! ### `incSat` -/

@[simp] theorem State.incSat_pending (f : Fld) (n : Nat) : (s.incSat f n).pending = s.pending := rfl
@[simp] theorem State.incSat_part (f : Fld) (n : Nat) : (s.incSat f n).part = s.part := rfl
@[simp] theorem State.incSat_latches (f : Fld) (n : Nat) : (s.incSat f n).latches = s.latches := rfl
@[simp] theorem State.incSat_out (f : Fld) (n : Nat) : (s.incSat f n).out = s.out := rfl
@[simp] theorem State.incSat_faultLog (f : Fld) (n : Nat) : (s.incSat f n).faultLog = s.faultLog := rfl
@[simp] theorem State.incSat_freeIdx (f : Fld) (n : Nat) : (s.incSat f n).freeIdx = s.freeIdx := rfl
@[simp] theorem State.incSat_tm (f : Fld) (n : Nat) : (s.incSat f n).tm = s.tm := rfl
@[simp] theorem State.incSat_tmPorts (f : Fld) (n : Nat) : (s.incSat f n).tmPorts = s.tmPorts := rfl
@[simp] theorem State.incSat_tpos (f : Fld) (n : Nat) : (s.incSat f n).tpos = s.tpos := rfl
@[simp] theorem State.incSat_ppsStage (f : Fld) (n : Nat) : (s.incSat f n).ppsStage = s.ppsStage := rfl
@[simp] theorem State.incSat_ic (f : Fld) (n : Nat) : (s.incSat f n).ic = s.ic := rfl
@[simp] theorem State.incSat_fen (f : Fld) (n : Nat) : (s.incSat f n).fen = s.fen := rfl
@[simp] theorem State.incSat_segStage (f : Fld) (n : Nat) : (s.incSat f n).segStage = s.segStage := rfl
@[simp] theorem State.incSat_chains (f : Fld) (n : Nat) : (s.incSat f n).chains = s.chains := rfl
@[simp] theorem State.incSat_sbufs (f : Fld) (n : Nat) : (s.incSat f n).sbufs = s.sbufs := rfl
@[simp] theorem State.incSat_markers (f : Fld) (n : Nat) : (s.incSat f n).markers = s.markers := rfl
@[simp] theorem State.incSat_filters (f : Fld) (n : Nat) : (s.incSat f n).filters = s.filters := rfl
@[simp] theorem State.incSat_peat (f : Fld) (n : Nat) : (s.incSat f n).peat = s.peat := rfl
@[simp] theorem State.incSat_dmem (f : Fld) (n : Nat) : (s.incSat f n).dmem = s.dmem := rfl
@[simp] theorem State.incSat_imem (f : Fld) (n : Nat) : (s.incSat f n).imem = s.imem := rfl
@[simp] theorem State.incSat_cores (f : Fld) (n : Nat) : (s.incSat f n).cores = s.cores := rfl
@[simp] theorem State.incSat_armed (f : Fld) (n : Nat) : (s.incSat f n).armed = s.armed := rfl
@[simp] theorem State.incSat_cw (f : Fld) (n : Nat) : (s.incSat f n).cw = s.cw := rfl
@[simp] theorem State.incSat_esqTx (f : Fld) (n : Nat) : (s.incSat f n).esqTx = s.esqTx := rfl
@[simp] theorem State.incSat_esqRx (f : Fld) (n : Nat) : (s.incSat f n).esqRx = s.esqRx := rfl
@[simp] theorem State.incSat_sdg (f : Fld) (n : Nat) : (s.incSat f n).sdg = s.sdg := rfl
@[simp] theorem State.incSat_tones (f : Fld) (n : Nat) : (s.incSat f n).tones = s.tones := rfl
@[simp] theorem State.incSat_lines (f : Fld) (n : Nat) : (s.incSat f n).lines = s.lines := rfl
@[simp] theorem State.incSat_weights (f : Fld) (n : Nat) : (s.incSat f n).weights = s.weights := rfl
@[simp] theorem State.incSat_fifos (f : Fld) (n : Nat) : (s.incSat f n).fifos = s.fifos := rfl
@[simp] theorem State.incSat_slu (f : Fld) (n : Nat) : (s.incSat f n).slu = s.slu := rfl
@[simp] theorem State.incSat_dpw (f : Fld) (n : Nat) : (s.incSat f n).dpw = s.dpw := rfl
@[simp] theorem State.incSat_runs (f : Fld) (n : Nat) : (s.incSat f n).runs = s.runs := rfl
@[simp] theorem State.incSat_sqs (f : Fld) (n : Nat) : (s.incSat f n).sqs = s.sqs := rfl
@[simp] theorem State.incSat_cqs (f : Fld) (n : Nat) : (s.incSat f n).cqs = s.cqs := rfl
@[simp] theorem State.incSat_parts (f : Fld) (n : Nat) : (s.incSat f n).parts = s.parts := rfl
@[simp] theorem State.incSat_fetches (f : Fld) (n : Nat) : (s.incSat f n).fetches = s.fetches := rfl
@[simp] theorem State.incSat_roEver (f : Fld) (n : Nat) : (s.incSat f n).roEver = s.roEver := rfl
@[simp] theorem State.incSat_sec (f : Fld) (n : Nat) : (s.incSat f n).sec = s.sec := rfl
@[simp] theorem State.incSat_pm (f : Fld) (n : Nat) : (s.incSat f n).pm = s.pm := rfl
@[simp] theorem State.incSat_pages (f : Fld) (n : Nat) : (s.incSat f n).pages = s.pages := rfl
@[simp] theorem State.incSat_snaps (f : Fld) (n : Nat) : (s.incSat f n).snaps = s.snaps := rfl
@[simp] theorem State.incSat_jtag (f : Fld) (n : Nat) : (s.incSat f n).jtag = s.jtag := rfl
@[simp] theorem State.incSat_spi (f : Fld) (n : Nat) : (s.incSat f n).spi = s.spi := rfl

/-! ### `incWrap` -/

@[simp] theorem State.incWrap_pending (f : Fld) (n : Nat) : (s.incWrap f n).pending = s.pending := rfl
@[simp] theorem State.incWrap_part (f : Fld) (n : Nat) : (s.incWrap f n).part = s.part := rfl
@[simp] theorem State.incWrap_latches (f : Fld) (n : Nat) : (s.incWrap f n).latches = s.latches := rfl
@[simp] theorem State.incWrap_out (f : Fld) (n : Nat) : (s.incWrap f n).out = s.out := rfl
@[simp] theorem State.incWrap_faultLog (f : Fld) (n : Nat) : (s.incWrap f n).faultLog = s.faultLog := rfl
@[simp] theorem State.incWrap_freeIdx (f : Fld) (n : Nat) : (s.incWrap f n).freeIdx = s.freeIdx := rfl
@[simp] theorem State.incWrap_tm (f : Fld) (n : Nat) : (s.incWrap f n).tm = s.tm := rfl
@[simp] theorem State.incWrap_tmPorts (f : Fld) (n : Nat) : (s.incWrap f n).tmPorts = s.tmPorts := rfl
@[simp] theorem State.incWrap_tpos (f : Fld) (n : Nat) : (s.incWrap f n).tpos = s.tpos := rfl
@[simp] theorem State.incWrap_ppsStage (f : Fld) (n : Nat) : (s.incWrap f n).ppsStage = s.ppsStage := rfl
@[simp] theorem State.incWrap_ic (f : Fld) (n : Nat) : (s.incWrap f n).ic = s.ic := rfl
@[simp] theorem State.incWrap_fen (f : Fld) (n : Nat) : (s.incWrap f n).fen = s.fen := rfl
@[simp] theorem State.incWrap_segStage (f : Fld) (n : Nat) : (s.incWrap f n).segStage = s.segStage := rfl
@[simp] theorem State.incWrap_chains (f : Fld) (n : Nat) : (s.incWrap f n).chains = s.chains := rfl
@[simp] theorem State.incWrap_sbufs (f : Fld) (n : Nat) : (s.incWrap f n).sbufs = s.sbufs := rfl
@[simp] theorem State.incWrap_markers (f : Fld) (n : Nat) : (s.incWrap f n).markers = s.markers := rfl
@[simp] theorem State.incWrap_filters (f : Fld) (n : Nat) : (s.incWrap f n).filters = s.filters := rfl
@[simp] theorem State.incWrap_peat (f : Fld) (n : Nat) : (s.incWrap f n).peat = s.peat := rfl
@[simp] theorem State.incWrap_dmem (f : Fld) (n : Nat) : (s.incWrap f n).dmem = s.dmem := rfl
@[simp] theorem State.incWrap_imem (f : Fld) (n : Nat) : (s.incWrap f n).imem = s.imem := rfl
@[simp] theorem State.incWrap_cores (f : Fld) (n : Nat) : (s.incWrap f n).cores = s.cores := rfl
@[simp] theorem State.incWrap_armed (f : Fld) (n : Nat) : (s.incWrap f n).armed = s.armed := rfl
@[simp] theorem State.incWrap_cw (f : Fld) (n : Nat) : (s.incWrap f n).cw = s.cw := rfl
@[simp] theorem State.incWrap_esqTx (f : Fld) (n : Nat) : (s.incWrap f n).esqTx = s.esqTx := rfl
@[simp] theorem State.incWrap_esqRx (f : Fld) (n : Nat) : (s.incWrap f n).esqRx = s.esqRx := rfl
@[simp] theorem State.incWrap_sdg (f : Fld) (n : Nat) : (s.incWrap f n).sdg = s.sdg := rfl
@[simp] theorem State.incWrap_tones (f : Fld) (n : Nat) : (s.incWrap f n).tones = s.tones := rfl
@[simp] theorem State.incWrap_lines (f : Fld) (n : Nat) : (s.incWrap f n).lines = s.lines := rfl
@[simp] theorem State.incWrap_weights (f : Fld) (n : Nat) : (s.incWrap f n).weights = s.weights := rfl
@[simp] theorem State.incWrap_fifos (f : Fld) (n : Nat) : (s.incWrap f n).fifos = s.fifos := rfl
@[simp] theorem State.incWrap_slu (f : Fld) (n : Nat) : (s.incWrap f n).slu = s.slu := rfl
@[simp] theorem State.incWrap_dpw (f : Fld) (n : Nat) : (s.incWrap f n).dpw = s.dpw := rfl
@[simp] theorem State.incWrap_runs (f : Fld) (n : Nat) : (s.incWrap f n).runs = s.runs := rfl
@[simp] theorem State.incWrap_sqs (f : Fld) (n : Nat) : (s.incWrap f n).sqs = s.sqs := rfl
@[simp] theorem State.incWrap_cqs (f : Fld) (n : Nat) : (s.incWrap f n).cqs = s.cqs := rfl
@[simp] theorem State.incWrap_parts (f : Fld) (n : Nat) : (s.incWrap f n).parts = s.parts := rfl
@[simp] theorem State.incWrap_fetches (f : Fld) (n : Nat) : (s.incWrap f n).fetches = s.fetches := rfl
@[simp] theorem State.incWrap_roEver (f : Fld) (n : Nat) : (s.incWrap f n).roEver = s.roEver := rfl
@[simp] theorem State.incWrap_sec (f : Fld) (n : Nat) : (s.incWrap f n).sec = s.sec := rfl
@[simp] theorem State.incWrap_pm (f : Fld) (n : Nat) : (s.incWrap f n).pm = s.pm := rfl
@[simp] theorem State.incWrap_pages (f : Fld) (n : Nat) : (s.incWrap f n).pages = s.pages := rfl
@[simp] theorem State.incWrap_snaps (f : Fld) (n : Nat) : (s.incWrap f n).snaps = s.snaps := rfl
@[simp] theorem State.incWrap_jtag (f : Fld) (n : Nat) : (s.incWrap f n).jtag = s.jtag := rfl
@[simp] theorem State.incWrap_spi (f : Fld) (n : Nat) : (s.incWrap f n).spi = s.spi := rfl

/-! ### `resetRegs` -/

@[simp] theorem State.resetRegs_pending (lo hi : Nat) : (s.resetRegs lo hi).pending = s.pending := rfl
@[simp] theorem State.resetRegs_part (lo hi : Nat) : (s.resetRegs lo hi).part = s.part := rfl
@[simp] theorem State.resetRegs_latches (lo hi : Nat) : (s.resetRegs lo hi).latches = s.latches := rfl
@[simp] theorem State.resetRegs_out (lo hi : Nat) : (s.resetRegs lo hi).out = s.out := rfl
@[simp] theorem State.resetRegs_faultLog (lo hi : Nat) : (s.resetRegs lo hi).faultLog = s.faultLog := rfl
@[simp] theorem State.resetRegs_freeIdx (lo hi : Nat) : (s.resetRegs lo hi).freeIdx = s.freeIdx := rfl
@[simp] theorem State.resetRegs_tm (lo hi : Nat) : (s.resetRegs lo hi).tm = s.tm := rfl
@[simp] theorem State.resetRegs_tmPorts (lo hi : Nat) : (s.resetRegs lo hi).tmPorts = s.tmPorts := rfl
@[simp] theorem State.resetRegs_tpos (lo hi : Nat) : (s.resetRegs lo hi).tpos = s.tpos := rfl
@[simp] theorem State.resetRegs_ppsStage (lo hi : Nat) : (s.resetRegs lo hi).ppsStage = s.ppsStage := rfl
@[simp] theorem State.resetRegs_ic (lo hi : Nat) : (s.resetRegs lo hi).ic = s.ic := rfl
@[simp] theorem State.resetRegs_fen (lo hi : Nat) : (s.resetRegs lo hi).fen = s.fen := rfl
@[simp] theorem State.resetRegs_segStage (lo hi : Nat) : (s.resetRegs lo hi).segStage = s.segStage := rfl
@[simp] theorem State.resetRegs_chains (lo hi : Nat) : (s.resetRegs lo hi).chains = s.chains := rfl
@[simp] theorem State.resetRegs_sbufs (lo hi : Nat) : (s.resetRegs lo hi).sbufs = s.sbufs := rfl
@[simp] theorem State.resetRegs_markers (lo hi : Nat) : (s.resetRegs lo hi).markers = s.markers := rfl
@[simp] theorem State.resetRegs_filters (lo hi : Nat) : (s.resetRegs lo hi).filters = s.filters := rfl
@[simp] theorem State.resetRegs_peat (lo hi : Nat) : (s.resetRegs lo hi).peat = s.peat := rfl
@[simp] theorem State.resetRegs_dmem (lo hi : Nat) : (s.resetRegs lo hi).dmem = s.dmem := rfl
@[simp] theorem State.resetRegs_imem (lo hi : Nat) : (s.resetRegs lo hi).imem = s.imem := rfl
@[simp] theorem State.resetRegs_cores (lo hi : Nat) : (s.resetRegs lo hi).cores = s.cores := rfl
@[simp] theorem State.resetRegs_armed (lo hi : Nat) : (s.resetRegs lo hi).armed = s.armed := rfl
@[simp] theorem State.resetRegs_cw (lo hi : Nat) : (s.resetRegs lo hi).cw = s.cw := rfl
@[simp] theorem State.resetRegs_esqTx (lo hi : Nat) : (s.resetRegs lo hi).esqTx = s.esqTx := rfl
@[simp] theorem State.resetRegs_esqRx (lo hi : Nat) : (s.resetRegs lo hi).esqRx = s.esqRx := rfl
@[simp] theorem State.resetRegs_sdg (lo hi : Nat) : (s.resetRegs lo hi).sdg = s.sdg := rfl
@[simp] theorem State.resetRegs_tones (lo hi : Nat) : (s.resetRegs lo hi).tones = s.tones := rfl
@[simp] theorem State.resetRegs_lines (lo hi : Nat) : (s.resetRegs lo hi).lines = s.lines := rfl
@[simp] theorem State.resetRegs_weights (lo hi : Nat) : (s.resetRegs lo hi).weights = s.weights := rfl
@[simp] theorem State.resetRegs_fifos (lo hi : Nat) : (s.resetRegs lo hi).fifos = s.fifos := rfl
@[simp] theorem State.resetRegs_slu (lo hi : Nat) : (s.resetRegs lo hi).slu = s.slu := rfl
@[simp] theorem State.resetRegs_dpw (lo hi : Nat) : (s.resetRegs lo hi).dpw = s.dpw := rfl
@[simp] theorem State.resetRegs_runs (lo hi : Nat) : (s.resetRegs lo hi).runs = s.runs := rfl
@[simp] theorem State.resetRegs_sqs (lo hi : Nat) : (s.resetRegs lo hi).sqs = s.sqs := rfl
@[simp] theorem State.resetRegs_cqs (lo hi : Nat) : (s.resetRegs lo hi).cqs = s.cqs := rfl
@[simp] theorem State.resetRegs_parts (lo hi : Nat) : (s.resetRegs lo hi).parts = s.parts := rfl
@[simp] theorem State.resetRegs_fetches (lo hi : Nat) : (s.resetRegs lo hi).fetches = s.fetches := rfl
@[simp] theorem State.resetRegs_roEver (lo hi : Nat) : (s.resetRegs lo hi).roEver = s.roEver := rfl
@[simp] theorem State.resetRegs_sec (lo hi : Nat) : (s.resetRegs lo hi).sec = s.sec := rfl
@[simp] theorem State.resetRegs_pm (lo hi : Nat) : (s.resetRegs lo hi).pm = s.pm := rfl
@[simp] theorem State.resetRegs_pages (lo hi : Nat) : (s.resetRegs lo hi).pages = s.pages := rfl
@[simp] theorem State.resetRegs_snaps (lo hi : Nat) : (s.resetRegs lo hi).snaps = s.snaps := rfl
@[simp] theorem State.resetRegs_jtag (lo hi : Nat) : (s.resetRegs lo hi).jtag = s.jtag := rfl
@[simp] theorem State.resetRegs_spi (lo hi : Nat) : (s.resetRegs lo hi).spi = s.spi := rfl

/-! ### `emit` -/

@[simp] theorem State.emit_pending (o : Output) : (s.emit o).pending = s.pending := rfl
@[simp] theorem State.emit_part (o : Output) : (s.emit o).part = s.part := rfl
@[simp] theorem State.emit_regs (o : Output) : (s.emit o).regs = s.regs := rfl
@[simp] theorem State.emit_latches (o : Output) : (s.emit o).latches = s.latches := rfl
@[simp] theorem State.emit_faultLog (o : Output) : (s.emit o).faultLog = s.faultLog := rfl
@[simp] theorem State.emit_freeIdx (o : Output) : (s.emit o).freeIdx = s.freeIdx := rfl
@[simp] theorem State.emit_tm (o : Output) : (s.emit o).tm = s.tm := rfl
@[simp] theorem State.emit_tmPorts (o : Output) : (s.emit o).tmPorts = s.tmPorts := rfl
@[simp] theorem State.emit_tpos (o : Output) : (s.emit o).tpos = s.tpos := rfl
@[simp] theorem State.emit_ppsStage (o : Output) : (s.emit o).ppsStage = s.ppsStage := rfl
@[simp] theorem State.emit_ic (o : Output) : (s.emit o).ic = s.ic := rfl
@[simp] theorem State.emit_fen (o : Output) : (s.emit o).fen = s.fen := rfl
@[simp] theorem State.emit_segStage (o : Output) : (s.emit o).segStage = s.segStage := rfl
@[simp] theorem State.emit_chains (o : Output) : (s.emit o).chains = s.chains := rfl
@[simp] theorem State.emit_sbufs (o : Output) : (s.emit o).sbufs = s.sbufs := rfl
@[simp] theorem State.emit_markers (o : Output) : (s.emit o).markers = s.markers := rfl
@[simp] theorem State.emit_filters (o : Output) : (s.emit o).filters = s.filters := rfl
@[simp] theorem State.emit_peat (o : Output) : (s.emit o).peat = s.peat := rfl
@[simp] theorem State.emit_dmem (o : Output) : (s.emit o).dmem = s.dmem := rfl
@[simp] theorem State.emit_imem (o : Output) : (s.emit o).imem = s.imem := rfl
@[simp] theorem State.emit_cores (o : Output) : (s.emit o).cores = s.cores := rfl
@[simp] theorem State.emit_armed (o : Output) : (s.emit o).armed = s.armed := rfl
@[simp] theorem State.emit_cw (o : Output) : (s.emit o).cw = s.cw := rfl
@[simp] theorem State.emit_esqTx (o : Output) : (s.emit o).esqTx = s.esqTx := rfl
@[simp] theorem State.emit_esqRx (o : Output) : (s.emit o).esqRx = s.esqRx := rfl
@[simp] theorem State.emit_sdg (o : Output) : (s.emit o).sdg = s.sdg := rfl
@[simp] theorem State.emit_tones (o : Output) : (s.emit o).tones = s.tones := rfl
@[simp] theorem State.emit_lines (o : Output) : (s.emit o).lines = s.lines := rfl
@[simp] theorem State.emit_weights (o : Output) : (s.emit o).weights = s.weights := rfl
@[simp] theorem State.emit_fifos (o : Output) : (s.emit o).fifos = s.fifos := rfl
@[simp] theorem State.emit_slu (o : Output) : (s.emit o).slu = s.slu := rfl
@[simp] theorem State.emit_dpw (o : Output) : (s.emit o).dpw = s.dpw := rfl
@[simp] theorem State.emit_runs (o : Output) : (s.emit o).runs = s.runs := rfl
@[simp] theorem State.emit_sqs (o : Output) : (s.emit o).sqs = s.sqs := rfl
@[simp] theorem State.emit_cqs (o : Output) : (s.emit o).cqs = s.cqs := rfl
@[simp] theorem State.emit_parts (o : Output) : (s.emit o).parts = s.parts := rfl
@[simp] theorem State.emit_fetches (o : Output) : (s.emit o).fetches = s.fetches := rfl
@[simp] theorem State.emit_roEver (o : Output) : (s.emit o).roEver = s.roEver := rfl
@[simp] theorem State.emit_sec (o : Output) : (s.emit o).sec = s.sec := rfl
@[simp] theorem State.emit_pm (o : Output) : (s.emit o).pm = s.pm := rfl
@[simp] theorem State.emit_pages (o : Output) : (s.emit o).pages = s.pages := rfl
@[simp] theorem State.emit_snaps (o : Output) : (s.emit o).snaps = s.snaps := rfl
@[simp] theorem State.emit_jtag (o : Output) : (s.emit o).jtag = s.jtag := rfl
@[simp] theorem State.emit_spi (o : Output) : (s.emit o).spi = s.spi := rfl

/-! ### `draw` -/

@[simp] theorem State.draw_pending : (s.draw).pending = s.pending := rfl
@[simp] theorem State.draw_part : (s.draw).part = s.part := rfl
@[simp] theorem State.draw_regs : (s.draw).regs = s.regs := rfl
@[simp] theorem State.draw_latches : (s.draw).latches = s.latches := rfl
@[simp] theorem State.draw_out : (s.draw).out = s.out := rfl
@[simp] theorem State.draw_faultLog : (s.draw).faultLog = s.faultLog := rfl
@[simp] theorem State.draw_tm : (s.draw).tm = s.tm := rfl
@[simp] theorem State.draw_tmPorts : (s.draw).tmPorts = s.tmPorts := rfl
@[simp] theorem State.draw_tpos : (s.draw).tpos = s.tpos := rfl
@[simp] theorem State.draw_ppsStage : (s.draw).ppsStage = s.ppsStage := rfl
@[simp] theorem State.draw_ic : (s.draw).ic = s.ic := rfl
@[simp] theorem State.draw_fen : (s.draw).fen = s.fen := rfl
@[simp] theorem State.draw_segStage : (s.draw).segStage = s.segStage := rfl
@[simp] theorem State.draw_chains : (s.draw).chains = s.chains := rfl
@[simp] theorem State.draw_sbufs : (s.draw).sbufs = s.sbufs := rfl
@[simp] theorem State.draw_markers : (s.draw).markers = s.markers := rfl
@[simp] theorem State.draw_filters : (s.draw).filters = s.filters := rfl
@[simp] theorem State.draw_peat : (s.draw).peat = s.peat := rfl
@[simp] theorem State.draw_dmem : (s.draw).dmem = s.dmem := rfl
@[simp] theorem State.draw_imem : (s.draw).imem = s.imem := rfl
@[simp] theorem State.draw_cores : (s.draw).cores = s.cores := rfl
@[simp] theorem State.draw_armed : (s.draw).armed = s.armed := rfl
@[simp] theorem State.draw_cw : (s.draw).cw = s.cw := rfl
@[simp] theorem State.draw_esqTx : (s.draw).esqTx = s.esqTx := rfl
@[simp] theorem State.draw_esqRx : (s.draw).esqRx = s.esqRx := rfl
@[simp] theorem State.draw_sdg : (s.draw).sdg = s.sdg := rfl
@[simp] theorem State.draw_tones : (s.draw).tones = s.tones := rfl
@[simp] theorem State.draw_lines : (s.draw).lines = s.lines := rfl
@[simp] theorem State.draw_weights : (s.draw).weights = s.weights := rfl
@[simp] theorem State.draw_fifos : (s.draw).fifos = s.fifos := rfl
@[simp] theorem State.draw_slu : (s.draw).slu = s.slu := rfl
@[simp] theorem State.draw_dpw : (s.draw).dpw = s.dpw := rfl
@[simp] theorem State.draw_runs : (s.draw).runs = s.runs := rfl
@[simp] theorem State.draw_sqs : (s.draw).sqs = s.sqs := rfl
@[simp] theorem State.draw_cqs : (s.draw).cqs = s.cqs := rfl
@[simp] theorem State.draw_parts : (s.draw).parts = s.parts := rfl
@[simp] theorem State.draw_fetches : (s.draw).fetches = s.fetches := rfl
@[simp] theorem State.draw_roEver : (s.draw).roEver = s.roEver := rfl
@[simp] theorem State.draw_sec : (s.draw).sec = s.sec := rfl
@[simp] theorem State.draw_pm : (s.draw).pm = s.pm := rfl
@[simp] theorem State.draw_pages : (s.draw).pages = s.pages := rfl
@[simp] theorem State.draw_snaps : (s.draw).snaps = s.snaps := rfl
@[simp] theorem State.draw_jtag : (s.draw).jtag = s.jtag := rfl
@[simp] theorem State.draw_spi : (s.draw).spi = s.spi := rfl

/-! ### `raise` -/

@[simp] theorem State.raise_pending (code : Nat) : (s.raise code).pending = s.pending := rfl
@[simp] theorem State.raise_part (code : Nat) : (s.raise code).part = s.part := rfl
@[simp] theorem State.raise_regs (code : Nat) : (s.raise code).regs = s.regs := rfl
@[simp] theorem State.raise_latches (code : Nat) : (s.raise code).latches = s.latches := rfl
@[simp] theorem State.raise_out (code : Nat) : (s.raise code).out = s.out := rfl
@[simp] theorem State.raise_freeIdx (code : Nat) : (s.raise code).freeIdx = s.freeIdx := rfl
@[simp] theorem State.raise_tm (code : Nat) : (s.raise code).tm = s.tm := rfl
@[simp] theorem State.raise_tmPorts (code : Nat) : (s.raise code).tmPorts = s.tmPorts := rfl
@[simp] theorem State.raise_tpos (code : Nat) : (s.raise code).tpos = s.tpos := rfl
@[simp] theorem State.raise_ppsStage (code : Nat) : (s.raise code).ppsStage = s.ppsStage := rfl
@[simp] theorem State.raise_ic (code : Nat) : (s.raise code).ic = s.ic := rfl
@[simp] theorem State.raise_fen (code : Nat) : (s.raise code).fen = s.fen := rfl
@[simp] theorem State.raise_segStage (code : Nat) : (s.raise code).segStage = s.segStage := rfl
@[simp] theorem State.raise_chains (code : Nat) : (s.raise code).chains = s.chains := rfl
@[simp] theorem State.raise_sbufs (code : Nat) : (s.raise code).sbufs = s.sbufs := rfl
@[simp] theorem State.raise_markers (code : Nat) : (s.raise code).markers = s.markers := rfl
@[simp] theorem State.raise_filters (code : Nat) : (s.raise code).filters = s.filters := rfl
@[simp] theorem State.raise_peat (code : Nat) : (s.raise code).peat = s.peat := rfl
@[simp] theorem State.raise_dmem (code : Nat) : (s.raise code).dmem = s.dmem := rfl
@[simp] theorem State.raise_imem (code : Nat) : (s.raise code).imem = s.imem := rfl
@[simp] theorem State.raise_cores (code : Nat) : (s.raise code).cores = s.cores := rfl
@[simp] theorem State.raise_armed (code : Nat) : (s.raise code).armed = s.armed := rfl
@[simp] theorem State.raise_cw (code : Nat) : (s.raise code).cw = s.cw := rfl
@[simp] theorem State.raise_esqTx (code : Nat) : (s.raise code).esqTx = s.esqTx := rfl
@[simp] theorem State.raise_esqRx (code : Nat) : (s.raise code).esqRx = s.esqRx := rfl
@[simp] theorem State.raise_sdg (code : Nat) : (s.raise code).sdg = s.sdg := rfl
@[simp] theorem State.raise_tones (code : Nat) : (s.raise code).tones = s.tones := rfl
@[simp] theorem State.raise_lines (code : Nat) : (s.raise code).lines = s.lines := rfl
@[simp] theorem State.raise_weights (code : Nat) : (s.raise code).weights = s.weights := rfl
@[simp] theorem State.raise_fifos (code : Nat) : (s.raise code).fifos = s.fifos := rfl
@[simp] theorem State.raise_slu (code : Nat) : (s.raise code).slu = s.slu := rfl
@[simp] theorem State.raise_dpw (code : Nat) : (s.raise code).dpw = s.dpw := rfl
@[simp] theorem State.raise_runs (code : Nat) : (s.raise code).runs = s.runs := rfl
@[simp] theorem State.raise_sqs (code : Nat) : (s.raise code).sqs = s.sqs := rfl
@[simp] theorem State.raise_cqs (code : Nat) : (s.raise code).cqs = s.cqs := rfl
@[simp] theorem State.raise_parts (code : Nat) : (s.raise code).parts = s.parts := rfl
@[simp] theorem State.raise_fetches (code : Nat) : (s.raise code).fetches = s.fetches := rfl
@[simp] theorem State.raise_roEver (code : Nat) : (s.raise code).roEver = s.roEver := rfl
@[simp] theorem State.raise_sec (code : Nat) : (s.raise code).sec = s.sec := rfl
@[simp] theorem State.raise_pm (code : Nat) : (s.raise code).pm = s.pm := rfl
@[simp] theorem State.raise_pages (code : Nat) : (s.raise code).pages = s.pages := rfl
@[simp] theorem State.raise_snaps (code : Nat) : (s.raise code).snaps = s.snaps := rfl
@[simp] theorem State.raise_jtag (code : Nat) : (s.raise code).jtag = s.jtag := rfl
@[simp] theorem State.raise_spi (code : Nat) : (s.raise code).spi = s.spi := rfl

@[simp] theorem State.emit_out (o : Output) : (s.emit o).out = s.out ++ [o] := rfl
@[simp] theorem State.draw_freeIdx : s.draw.freeIdx = s.freeIdx + 1 := rfl
@[simp] theorem State.raise_faultLog (code : Nat) : (s.raise code).faultLog = s.faultLog ++ [code] := rfl

end Sys2Proof.Machine
end

