-- ==== Sys2Proof/Laws/Ops.lean ====
section
/-!
SUPPORT. What the operations of Machine/Ops.lean leave in registers and fields.
-/
namespace Sys2Proof.Machine

/-! ### Bits of a word -/

theorem putField_toNat (w : Word) {hi lo : Nat} (v : Nat) (h : lo ≤ hi) (hh : hi < 32) :
    (putField w hi lo v).toNat =
      w.toNat / 2 ^ (hi + 1) * 2 ^ (hi + 1) + v % 2 ^ (hi + 1 - lo) * 2 ^ lo + w.toNat % 2 ^ lo := by
  have e : 2 ^ (hi + 1) = 2 ^ (hi + 1 - lo) * 2 ^ lo := by rw [← Nat.pow_add]; congr 1; omega
  have e' : 2 ^ 32 = 2 ^ (32 - (hi + 1)) * 2 ^ (hi + 1) := by rw [← Nat.pow_add]; congr 1; omega
  have hv : v % 2 ^ (hi + 1 - lo) < 2 ^ (hi + 1 - lo) := Nat.mod_lt _ (Nat.two_pow_pos _)
  have hr : w.toNat % 2 ^ lo < 2 ^ lo := Nat.mod_lt _ (Nat.two_pow_pos _)
  have hw : w.toNat / 2 ^ (hi + 1) < 2 ^ (32 - (hi + 1)) := by
    rw [Nat.div_lt_iff_lt_mul (Nat.two_pow_pos _), ← e']
    exact w.isLt
  have h1 : v % 2 ^ (hi + 1 - lo) * 2 ^ lo + w.toNat % 2 ^ lo < 2 ^ (hi + 1) := by
    rw [e]
    calc _ < v % 2 ^ (hi + 1 - lo) * 2 ^ lo + 2 ^ lo := by omega
      _ = (v % 2 ^ (hi + 1 - lo) + 1) * 2 ^ lo := by rw [Nat.add_mul, Nat.one_mul]
      _ ≤ _ := Nat.mul_le_mul_right _ hv
  rw [putField, BitVec.toNat_ofNat, Nat.mod_eq_of_lt, ]
  rw [e']
  calc _ < w.toNat / 2 ^ (hi + 1) * 2 ^ (hi + 1) + 2 ^ (hi + 1) := by omega
    _ = (w.toNat / 2 ^ (hi + 1) + 1) * 2 ^ (hi + 1) := by rw [Nat.add_mul, Nat.one_mul]
    _ ≤ _ := Nat.mul_le_mul_right _ hw

/-- A field that has been put reads as what was put, modulo its size. -/
theorem fieldOf_putField (w : Word) {hi lo : Nat} (v : Nat) (h : lo ≤ hi) (hh : hi < 32) :
    fieldOf (putField w hi lo v) hi lo = v % 2 ^ (hi + 1 - lo) := by
  have e : 2 ^ (hi + 1) = 2 ^ (hi + 1 - lo) * 2 ^ lo := by rw [← Nat.pow_add]; congr 1; omega
  rw [fieldOf, putField_toNat w v h hh, e, ← Nat.mul_assoc, ← Nat.add_mul, Nat.add_comm (_ * _),
    Nat.add_mul_div_right _ _ (Nat.two_pow_pos _), Nat.div_eq_of_lt (Nat.mod_lt _ (Nat.two_pow_pos _)), Nat.zero_add,
    Nat.add_comm, Nat.add_mul_mod_self_right, Nat.mod_mod]

/-- Putting a field leaves the bits below it. -/
theorem putField_mod (w : Word) {hi lo n : Nat} (v : Nat) (h : lo ≤ hi) (hh : hi < 32) (hn : n ≤ lo) :
    (putField w hi lo v).toNat % 2 ^ n = w.toNat % 2 ^ n := by
  have e : 2 ^ (hi + 1) = 2 ^ (hi + 1 - n) * 2 ^ n := by rw [← Nat.pow_add]; congr 1; omega
  have e' : 2 ^ lo = 2 ^ (lo - n) * 2 ^ n := by rw [← Nat.pow_add]; congr 1; omega
  rw [putField_toNat w v h hh]
  rw [show w.toNat / 2 ^ (hi + 1) * 2 ^ (hi + 1) + v % 2 ^ (hi + 1 - lo) * 2 ^ lo + w.toNat % 2 ^ lo =
    w.toNat % 2 ^ lo + (w.toNat / 2 ^ (hi + 1) * 2 ^ (hi + 1 - n) + v % 2 ^ (hi + 1 - lo) * 2 ^ (lo - n)) * 2 ^ n by
      rw [Nat.add_mul, Nat.mul_assoc, Nat.mul_assoc, ← e, ← e']; omega]
  rw [Nat.add_mul_mod_self_right, Nat.mod_mod_of_dvd _ (pow_dvd_pow 2 hn)]

/-- Putting a field leaves the bits above it. -/
theorem putField_div (w : Word) {hi lo n : Nat} (v : Nat) (h : lo ≤ hi) (hh : hi < 32) (hn : hi < n) :
    (putField w hi lo v).toNat / 2 ^ n = w.toNat / 2 ^ n := by
  have e : 2 ^ (hi + 1) = 2 ^ (hi + 1 - lo) * 2 ^ lo := by rw [← Nat.pow_add]; congr 1; omega
  have hv : v % 2 ^ (hi + 1 - lo) < 2 ^ (hi + 1 - lo) := Nat.mod_lt _ (Nat.two_pow_pos _)
  have hr : w.toNat % 2 ^ lo < 2 ^ lo := Nat.mod_lt _ (Nat.two_pow_pos _)
  have h1 : v % 2 ^ (hi + 1 - lo) * 2 ^ lo + w.toNat % 2 ^ lo < 2 ^ (hi + 1) := by
    rw [e]
    calc _ < v % 2 ^ (hi + 1 - lo) * 2 ^ lo + 2 ^ lo := by omega
      _ = (v % 2 ^ (hi + 1 - lo) + 1) * 2 ^ lo := by rw [Nat.add_mul, Nat.one_mul]
      _ ≤ _ := Nat.mul_le_mul_right _ hv
  have h2 : (putField w hi lo v).toNat / 2 ^ (hi + 1) = w.toNat / 2 ^ (hi + 1) := by
    rw [putField_toNat w v h hh, Nat.add_assoc, Nat.add_comm, Nat.add_mul_div_right _ _ (Nat.two_pow_pos _),
      Nat.div_eq_of_lt h1, Nat.zero_add]
  have hs : 2 ^ n = 2 ^ (hi + 1) * 2 ^ (n - (hi + 1)) := by rw [← Nat.pow_add]; congr 1; omega
  rw [hs, ← Nat.div_div_eq_div_mul, ← Nat.div_div_eq_div_mul, h2]

/-- Putting a field leaves a field below it. -/
theorem fieldOf_putField_below (w : Word) {hi lo hi' lo' : Nat} (v : Nat) (h : lo ≤ hi) (hh : hi < 32) (hb : hi' < lo)
    (h' : lo' ≤ hi') : fieldOf (putField w hi lo v) hi' lo' = fieldOf w hi' lo' := by
  have e : ∀ x : Nat, x / 2 ^ lo' % 2 ^ (hi' + 1 - lo') = x % 2 ^ (hi' + 1) / 2 ^ lo' := by
    intro x
    rw [show hi' + 1 = lo' + (hi' + 1 - lo') by omega, Nat.pow_add, Nat.mod_mul_right_div_self]
    congr 2
    omega
  rw [fieldOf, fieldOf, e, e, putField_mod w v h hh (by omega)]

/-- Putting a field leaves a field above it. -/
theorem fieldOf_putField_above (w : Word) {hi lo hi' lo' : Nat} (v : Nat) (h : lo ≤ hi) (hh : hi < 32) (ha : hi < lo') :
    fieldOf (putField w hi lo v) hi' lo' = fieldOf w hi' lo' := by
  rw [fieldOf, fieldOf, putField_div w v h hh ha]

/-- A field is below its size. -/
theorem fieldOf_lt (w : Word) (hi lo : Nat) : fieldOf w hi lo < 2 ^ (hi + 1 - lo) := Nat.mod_lt _ (Nat.two_pow_pos _)

/-! ### Registers -/

@[simp] theorem reg_setReg (s : State) (off k : Nat) (v : Word) :
    (s.setReg off v).reg k = if k = off then v else s.reg k := SMap.get_set _ _ _ _ _

@[simp] theorem reg_setRegN (s : State) (off k v : Nat) :
    (s.setRegN off v).reg k = if k = off then BitVec.ofNat 32 v else s.reg k := reg_setReg ..

theorem reg_setFld (s : State) (f : Fld) (v k : Nat) :
    (s.setFld f v).reg k = if k = f.off then putField (s.reg f.off) f.hi f.lo v else s.reg k := reg_setReg ..

theorem reg_setFld_of_ne (s : State) {f : Fld} (v : Nat) {k : Nat} (h : k ≠ f.off) : (s.setFld f v).reg k = s.reg k := by
  rw [reg_setFld, if_neg h]

theorem reg_setFlag_of_ne (s : State) {f : Fld} (b : Bool) {k : Nat} (h : k ≠ f.off) : (s.setFlag f b).reg k = s.reg k :=
  reg_setFld_of_ne s _ h

theorem reg_setFldS_of_ne (s : State) {f : Fld} (v : Int) {k : Nat} (h : k ≠ f.off) : (s.setFldS f v).reg k = s.reg k :=
  reg_setFld_of_ne s _ h

theorem reg_incSat_of_ne (s : State) {f : Fld} (n : Nat) {k : Nat} (h : k ≠ f.off) : (s.incSat f n).reg k = s.reg k :=
  reg_setFld_of_ne s _ h

theorem reg_incWrap_of_ne (s : State) {f : Fld} (n : Nat) {k : Nat} (h : k ≠ f.off) : (s.incWrap f n).reg k = s.reg k :=
  reg_setFld_of_ne s _ h

theorem reg_setRegBit_of_ne (s : State) {off : Nat} (i : Nat) (b : Bool) {k : Nat} (h : k ≠ off) :
    (s.setRegBit off i b).reg k = s.reg k := by
  rw [State.setRegBit, reg_setRegN, if_neg h]

theorem reg_setReg64_of_ne (s : State) {off : Nat} (v : Nat) {k : Nat} (h : k ≠ off) (h' : k ≠ off + 4) :
    (s.setReg64 off v).reg k = s.reg k := by
  rw [State.setReg64, reg_setRegN, if_neg h', reg_setRegN, if_neg h]

/-- A field of another register stands. -/
theorem fld_setFld_of_ne (s : State) {f g : Fld} (v : Nat) (h : g.off ≠ f.off) : (s.setFld f v).fld g = s.fld g := by
  rw [State.fld, State.fld, reg_setFld_of_ne s v h]

/-- The field that has been set. -/
theorem fld_setFld (s : State) (f : Fld) (v : Nat) (h : f.lo ≤ f.hi) (hh : f.hi < 32) :
    (s.setFld f v).fld f = v % 2 ^ (f.hi + 1 - f.lo) := by
  rw [State.fld, reg_setFld, if_pos rfl, fieldOf_putField _ _ h hh]

/-- Another field of the same register stands. -/
theorem fld_setFld_of_disjoint (s : State) {f g : Fld} (v : Nat) (h : f.lo ≤ f.hi) (hh : f.hi < 32) (h' : g.lo ≤ g.hi)
    (hd : g.hi < f.lo ∨ f.hi < g.lo) : (s.setFld f v).fld g = s.fld g := by
  by_cases e : g.off = f.off
  · rw [State.fld, reg_setFld, if_pos e, State.fld, e]
    rcases hd with hd | hd
    · exact fieldOf_putField_below _ _ h hh hd h'
    · exact fieldOf_putField_above _ _ h hh hd
  · exact fld_setFld_of_ne s v e

theorem reg_emit (s : State) (o : Output) (k : Nat) : (s.emit o).reg k = s.reg k := rfl
theorem reg_draw (s : State) (k : Nat) : s.draw.reg k = s.reg k := rfl
theorem reg_raise (s : State) (c k : Nat) : (s.raise c).reg k = s.reg k := rfl

theorem reg_fire (s : State) (x k : Nat) : (s.fire x).reg k = s.reg k := by
  unfold State.fire
  split <;> rfl

/-! ### Host interrupts -/

theorem State.icVector_div_lt (s : State) (src : Nat) : s.icVector src / 32 < 32 := by
  have hf : s.fld (fIC_SRC_s_FUNC src) < 2 ^ 3 := fieldOf_lt _ 10 8
  have hv : s.fld (fIC_SRC_s_VEC src) < 2 ^ 8 := fieldOf_lt _ 7 0
  unfold State.icVector icIndex
  split <;> omega

theorem icOffset_pend {w : Nat} (h : w < 16) : icOffset (rIC_PEND_w w) := Or.inr (by unfold rIC_PEND_w; omega)
theorem icOffset_raw {w : Nat} (h : w < 16) : icOffset (rIC_RAW_w w) := Or.inr (by unfold rIC_RAW_w; omega)
theorem icOffset_disarmed {x : Nat} (h : x < 32) : icOffset (rIC_DISARMED_x x) := Or.inr (by unfold rIC_DISARMED_x; omega)

/-- Only registers that a pending source changes have changed. -/
def IcOnly (s t : State) : Prop := ∀ off, ¬ icOffset off → t.reg off = s.reg off

theorem IcOnly.refl (s : State) : IcOnly s s := fun _ _ => rfl

theorem IcOnly.setRegBit {s t : State} (h : IcOnly s t) {off : Nat} (ho : icOffset off) (i : Nat) (b : Bool) :
    IcOnly s (t.setRegBit off i b) := fun k hk => by
  have e : k ≠ off := fun e => hk (by rw [e]; exact ho)
  rw [reg_setRegBit_of_ne _ _ _ e, h k hk]

theorem IcOnly.foldl {α : Type} {s t : State} {f : State → α → State} {xs : List α} (h : IcOnly s t)
    (hf : ∀ u x, x ∈ xs → IcOnly s u → IcOnly s (f u x)) : IcOnly s (xs.foldl f t) := by
  induction xs generalizing t with
  | nil => exact h
  | cons x xs ih =>
    exact ih (hf t x (List.mem_cons_self ..) h) fun u y hy => hf u y (List.mem_cons_of_mem _ hy)

theorem groupSources_div {g src : Nat} (hg : g < 32) (h : src ∈ groupSources g) : src / 32 < 16 := by
  simp only [groupSources, List.mem_map, List.mem_range] at h
  omega

theorem IcOnly.icSend {s t : State} (h : IcOnly s t) {g ix : Nat} (hg : g < 32) (hx : ix / 32 < 32) :
    IcOnly s (t.icSend g ix) := by
  have h0 : IcOnly s (t.incWrap fIC_COUNT_MSGS) := fun k hk => by
    rw [reg_incWrap_of_ne _ _ (fun e => hk (Or.inl e)), h k hk]
  unfold State.icSend
  dsimp only
  have h1 : IcOnly s (if (t.incWrap fIC_COUNT_MSGS).msixHeld ix then
      { t.incWrap fIC_COUNT_MSGS with
        ic := { (t.incWrap fIC_COUNT_MSGS).ic with pba := (t.incWrap fIC_COUNT_MSGS).ic.pba ||| BitVec.twoPow 320 ix } }
      else (t.incWrap fIC_COUNT_MSGS).emit (.msix ix)) := by
    split <;> exact h0
  split
  · exact h1.setRegBit (icOffset_disarmed hx) _ _
  · refine h1.foldl fun u x hu hs => ?_
    split
    · exact hs.setRegBit (icOffset_pend (groupSources_div hg hu)) _ _
    · exact hs

theorem icSendable_div (s : State) (g : Nat) : ∀ ix ∈ s.icSendable g, ix / 32 < 32 := by
  unfold State.icSendable
  generalize hl : ((groupSources g).filter s.icAsserting).map s.icVector = l
  have hb : ∀ ix ∈ l, ix / 32 < 32 := by
    intro ix hix
    rw [← hl, List.mem_map] at hix
    obtain ⟨x, -, rfl⟩ := hix
    exact s.icVector_div_lt x
  have key : ∀ (l acc : List Nat), (∀ ix ∈ l, ix / 32 < 32) → (∀ ix ∈ acc, ix / 32 < 32) →
      ∀ ix ∈ l.foldl (fun acc ix => if ix ∈ acc || s.icDisarmed ix then acc
        else acc.insertIdx (acc.countP (· < ix)) ix) acc, ix / 32 < 32 := by
    intro l
    induction l with
    | nil => exact fun acc _ ha => ha
    | cons x l ih =>
      intro acc hl ha
      refine ih _ (fun ix hi => hl ix (List.mem_cons_of_mem _ hi)) ?_
      dsimp only
      split
      · exact ha
      · intro ix hi
        rcases List.eq_or_mem_of_mem_insertIdx hi with rfl | hi
        · exact hl _ (List.mem_cons_self ..)
        · exact ha ix hi
  exact key l [] hb (by simp)

theorem IcOnly.icService {s t : State} (h : IcOnly s t) {g : Nat} (hg : g < 32) : IcOnly s (t.icService g) := by
  unfold State.icService
  split
  · split
    · exact h
    · rename_i ixs hne
      have h1 : IcOnly s ((t.icSendable g).foldl (fun t ix => t.icSend g ix) t) :=
        h.foldl fun u x hx hu => hu.icSend hg (icSendable_div t g x hx)
      dsimp only
      split <;> exact h1
  · exact h

theorem icSource_lt (s : State) {src : Nat} (h : s.icSource src = true) : src < 512 := by
  by_contra hc
  unfold State.icSource at h
  repeat' split at h
  all_goals simp_all
  all_goals omega

theorem icOnly_icPend (s : State) (src : Nat) : IcOnly s (s.icPend src) := by
  unfold State.icPend
  split
  · rename_i hc
    have hs : src < 512 := icSource_lt s (by simp_all)
    have h0 : IcOnly s (if s.icStray src && !s.icPending src then s.incSat fIC_COUNT_STRAY else s) := by
      split
      · exact fun k hk => reg_incSat_of_ne _ _ (fun e => hk (Or.inl e))
      · exact IcOnly.refl s
    exact (h0.setRegBit (icOffset_pend (by omega)) _ _).icService (by omega)
  · exact IcOnly.refl s

theorem IcOnly.trans {s t u : State} (h : IcOnly s t) (k : IcOnly t u) : IcOnly s u :=
  fun off ho => (k off ho).trans (h off ho)

theorem icOnly_icLevel (s : State) (src : Nat) (b : Bool) : IcOnly s (s.icLevel src b) := by
  unfold State.icLevel
  split
  · rename_i hc
    have hs : src < 512 := icSource_lt s (by simp_all)
    have h0 := (IcOnly.refl s).setRegBit (icOffset_raw (w := src / 32) (by omega)) (src % 32) b
    dsimp only
    split
    · exact h0.trans (icOnly_icPend _ _)
    · exact h0
  · exact IcOnly.refl s

/-- A register that no pending source changes stands when a source becomes pending. -/
theorem reg_icPend (s : State) (src : Nat) {k : Nat} (h : ¬ icOffset k) : (s.icPend src).reg k = s.reg k :=
  icOnly_icPend s src k h

theorem reg_icLevel (s : State) (src : Nat) (b : Bool) {k : Nat} (h : ¬ icOffset k) :
    (s.icLevel src b).reg k = s.reg k := icOnly_icLevel s src b k h

end Sys2Proof.Machine
end

