-- ==== Sys2Proof/WellFormed.lean ====
section
/-!
DEFINITION. Which commands can occur: the conditions on operands that the types of the operands do not say.
-/
namespace Sys2Proof

/-- Is a flit's class or kind one of R292? -/
def kindListed (cl kind : Nat) : Bool :=
  (cl == 0 && kind < 3) || (cl == 1 && kind == 0) || (cl == 2 && kind < 4) || (cl == 3 && kind < 2) || (cl == 7 && kind == 0)

/-- Can the command occur? A header is 256 bytes long (R387); BAD_KIND is of a reserved kind (R292); the bytes 0x03 and 0x05
begin other SPI commands (R405). -/
def Instr.wf : Instr → Bool
  | .imageCheck i => i.header.length == 256
  | .badKind _ cl kind => !kindListed cl.toNat kind.toNat
  | .spiWrite cmd _ _ _ => cmd != 0x03 && cmd != 0x05
  | _ => true

end Sys2Proof
end

