-- ==== Sys2Proof/Tests/Slice0.lean ====
section
/-!
SUPPORT. Tests: for each statement of Obligations.lean a state and operands that meet the hypotheses of its clauses, with what
the command answers there; ill-formed commands; bundles written out from the encodings of 08_reed_core_isa.md.
-/
namespace Sys2Proof.Tests

set_option Elab.async false

open Sys2Proof Sys2Proof.Machine

/-- The command answers a next state with a property. -/
def runs (i : Instr) (s : State) (post : State → Bool) : Bool :=
  match exec i s with
  | .next t => post t
  | _ => false

/-- A state with fields set. -/
def put (s : State) (l : List (Fld × Nat)) : State := l.foldl (fun t x => t.setFld x.1 x.2) s

/-- A state with registers set. -/
def putReg (s : State) (l : List (Nat × Nat)) : State := l.foldl (fun t x => t.setRegN x.1 x.2) s

/-- The device in a mode, with every domain powered and every clock locked. -/
def inMode (m : Nat) : State :=
  put State.reset [(fPM_STATUS_MODE, m), (fPM_PD_STATUS_ON, 0x3FFFFFFF), (fPM_CLK_STATUS_LOCKED, 0x1FFFFFF)]

/-- The device in READY. -/
def ready : State := inMode 7

/-- Fabric time at a tick. -/
def atTick (s : State) (n : Nat) : State := { s with tm := { s.tm with ft := BitVec.ofNat 80 (65536 * n) } }

/-! ### Fabric time -/

/-- The reference is locked and the servo settings are in range. -/
def timeReady : State :=
  put ready [(fTM_STATUS_REF_LOCK, 1), (fTM_REF_FREQ_FREQ_KHZ, 100000), (fTM_CFG_REMEAS_N, 8), (fTM_CFG_LOSS_N, 4),
    (⟨rTM_ROOT_INIT_M, 31, 0⟩, 7)]

/-- A child in TRACK whose quality is PENDING, with port 2 as parent. -/
def child : State :=
  let s := put timeReady [(fTM_CTRL_ENABLE, 1), (fTM_STATUS_STATE, 3), (fTM_STATUS_QUALITY, 2), (fTM_CTRL_PARENT_PORT, 2)]
  { s with tm := { s.tm with enabled := true, ft := 0x50000, exchanges := 3 } }

theorem test_time_enable :
    timeReady.mayWrite .pf0 rTM_CTRL = true ∧ timeReady.tm.enabled = false ∧ timeReady.modeOpen = true ∧
    timeReady.flag fTM_STATUS_REF_LOCK = true ∧ timeReady.fld fTM_REF_FREQ_FREQ_KHZ = 100000 ∧
    timeReady.fld fTM_CFG_REMEAS_N = 8 ∧ timeReady.fld fTM_CFG_LOSS_N = 4 ∧
    (runs (.tmEnable .pf0 3) timeReady fun t => t.tm.enabled && t.fld fTM_STATUS_STATE == 1 && t.fld fTM_STATUS_QUALITY == 3 &&
      t.tm.ft == 0x700000000 && !t.flag fTM_STATUS_REFUSED) = true ∧
    timeReady.portPresent 7 = true ∧
    (runs (.tmEnable .pf0 0x71) timeReady fun t => t.tm.enabled && t.fld fTM_STATUS_STATE == 2 && t.fld fTM_STATUS_QUALITY == 0 &&
      t.fld fTM_CTRL_PARENT_PORT == 7) = true := by decide +kernel

theorem test_time_child_changes :
    child.mayWrite .pf0 rTM_CTRL = true ∧ child.tm.enabled = true ∧ child.flag fTM_CTRL_ROLE = false ∧
    child.fld fTM_STATUS_STATE = 3 ∧ child.fld fTM_STATUS_QUALITY = 2 ∧ child.flag fTM_CTRL_ENABLE = true ∧
    (runs (.tmDisable .pf0) child fun t => !t.tm.enabled && t.fld fTM_STATUS_STATE == 0 && t.tm.ft == 0x50000) = true ∧
    (runs (.parentPortWrite .pf0 7) child fun t => t.fld fTM_CTRL_PARENT_PORT == 7 && t.fld fTM_STATUS_STATE == 4 &&
      t.faultLog == [0x0B02] && t.tm.exchanges == 0 && t.fld fTM_COUNT_HOLDOVER_COUNT == 1) = true ∧
    (runs .lossTimeout child fun t => t.fld fTM_STATUS_STATE == 4 && t.fld fTM_STATUS_QUALITY == 1 &&
      t.faultLog == [0x0B02] && t.tm.exchanges == 0) = true ∧
    (runs (.asymAck .pf0) child fun t => t.fld fTM_STATUS_QUALITY == 3 && t.tm == child.tm && t.fen.presented == [0x312]) = true ∧
    (runs (.asymWrite .pf0 2 0 5) child fun t => t.fld fTM_STATUS_QUALITY == 3 && t.reg (rTM_ASYMp_i 2 0) == 5) = true ∧
    (runs (.asymWrite .pf0 7 15 5) child fun t => t.fld fTM_STATUS_QUALITY == 2 && t.reg (rTM_ASYMp_i 7 15) == 5) = true := by
  decide +kernel

/-- A child in ACQUIRE with seven exchanges made; port 2 is ACTIVE and has sent a flit at tick 0 with TSEQ 9. -/
def acquiring : State :=
  let s := put child [(fTM_STATUS_STATE, 2), (fTM_STATUS_QUALITY, 0), (fCW_Pp_STATUS_STATE 2, 5), (fCW_Pp_STATUS_STATE 7, 5)]
  { s with
    tm := { s.tm with exchanges := 7 }
    tmPorts := SMap.set (fun _ => {}) s.tmPorts 2 { ({} : TmPort) with
      rxSeq := 4, rxStamp := 0x1000000, sent := [(9, 0x1800000)], prev := some (0x800000000, 0) } }

/-- A TIME flit of root 3. -/
def flitOfRoot : TimeFlit := {
  tseq := 5, tTx := 0x3000000, echoSeq := 9, tRxEcho := 0x2000000, hops := 63, quality := 3, rootId := 3, hold := false }

theorem test_time_flit :
    acquiring.portActive 2 = true ∧ acquiring.pdOn 7 = true ∧ acquiring.tmParentIs 2 = true ∧
    acquiring.tm.rootKnown = false ∧ acquiring.fld fTM_CFG_REMEAS_N = 8 ∧
    exchangeOf (acquiring.tmPort 2) flitOfRoot 0x3020000 = none ∧
    (runs (.time 2 flitOfRoot 0x3020000) acquiring fun t => t.fld fTM_COUNT_FLIT_LOST == 1 && t.tm.ft == acquiring.tm.ft &&
      t.tm.exchanges == 7 && t.fld fTM_STATUS_STATE == 2) = true := by decide +kernel

/-- The same with no exchange before, so that the exchange is valid. -/
def acquired : State :=
  { acquiring with tmPorts := SMap.set (fun _ => {}) [] 2 { acquiring.tmPort 2 with prev := none } }

theorem test_time_flit_steps :
    acquired.portActive 2 = true ∧ acquired.pdOn 7 = true ∧ acquired.tm.rootKnown = false ∧ acquired.tmParentIs 2 = true ∧
    acquired.fld fTM_STATUS_STATE = 2 ∧ acquired.modeOpen = true ∧ acquired.tm.exchanges + 1 = acquired.fld fTM_CFG_REMEAS_N ∧
    exchangeOf (acquired.tmPort 2) flitOfRoot 0x3020000 = some (0x20000, 0x800000) ∧
    (runs (.time 2 flitOfRoot 0x3020000) acquired fun t => t.fld fTM_STATUS_STATE == 3 && t.fld fTM_STATUS_QUALITY == 2 &&
      t.fld fTM_ROOT_ROOT_ID == 3 && t.fld fTM_STATUS_HOPS == 63 && t.fld fTM_COUNT_STEP_COUNT == 1 && t.tm.exchanges == 0 &&
      t.tm.ft == 0x50000 + 0x3F0000) = true := by decide +kernel

theorem test_time_flit_root :
    let s := { acquiring with tm := { acquiring.tm with rootKnown := true } }
    (runs (.time 7 flitOfRoot 0) s fun t => t.flag fTM_ROOT_ROOT_MISMATCH && t.faultLog == [0x0B04] && t.tm == s.tm) = true := by
  decide +kernel

/-- PPS capture on falling edges, with a capture at 0x1400 in the FIFO. -/
def pps : State :=
  let s := put child [(fTM_PPS_CFG_EN, 1), (fTM_PPS_CFG_EDGE, 1)]
  { s with tm := { s.tm with lastPps := some 0x1400, ppsFifo := [0x8000123456789ABC0000] } }

theorem test_pps :
    pps.flag fTM_PPS_CFG_EN = true ∧ pps.flag fTM_PPS_CFG_EDGE = true ∧ pps.fld fTM_STATUS_STATE ≠ 0 ∧
    (0x4017FF - 0x1400 : BitVec 80).toNat = 64 * 65536 + 0x3FF ∧
    (runs (.ppsEdge true 0x4017FF) pps fun t => t.tm.ppsFifo == [0x8000123456789ABC0000, 0x401400] &&
      t.fld fTM_PPS_CFG_COUNT == 2 && t.fen.presented == [0x310]) = true ∧
    (runs (.ppsEdge true 0x4017FF) { pps with tm := { pps.tm with ppsFifo := [1, 2, 3, 4] } } fun t =>
      t.flag fTM_PPS_CFG_OVERRUN && t.tm.ppsFifo == [1, 2, 3, 4] && t.fen.presented == []) = true ∧
    pps.reachable rTM_PPS_L = true ∧ pps.snapCovers .pf0 rTM_PPS_L = false ∧
    (runs (.ppsRead .pf0 0) pps fun t => t.out == [.readData .pf0 rTM_PPS_L 0x9ABC0000] &&
      t.latched .pf0 rTM_PPS_M == 0x12345678 && t.latched .pf0 rTM_PPS_H == 0x80008000 && t.ppsProgress .pf0 == 1 &&
      t.tm == pps.tm) = true ∧
    (runs (.ppsRead .pf0 2) { pps with ppsStage := SMap.set (fun _ => 0) [] 0 2 } fun t =>
      t.tm.ppsFifo == []) = true := by decide +kernel

/-- Output 7 pulses every 32 ticks from tick 2000 on, 31 ticks long; fabric time is tick 1999. -/
def pulses : State :=
  atTick (putReg child [(rTM_TPOn_WIDTH 7, 31), (rTM_TPOn_PERIOD_L 7, 32), (rTM_TPOn_START_L 7, 2000)]) 1999

theorem test_tpo :
    pulses.mayWrite .pf0 (rTM_TPOn_CTRL 7) = true ∧ (pulses.tpo 7).enabled = false ∧ pulses.tpoPeriod 7 = 32 ∧
    pulses.tpoStart 7 = 2000 ∧
    (runs (.tpoEnable .pf0 7 1) pulses fun t => (t.tpo 7).enabled && (t.tpo 7).tEn == 1999 &&
      t.flag (fTM_TPOn_STATUS_ACTIVE 7) && !t.flag (fTM_TPOn_STATUS_REFUSED 7)) = true ∧
    (runs (.tpoEnable .pf0 7 1) (putReg pulses [(rTM_TPOn_WIDTH 7, 15)]) fun t => !(t.tpo 7).enabled &&
      t.flag (fTM_TPOn_STATUS_REFUSED 7) && t.fld (fTM_TPOn_STATUS_REASON 7) == 7) = true ∧
    (runs (.tpoEnable .pf0 7 1) (putReg pulses [(rTM_TPOn_PERIOD_L 7, 0)]) fun t =>
      t.flag (fTM_TPOn_STATUS_MISSED 7)) = true ∧
    (runs (.tpoEnable .pf0 7 1) pulses fun t =>
      (runs (.tpoPulse 7) (atTick t 2512) fun u => (u.tpo 7).pulseEnd == 2543 && u.fen.presented == [0x31F]) &&
      (runs (.tpoDisable .pf0 7) t fun u => !(u.tpo 7).enabled && !u.flag (fTM_TPOn_CTRL_EN 7))) = true := by decide +kernel

theorem test_time_flit_due :
    (runs (.timeFlitDue (Vector.replicate 8 0x77)) acquiring fun t => (t.tmPort 7).txSeq == 1 &&
      (t.tmPort 7).sent == [(0, 0x77)] && (t.tmPort 2).sent == [(0, 0x77), (9, 0x1800000)] && t.tmPort 3 == {}) = true := by
  decide +kernel

/-! ### Drive, flux and read-out units of a Pool -/

/-- READY, Pool 15's tones 0–23 with ALLOC 16 and, where in use, carriers and offsets in band; FEN widths 16. -/
def pool15 : State :=
  let s := (List.range 24).foldl (fun t k => t.setFld (fDRV_Tk_ALLOC_ALLOC 15 k) 16) ready
  let s := (List.range 4).foldl (fun t d => put t [(⟨rDRV_DACd_CFTW_L 15 d + 4, 31, 0⟩, 0x2000)]) s
  (List.range 4).foldl (fun t m => put t [(fMK_m_CFG_FEN_WIDTH 15 m, 16), (fMK_m_DELAY_DELAY 15 m, 8191)]) s

theorem test_drive_enable :
    pool15.mayWrite .pf0 (rDRV_CTRL 15) = true ∧ pool15.flag (fDRV_STATUS_ENABLED 15) = false ∧ pool15.modeOpen = true ∧
    pool15.locked 24 = true ∧ pool15.allocSum 15 = 384 ∧
    (∀ k < 32, 0 < pool15.fld (fDRV_Tk_ALLOC_ALLOC 15 k) → carrierInBand (pool15.reg48 (rDRV_DACd_CFTW_L 15 (k / 8))) = true ∧
      offsetInBand (pool15.reg48 (rDRV_Tk_FTW_L 15 k)) = true ∧
      sumInBand (pool15.reg48 (rDRV_DACd_CFTW_L 15 (k / 8))) (pool15.reg48 (rDRV_Tk_FTW_L 15 k)) = true) ∧
    pool15.flag (fMK_m_CFG_TRIG_IN 15 3) = false ∧
    (runs (.drvEnable .pf0 15) pool15 fun t => t.flag (fDRV_STATUS_ENABLED 15) && !t.flag (fDRV_STATUS_REFUSED 15)) = true ∧
    (put pool15 [(fDRV_Tk_ALLOC_ALLOC 15 31, 1)]).allocSum 15 = 385 ∧
    (runs (.drvEnable .pf0 15) (put pool15 [(fDRV_Tk_ALLOC_ALLOC 15 31, 1)]) fun t => !t.flag (fDRV_STATUS_ENABLED 15) &&
      t.flag (fDRV_CTRL_ENABLE 15) && t.flag (fDRV_STATUS_REFUSED 15) && t.fld (fDRV_STATUS_REASON 15) == 0x20) = true := by
  decide +kernel

/-- A playing chain of a segment with so many passes. -/
def playing (loop passNo : Nat) (last : Bool) : Chain :=
  { ({} : Chain) with
    active := true, entry := 5, passNo := passNo, start := 65536 * 100
    seg := { ({} : Seg) with rate := 0x10000, len := 8, loop := loop, last := last, valid := true, next := 9 } }

/-- Pool 15 with its drive tone 31, its transmit tone 31 and its flux channel 7 playing, a marker pulse, and armed commands. -/
def busyPool : State :=
  let s := put pool15 [(fDRV_CTRL_ENABLE 15, 1), (fDRV_STATUS_ENABLED 15, 1), (fRO_CTRL_ENABLE 15, 1), (fRO_STATUS_ENABLED 15, 1),
    (fFLX_CTRL_ENABLE 15, 1), (fFLX_STATUS_ENABLED 15, 1), (⟨rDRV_Tk_COUNT 15 31, 31, 0⟩, 7), (⟨rRO_Tk_COUNT 15 31, 31, 0⟩, 7),
    (⟨rFLX_Cf_SAT 15 7, 31, 0⟩, 7)]
  let cmd : Armed := ⟨⟨1, 31, 5000, 0, 0, 0, 0, 0, 0, 60⟩, none⟩
  { s with
    chains := [(72 * 15 + 31, playing 0 0 true), (72 * 15 + 63, playing 0 0 true), (72 * 15 + 71, playing 0 0 true)]
    markers := [(63, { ({} : Marker) with fenEnd := 9 })]
    armed := [(128 * 15 + 0x1F, [cmd]), (128 * 15 + 0x3F, [cmd]), (128 * 15 + 0x47, [cmd])] }

theorem test_pool_units_disable :
    busyPool.poolHeld 15 = false ∧
    (runs (.drvDisable .pf0 15) busyPool fun t => !t.flag (fDRV_STATUS_ENABLED 15) && !(t.chain 15 31).active &&
      (t.chain 15 63).active && (t.chain 15 71).active && t.marker 15 3 == {} && t.armedAt 15 31 == [] &&
      (t.armedAt 15 0x3F).length == 1 && (t.armedAt 15 0x47).length == 1) = true ∧
    (runs (.flxDisable .pf0 15) busyPool fun t => !t.flag (fFLX_STATUS_ENABLED 15) && (t.chain 15 31).active &&
      (t.chain 15 63).active && !(t.chain 15 71).active && (t.armedAt 15 31).length == 1 && t.armedAt 15 0x47 == []) = true ∧
    (runs (.roDisable .pf0 15) busyPool fun t => !t.flag (fRO_STATUS_ENABLED 15) && (t.chain 15 31).active &&
      !(t.chain 15 63).active) = true := by decide +kernel

/-- The same in a RUN that holds Pool 15. -/
def heldPool : State := { busyPool with runs := [{ ({} : Run) with active := true, coreMask := 2 ^ 63 }] }

theorem test_pool_units_held_and_cleared :
    heldPool.poolHeld 15 = true ∧ (runs (.drvDisable .pf0 15) heldPool fun t => t == heldPool) = true ∧
    (runs (.flxDisable .pf0 15) heldPool fun t => t == heldPool) = true ∧
    (runs (.roDisable .pf0 15) heldPool fun t => t == heldPool) = true ∧
    (runs (.drvClrCount .pf0 15) busyPool fun t => t.reg (rDRV_Tk_COUNT 15 31) == 0 && t == { busyPool with regs := t.regs }) = true ∧
    (runs (.flxClrCount .pf0 15) busyPool fun t => t.reg (rFLX_Cf_SAT 15 7) == 0) = true ∧
    (runs (.roClrCount .pf0 15) busyPool fun t => t.reg (rRO_Tk_COUNT 15 31) == 0 && t == { busyPool with regs := t.regs }) = true := by
  decide +kernel

theorem test_flux_enable :
    (∀ f < 8, ready.fld (fFLX_Cf_ALLOC_ALLOC 15 f) ≤ 16 ∧ ready.fld (fFLX_Cf_DELAY_MBZ 15 f) = 0) ∧ ready.allocSum 15 ≤ 384 ∧
    (runs (.flxEnable .pf0 15) (put ready [(fFLX_Cf_IIRs_CTRL_EN 15 7 3, 1), (⟨rFLX_Cf_IIRs_P 15 7 3, 31, 0⟩, 1073740800)]) fun t =>
      t.flag (fFLX_STATUS_ENABLED 15) && !t.flag (fFLX_STATUS_REFUSED 15)) = true ∧
    (runs (.flxEnable .pf0 15) (put ready [(fFLX_Cf_IIRs_CTRL_EN 15 7 3, 1), (⟨rFLX_Cf_IIRs_P 15 7 3, 31, 0⟩, 1073740801)]) fun t =>
      !t.flag (fFLX_STATUS_ENABLED 15) && t.fld (fFLX_STATUS_REASON 15) == 0x30 && t.fld (fFLX_STATUS_STAGE_ID 15) == 31) = true := by
  decide +kernel

/-- READY with the carriers of Pool 15's read-out lines in band. -/
def carriers : State := put ready [(⟨rRO_Ll_CFTW_L 15 0 + 4, 31, 0⟩, 0x2000), (⟨rRO_Ll_CFTW_L 15 1 + 4, 31, 0⟩, 0x2000)]

theorem test_readout_enable :
    carriers.roCheck 15 = [] ∧
    (runs (.roEnable .pf0 15) carriers fun t => t.flag (fRO_STATUS_ENABLED 15) && !t.flag (fRO_STATUS_REFUSED 15)) = true ∧
    (inMode 8).modeOpen = false ∧
    (runs (.roEnable .pf0 15) (inMode 8) fun t => !t.flag (fRO_STATUS_ENABLED 15) && t.flag (fRO_STATUS_REFUSED 15) &&
      t.fld (fRO_STATUS_REASON 15) == 2) = true ∧
    (runs (.accClr .pf0 15 31) { busyPool with tones := [(511, { ({} : RoTone) with sumI := 4, bins := [(1, 2)] })] } fun t =>
      (t.tone 15 31).sumI == 0 && (t.tone 15 31).bins == [] && t.regN (rRO_Tk_SHOTS 15 31) == 0) = true ∧
    (runs (.histClr .pf0 15 31) (put ready [(⟨rRO_Tk_TRK_HIST_b 15 31 255, 31, 0⟩, 9)]) fun t =>
      t.reg (rRO_Tk_TRK_HIST_b 15 31 255) == 0 && t == { ready with regs := t.regs }) = true := by decide +kernel

/-! ### Segments, stream buffers and chains -/

/-- Words for entry 4095 of Pool 15: rate 1, the last eight samples of Peat, type 0, LAST, VALID. -/
def staged (w : Nat → Nat) : State :=
  { ready with segStage := (List.range 7).foldl (fun m j => SMap.set (fun _ => 0) m (rSEG_e 15 4095 + 4 * j)
      (BitVec.ofNat 32 (w j))) [] }

def goodWords (j : Nat) : Nat :=
  if j = 0 then 0x10000 else if j = 1 then 0x1FFFF else if j = 2 then 8 else if j = 5 then 3 else 0

theorem test_segment_commit :
    (staged goodWords).mayWrite .pf0 (rSEG_e 15 4095 + 28) = true ∧
    (runs (.segmentCommit .pf0 15 4095) (staged goodWords) fun t => (t.segEntry 15 4095).valid && (t.segEntry 15 4095).len == 8 &&
      !t.flag (fDRV_STATUS_REFUSED 15)) = true ∧
    (runs (.segmentCommit .pf0 15 4095) (staged fun j => if j = 2 then 9 else goodWords j) fun t =>
      !(t.segEntry 15 4095).valid && (t.segEntry 15 4095).len == 9 && t.flag (fDRV_STATUS_REFUSED 15) &&
      t.fld (fDRV_STATUS_REASON 15) == 0x22) = true ∧
    (runs (.segmentCommit .pf0 15 4095) { put (staged goodWords) [(fPEAT_SBb_CFG_BASE 15 15, 0x1FFF8), (fPEAT_SBb_CFG_SIZE 15 15, 1)]
        with sbufs := [(255, { ({} : SBuf) with enabled := true })] } fun t =>
      !(t.segEntry 15 4095).valid && t.flag (fDRV_STATUS_REFUSED 15) && t.fld (fDRV_STATUS_REASON 15) == 6) = true := by
  decide +kernel

/-- Stream buffer 15 of Pool 15 over all of Peat. -/
def streamAll : State := put ready [(fPEAT_SBb_CFG_SIZE 15 15, 16384), (⟨rPEAT_SBb_WRPOS_L 15 15, 31, 0⟩, 6)]

theorem test_stream_buffer :
    streamAll.mayWrite .pf0 (rPEAT_SBb_CTRL 15 15) = true ∧
    (streamAll.sbRegion 15 15).1 + (streamAll.sbRegion 15 15).2 = 1048576 ∧
    (runs (.streamBufferEnable .pf0 15 15 1) streamAll fun t => (t.sbuf 15 15).enabled && t.flag (fPEAT_SBb_CTRL_EN 15 15) &&
      !t.flag (fPEAT_SBb_CTRL_REFUSED 15 15) && t.reg64 (rPEAT_SBb_WRPOS_L 15 15) == 0) = true ∧
    (runs (.streamBufferEnable .pf0 15 15 1) (put ready [(fPEAT_SBb_CFG_SIZE 15 15, 0)]) fun t => !(t.sbuf 15 15).enabled && t.flag (fPEAT_SBb_CTRL_REFUSED 15 15) &&
      t.fld (fPEAT_SBb_CTRL_REASON 15 15) == 7) = true ∧
    (runs (.streamBufferDisable .pf0 15 15 0) { streamAll with
        sbufs := [(255, { ({} : SBuf) with enabled := true, user := some 31 })], chains := [(72 * 15 + 31, playing 0 0 true)] } fun t =>
      !(t.sbuf 15 15).enabled && t.faultLog == [0x0203] && !(t.chain 15 31).active &&
      t.reg64 (rPEAT_SBb_WRPOS_L 15 15) == 6) = true := by decide +kernel

/-- Drive tone 31 plays stream buffer 15, with so many samples in it. -/
def streaming (n : Nat) (policy : Nat) : State :=
  let c := playing 0 0 true
  { put ready [(⟨rPEAT_SBb_WRPOS_L 15 15, 31, 0⟩, n), (fPEAT_SBb_CTRL_POLICY 15 15, policy)] with
    chains := [(72 * 15 + 31, { c with seg := { c.seg with stream := true, sbuf := 15 } })]
    sbufs := [(255, { ({} : SBuf) with enabled := true, user := some 31 })] }

theorem test_stream_sample :
    (runs (.streamSampleRead 15 31) (streaming 1 0) fun t => t.reg64 (rPEAT_SBb_RDPOS_L 15 15) == 1 && (t.chain 15 31).taken == 1 &&
      t.faultLog == []) = true ∧
    (runs (.streamSampleRead 15 31) (streaming 0 0) fun t => t.reg64 (rPEAT_SBb_RDPOS_L 15 15) == 1 && t.faultLog == [0x0601] &&
      t.fld (fPEAT_SBb_COUNT_UNDERRUN 15 15) == 1 && (t.chain 15 31).active && !(t.chain 15 31).muted) = true ∧
    (runs (.streamSampleRead 15 31) (streaming 0 1) fun t => t.faultLog == [0x0601] && !(t.chain 15 31).active &&
      (t.chain 15 31).muted) = true := by decide +kernel

/-- Pool 15 with committed entries 5 and 9, and drive tone 31 playing. -/
def chained (loop passNo : Nat) (last : Bool) : State :=
  let words (t : State) (e : Nat) : State := (List.range 7).foldl (fun u j => u.setRegN (rSEG_e 15 e + 4 * j) (goodWords j)) t
  { put (words (words ready 5) 9) [(fDRV_Tk_ALLOC_ALLOC 15 31, 16), (fDRV_Tk_JUMP_CFG_FEN_EN 15 31, 1),
      (fDRV_Tk_JUMP_CFG_FEN_TGT 15 31, 9), (fDRV_STATUS_ENABLED 15, 1)] with
    chains := [(72 * 15 + 31, playing loop passNo last)] }

theorem test_pass_end :
    (runs (.passEnd 15 31) (chained 1 0 true) fun t => (t.chain 15 31).active && (t.chain 15 31).entry == 5 &&
      (t.chain 15 31).passNo == 1 && (t.chain 15 31).start == (playing 1 0 true).endsAt && t.faultLog == []) = true ∧
    (runs (.passEnd 15 31) (chained 1 1 true) fun t => !(t.chain 15 31).active && t.faultLog == []) = true ∧
    (runs (.passEnd 15 31) (chained 1 1 false) fun t => (t.chain 15 31).active && (t.chain 15 31).entry == 9 &&
      (t.chain 15 31).passNo == 0) = true ∧
    (runs (.passEnd 15 31) { ready with chains := (chained 1 1 false).chains } fun t => !(t.chain 15 31).active &&
      t.faultLog == [0x0203]) = true := by decide +kernel

theorem test_jump_requests_and_markers :
    (runs (.jumpReq 15 31) (atTick (chained 1 0 true) 200) fun t => (t.chain 15 31).req == some ⟨9, 200, .fresh⟩ &&
      (runs (.jumpCommitPoint 15 31) t fun u => (u.chain 15 31).committed && (u.chain 15 31).req == some ⟨9, 200, .armed⟩ &&
        (runs (.jumpReq 15 31) u fun v => (v.chain 15 31).req == some ⟨9, 200, .late⟩ &&
          v.fld (fDRV_Tk_COUNT_JUMP_LATE 15 31) == 1))) = true ∧
    (runs (.jumpReq 15 31) { chained 1 0 true with chains := [] } fun t => t.fld (fDRV_Tk_COUNT_JUMP_IDLE 15 31) == 1 &&
      t.chains == []) = true ∧
    (runs (.markPulse 15 3) (atTick (put (chained 1 0 true) [(fMK_m_CFG_FEN_WIDTH 15 3, 16)]) 200) fun t =>
      (t.marker 15 3).fenStart == 200 && (t.marker 15 3).fenEnd == 216) = true ∧
    (runs (.trigInEdge 15) (put (chained 1 0 true) [(fMK_m_CFG_TRIG_IN 15 3, 1)]) fun t =>
      t.fen.presented.length == 1) = true := by decide +kernel

/-! ### Read-out windows and calibration -/

/-- RUN with the read-out unit of Pool 15 enabled, and a record for tone 31 and line 1. -/
def readout (r : RoTone) (l : RoLine) : State :=
  { put (inMode 8) [(fRO_STATUS_ENABLED 15, 1), (fRO_Tk_WIN_LEN_LEN 15 31, 2), (fRO_Tk_WIN_REP_REP 15 31, 1),
      (fRO_Tk_WIN_REP_PERIOD 15 31, 3), (fRO_Tk_DISC_CFG_DEC_EN 15 31, 1), (fRO_Tk_DISC_CFG_INV_ON_OPEN 15 31, 1),
      (fDN_SLOT_s_VALID 511, 1), (fDN_SLOT_s_SEQ 511, 15), (fRO_Tk_INJ_FEN_EN 15 31, 1), (fPM_CAL_STATUS_POOL_CAL, 0x8000)] with
    tones := [(511, r)], lines := [(31, l)] }

theorem test_window_open :
    let s := readout { ({} : RoTone) with seqs := [⟨800, 800⟩], count := 7 } {}
    s.winMode 15 = true ∧ s.fgCovers 15 1 800 = false ∧
    (runs (.windowOpen 15 31) s fun t =>
      (t.tone 15 31).win == some { opened := 800, inj := false, theta := 0, shot := 7 } && (t.tone 15 31).seqs == [] &&
      (t.tone 15 31).more == [896] && (t.tone 15 31).count == 8 && !t.flag (fDN_SLOT_s_VALID 511) &&
      t.fld (fDN_SLOT_s_SEQ 511) == 15) = true ∧
    (runs (.windowOpen 15 31) { s with lines := [(31, { ({} : RoLine) with fgFrom := some 800, fgTo := some 801 })] } fun t =>
      (t.tone 15 31).win == none && (t.tone 15 31).seqs == [] && t.faultLog == [0x0304] &&
      t.fld (fRO_Tk_COUNT_WIN_FAULT 15 31) == 1) = true := by decide +kernel

theorem test_window_start :
    let s := atTick (readout {} {}) 1
    let busy (wait : Nat) : State := put { s with tones := [(511, { ({} : RoTone) with win := some {
      opened := 8, inj := false, theta := 0, shot := 0 } })] } [(fRO_Tk_INJ_INJ_WAIT 15 31, wait)]
    s.fgBusy 15 1 = false ∧ s.busyEnd 15 31 = 0 ∧ (busy 1).busyEnd 15 31 = 72 ∧
    (runs (.windowStart 15 31) s fun t => (t.tone 15 31).inj == some (40, 40) && t.regs == s.regs) = true ∧
    (runs (.windowStart 15 31) (busy 1) fun t => (t.tone 15 31).inj == some (40, 72) &&
      t.fld (fRO_Tk_COUNT_INJ_WAITED 15 31) == 1) = true ∧
    (runs (.windowStart 15 31) (busy 0) fun t => (t.tone 15 31).inj == none &&
      t.fld (fRO_Tk_COUNT_INJ_DROP 15 31) == 1) = true ∧
    (runs (.windowStart 15 31) (put s [(fPM_STATUS_MODE, 7)]) fun t => (t.tone 15 31).inj == none &&
      t.fld (fRO_Tk_COUNT_INJ_DROP 15 31) == 1) = true := by decide +kernel

/-- An open window of tone 31 with one sample; line 0 has A = 1, B = 0 and weight 0 is 1. -/
def open1 (seq : Nat) : State :=
  let s := put (readout { ({} : RoTone) with win := some {
      opened := 800, inj := false, theta := 0, shot := 0, samples := [(0, 0)] } } {})
    [(fRO_Tk_DISC_CFG_NLINES 15 31, 1), (⟨rRO_Tk_LINEi_AB 15 0 31, 15, 0⟩, 1), (fRO_Tk_DISC_CFG_SEQ 15 31, seq),
      (fRO_Tk_WIN_LEN_NWEIGHT 15 31, 1), (fRO_Tk_DISC_CFG_MIN_N 15 31, 1), (⟨rRO_Tk_SEQ_THR 15 31, 31, 0⟩, 1)]
  { s with weights := [(2048 * 511, 1)] }

theorem test_window_end :
    (open1 0).sequential 15 31 = false ∧ (open1 0).fld (fRO_Tk_WIN_LEN_LEN 15 31) = 2 ∧
    (runs (.windowEnd 15 31 [(0x1FFFF, 0)]) (open1 0) fun t => (t.tone 15 31).win == none &&
      t.fld (fRO_Tk_DISC_STATUS_STATE 15 31) == 1 && t.fld (fDN_SLOT_s_STATE 511) == 1 && t.flag (fDN_SLOT_s_VALID 511) &&
      t.fld (fDN_SLOT_s_SEQ 511) == 0) = true ∧
    (runs (.windowEnd 15 31 [(0x1FFFF, 0)]) (put (open1 0) [(fRO_Tk_DISC_CFG_NLINES 15 31, 0)]) fun t =>
      (t.tone 15 31).win == none && t.fld (fRO_Tk_DISC_STATUS_STATE 15 31) == 3 && t.fld (fDN_SLOT_s_SEQ 511) == 15) = true := by
  decide +kernel

theorem test_sequential :
    let longer (seq : Nat) : State := put (open1 seq) [(fRO_Tk_WIN_LEN_LEN 15 31, 16384),
      (⟨rRO_Tk_LINEi_AB 15 0 31, 15, 0⟩, 0x7FFF), (⟨rRO_Tk_SEQ_THR 15 31, 31, 0⟩, 1)]
    let s (seq : Nat) : State := { longer seq with weights := [(2048 * 511, 0x7FFF)] }
    (s 1).sequential 15 31 = true ∧
    (runs (.sequentialDecision 15 31 [(0x1FFFF, 0)]) (s 1) fun t => t.fld (fDN_SLOT_s_STATE 511) == 1 &&
      t.fld (fDN_SLOT_s_SEQ 511) == 0 && ((t.tone 15 31).win.map (·.samples.length)) == some 2) = true ∧
    (runs (.sequentialDecision 15 31 [(0x20000, 0)]) (s 2) fun t => t.fld (fDN_SLOT_s_STATE 511) == 0 &&
      t.flag (fDN_SLOT_s_VALID 511) && (t.tone 15 31).win == none && t.fld (fRO_Tk_DISC_STATUS_STATE 15 31) == 0) = true ∧
    (runs (.earlyCloseRamp 15 31) { s 2 with chains := [(72 * 15 + 63, { playing 0 0 true with rampDown := some 9 })] } fun t =>
      !(t.chain 15 63).active) = true := by decide +kernel

theorem test_calibration :
    let s := readout {} {}
    let busy : State := { s with tones := [(511, { ({} : RoTone) with more := [9] })] }
    let frozen : State := put s [(fRO_Ll_CAL_STATUS_FROZEN 15 1, 1), (fRO_Ll_CAL_CFG_FREEZE 15 1, 1)]
    s.poolCalibrated 15 = true ∧ busy.lineBusy 15 1 = true ∧ s.lineBusy 15 1 = false ∧
    (runs (.swapStep 15 1) (put s [(fRO_Ll_CAL_STATUS_SPARE 15 1, 16)]) fun t =>
      t.fld (fRO_Ll_CAL_STATUS_SPARE 15 1) == 0) = true ∧
    (runs (.swapStep 15 1) busy fun t => t.flag (fRO_Ll_CAL_STATUS_DEFERRING 15 1) &&
      (runs (.swapDeferralTimeout 15 1) t fun u => (u.roLine 15 1).force)) = true ∧
    s.mayWrite .pf0 (rRO_Ll_CAL_CFG 15 1) = true ∧
    (runs (.calFreeze .pf0 15 1 0x100) s fun t => t.flag (fRO_Ll_CAL_STATUS_FROZEN 15 1)) = true ∧
    (runs (.freezeExpiry 15 1) frozen fun t => !t.flag (fRO_Ll_CAL_STATUS_FROZEN 15 1) &&
      !t.flag (fRO_Ll_CAL_CFG_FREEZE 15 1) && t.flag (fRO_Ll_CAL_STATUS_FREEZE_EXPIRED 15 1)) = true ∧
    (runs (.freezeExpiry 15 1) (put frozen [(fRO_Ll_CAL_CFG_FREEZE_HARD 15 1, 1)]) fun t =>
      t.flag (fRO_Ll_CAL_STATUS_FROZEN 15 1) && t.flag (fRO_Ll_CAL_STATUS_DRIFT 15 1) && t.faultLog == [0x0303]) = true := by
  decide +kernel

theorem test_foreground_and_over_range :
    let s := readout {} {}
    s.mayWrite .pf0 (rRO_Ll_FGCAL 15 1) = true ∧
    (runs (.fgcalStart .pf0 15 1) s fun t => t.fgBusy 15 1 && (t.roLine 15 1).fgFrom == some 0 && !t.lineOwes 15 1 &&
      (runs (.fgcalBegin 15 1) t fun u => (u.roLine 15 1).begun && (runs (.fgcalDone 15 1) u fun v =>
        v.flag (fRO_Ll_FGCAL_DONE 15 1) && !v.fgBusy 15 1 && (v.roLine 15 1).fgTo == some 0)) &&
      (runs (.fgcalStart .pf0 15 1) t fun u => u.flag (fRO_Ll_FGCAL_REFUSED 15 1) && u.fld (fRO_Ll_FGCAL_REASON 15 1) == 2)) = true ∧
    (runs (.adcOverRange 15 1) (open1 0) fun t => t.faultLog == [0x0301] && t.regN (rRO_Ll_ADC_SAT 15 1) == 1 &&
      (t.tone 15 31).win.map (·.overRange) == some true) = true := by decide +kernel

/-! ### Reed cores -/

/-- Core 63 in RUNNING at bundle 20 of 100 in DIAG, with registers by key. -/
def core63 (k : Core) : State :=
  { put (inMode 11) [(fRC_i_STATUS_STATE 15 3, 2), (fRC_i_IMG_NBUNDLE 15 3, 100), (fRC_i_PC_PC 15 3, 20)] with cores := [(63, k)] }

/-- g1 = 0x7FFFFFFF, g2 = 1, g3 = 0x80007FFF, g4 = 0xFFFF0002, p0 = 8, m0 = −4, base 0 = 0, length 0 = 16. -/
def regs63 : Core :=
  { ({} : Core) with regs := [(1, 0x7FFFFFFF), (2, 1), (3, 0x80007FFF), (4, 0xFFFF0002), (0x40, 8), (0x48, 0xFFFC), (0x58, 16)] }

def base63 : State := core63 regs63

/-- The results that a D-slot operation has put on their way: delay, register and value. -/
def resultsOf (i : Instr) (s : State) : List (Nat × Nat × Nat) :=
  match exec i s with
  | .next t => (t.core 63).flight.map (fun f => (f.due - f.bundle, f.key, f.val))
  | _ => [(0, 0, 0)]

/-- The core has faulted with a code. -/
def faults (i : Instr) (s : State) (code : Nat) : Bool :=
  runs i s fun t => t.rcState 63 == rcFaulted && t.faultLog == [code] && t.pc 63 == s.pc 63

theorem test_reed_ready : base63.canOpen 63 = true ∧ base63.flat 63 = true ∧ base63.nearLoopEnd 63 = false := by decide +kernel

theorem test_reed_arithmetic :
    resultsOf (.add 63 31 1 (.reg 2)) base63 = [(2, 31, 0x80000000)] ∧
    resultsOf (.sub 63 31 2 (.reg 1)) base63 = [(2, 31, 0x80000002)] ∧
    resultsOf (.adds 63 31 1 (.reg 2)) base63 = [(2, 31, 0x7FFFFFFF), (2, 0x94, 1)] ∧
    resultsOf (.subs 63 31 3 (.reg 1)) base63 = [(2, 31, 0x80000000), (2, 0x94, 1)] ∧
    resultsOf (.and 63 31 3 (.reg 4)) base63 = [(2, 31, 0x80000002)] ∧
    resultsOf (.or 63 31 2 (.reg 4)) base63 = [(2, 31, 0xFFFF0003)] ∧
    resultsOf (.xor 63 31 4 (.reg 2)) base63 = [(2, 31, 0xFFFF0003)] ∧
    resultsOf (.shl 63 31 2 (.reg 1)) base63 = [(2, 31, 0x80000000)] ∧
    resultsOf (.shr 63 31 3 (.reg 2)) base63 = [(2, 31, 0x40003FFF)] ∧
    resultsOf (.sar 63 31 3 (.reg 2)) base63 = [(2, 31, 0xC0003FFF)] := by decide +kernel

theorem test_reed_arithmetic_more :
    resultsOf (.min 63 31 3 (.reg 2)) base63 = [(2, 31, 0x80007FFF)] ∧
    resultsOf (.max 63 31 3 (.reg 2)) base63 = [(2, 31, 1)] ∧
    resultsOf (.mul 63 31 3 (.reg 4)) base63 = [(3, 31, 0xFFFE)] ∧
    resultsOf (.add 63 0 1 (.reg 2)) base63 = [] ∧
    resultsOf (.cmp 63 3 (.reg 2)) base63 = [(2, 0x90, 1), (2, 0x91, 0), (2, 0x92, 0), (2, 0x93, 1)] ∧
    (runs (.add 63 31 1 (.imm 5)) base63 fun t => t.pc 63 == 21 && (t.core 63).no == 1 && !(t.core 63).half) = true := by
  decide +kernel

theorem test_reed_immediate :
    resultsOf (.addi 63 31 2 0x3FFF) base63 = [(2, 31, 0)] ∧ resultsOf (.andi 63 31 4 0x3FFF) base63 = [(2, 31, 0xFFFF0002)] ∧
    resultsOf (.cmpi 63 2 1) base63 = [(2, 0x90, 0), (2, 0x91, 1), (2, 0x92, 0), (2, 0x93, 1)] ∧
    resultsOf (.shli 63 31 2 31) base63 = [(2, 31, 0x80000000)] ∧ resultsOf (.shri 63 31 3 31) base63 = [(2, 31, 1)] ∧
    resultsOf (.sari 63 31 3 31) base63 = [(2, 31, 0xFFFFFFFF)] ∧ faults (.shli 63 31 2 32) base63 0x0502 = true ∧
    resultsOf (.exp 63 31 2 false) base63 = [(2, 31, 30)] ∧ resultsOf (.norm 63 31 2 false) base63 = [(2, 31, 0x40000000)] ∧
    resultsOf (.exp 63 31 4 true) base63 = [(2, 31, 13)] ∧ resultsOf (.norm 63 31 4 true) base63 = [(2, 31, 0xE0004000)] ∧
    resultsOf (.shc 63 31 4 2) base63 = [(2, 31, 0xFFFE0004)] := by decide +kernel

theorem test_reed_moves :
    (runs (.nop 63) base63 fun t => (t.core 63).half && t.pc 63 == 20) = true ∧ faults (.illegalBundle 63) base63 0x0502 = true ∧
    resultsOf (.mov 63 0x61 (.id 1)) base63 = [(2, 0x94, 1), (2, 0x93, 1), (2, 0x92, 1), (2, 0x91, 1), (2, 0x90, 1)] ∧
    resultsOf (.mov 63 31 (.id 0x48)) base63 = [(2, 31, 0xFFFFFFFC)] ∧ resultsOf (.mov 63 31 (.id 0x68)) base63 = [(2, 31, 0)] ∧
    (runs (.mov 63 31 (.imm 9)) base63 fun t => (t.core 63).flight.length == 1 && t.pc 63 == 21) = true ∧
    (runs (.mov 63 31 (.id 0x62)) base63 fun t => (t.core 63).post == { stRead := some 31 }) = true ∧
    idWritable 0x62 = false ∧ faults (.mov 63 0x62 (.imm 9)) base63 0x0502 = true ∧
    resultsOf (.modp 63 0 0) base63 = [(2, 0x40, 4)] ∧ resultsOf (.modp 63 1 0) base63 = [(2, 0x41, 65532)] ∧
    resultsOf (.rddec 63 31 2 1023) base63 = [(3, 31, (base63.slotWord 0).toNat)] ∧
    resultsOf (.rdft 63 31 true) base63 = [(3, 31, 0)] ∧
    (runs (.rdft 63 31 false) (atTick base63 20) fun t => (t.core 63).post == { rdft := some 31 } &&
      (runs (.tnop 63 false) t fun u => (u.core 63).newest 31 == 48)) = true := by decide +kernel

theorem test_reed_memory :
    let s := { base63 with dmem := [(65536 * 63 + 8, 0x01), (65536 * 63 + 9, 0x80), (65536 * 63 + 11, 0xFF)] }
    resultsOf (.ldW 63 31 0 .ind) s = [(3, 31, 0xFF008001)] ∧ resultsOf (.ldH 63 31 0 (.postm false)) s =
      [(3, 31, 0xFFFF8001), (2, 0x40, 4)] ∧
    resultsOf (.ldHu 63 31 0 (.posti 4)) s = [(3, 31, 0x8001), (2, 0x40, 0)] ∧
    resultsOf (.ldHu 63 31 0 (.offs 1)) s = [(3, 31, 0xFF00)] ∧
    faults (.ldW 63 31 0 (.postm true)) s 0x0502 = true ∧
    (runs (.stW 63 4 0 .ind) s fun t => (t.core 63).post.store == some (8, 4, 0xFFFF0002)) = true ∧
    (runs (.stH 63 4 0 .ind) s fun t => (t.core 63).post.store == some (8, 2, 2) &&
      (runs (.tnop 63 false) t fun u => u.dmem.readLe (65536 * 63 + 8) 4 == 0xFF000002 && u.pc 63 == 21)) = true ∧
    (runs (.ldW 63 31 1 (.offs 0x7F)) (core63 { regs63 with regs := [(0x41, 2)] }) fun t => (t.core 63).post.fault &&
      faults (.tnop 63 false) t 0x0503) = true ∧
    resultsOf (.ld2 63 31 30 0 1 true false) s = [(3, 31, 0xFF008001), (3, 30, 0), (2, 0x40, 4)] ∧
    (runs (.ldst 63 31 4 0 1 false false) s fun t => (t.core 63).post.store == some (0, 4, 0xFFFF0002)) = true ∧
    faults (.ld2 63 31 31 0 1 false false) s 0x0502 = true ∧ faults (.ldst 63 31 30 0 0 true true) s 0x0502 = true := by
  decide +kernel

theorem test_reed_complex :
    resultsOf (.cmul 63 0 4 4) base63 = [(3, 0x80, 3), (3, 0x81, 2 ^ 40 - 4)] ∧
    resultsOf (.cmulj 63 0 4 4) base63 = [(3, 0x80, 5), (3, 0x81, 0)] ∧
    (runs (.cmul 63 0 4 4) base63 fun t => resultsOf (.cmac 63 0 4 4) t ==
      [(3, 0x80, 3), (3, 0x81, 2 ^ 40 - 4), (3, 0x80, 6), (3, 0x81, 2 ^ 40 - 8)]) = true ∧
    resultsOf (.cmsu 63 0 4 4) base63 = [(3, 0x80, 2 ^ 40 - 3), (3, 0x81, 4)] ∧
    resultsOf (.cmacj 63 0 4 4) (core63 { regs63 with regs := [(4, 0xFFFF0002), (0x80, 2 ^ 39 - 1)] }) =
      [(3, 0x80, 2 ^ 39 - 1), (3, 0x81, 0), (2, 0x94, 1)] := by decide +kernel

theorem test_reed_accumulators :
    resultsOf (.cclr 63 0) base63 = [(2, 0x80, 0), (2, 0x81, 0)] ∧
    resultsOf (.cadd 63 0 1 1) (core63 { regs63 with regs := [(0x82, 5), (0x83, 2 ^ 40 - 1)] }) =
      [(2, 0x80, 10), (2, 0x81, 2 ^ 40 - 2)] ∧
    resultsOf (.crnd 63 31 1 1) (core63 { regs63 with regs := [(0x82, 5), (0x83, 2 ^ 40 - 1)] }) = [(2, 31, 3)] ∧
    resultsOf (.cget 63 31 1 2) (core63 { regs63 with regs := [(0x82, 0x1200000000), (0x83, 0x3400000000)] }) = [(2, 31, 0x3412)] ∧
    faults (.cget 63 31 1 3) base63 0x0502 = true ∧
    resultsOf (.cput 63 4 0 0) base63 = [(2, 0x80, 0xFFFF0002)] ∧ resultsOf (.cput 63 4 0 1) base63 = [(2, 0x81, 0xFFFF0002)] ∧
    resultsOf (.bfly 63 30 4 4 2 0) base63 = [(3, 30, 0xFFFF0002), (3, 31, 0xFFFF0002)] ∧
    faults (.bfly 63 31 4 4 2 0) base63 0x0502 = true ∧ faults (.bfly 63 30 4 4 2 3) base63 0x0502 = true ∧
    resultsOf (.bstg 63) (core63 { regs63 with regs := [(0x60, 31), (0x92, 1)] }) = [(2, 0x93, 1), (2, 0x92, 0), (2, 0x60, 31)] := by
  decide +kernel

theorem test_reed_control :
    (runs (.br 63 ⟨0, 0⟩ 16383) base63 fun t => (t.core 63).delay == some { left := 2, target := some 16383 } && t.pc 63 == 21) = true ∧
    (runs (.call 63 ⟨0, 0⟩ 5) base63 fun t => (t.core 63).delay == some { left := 2, target := some 5, link := some (31, 23) }) = true ∧
    (runs (.ret 63 ⟨1, 0⟩) base63 fun t => (t.core 63).delay == some { left := 2 }) = true ∧
    (runs (.brr 63 ⟨14, 1⟩) base63 fun t => (t.core 63).delay == some { left := 2, target := some 16383 }) = true ∧
    (runs (.callr 63 ⟨0, 2⟩) base63 fun t => (t.core 63).delay == some { left := 2, target := some 1, link := some (31, 23) }) = true ∧
    faults (.br 63 ⟨0, 1⟩ 5) base63 0x0502 = true ∧
    faults (.halt 63) (core63 { regs63 with delay := some { left := 2 } }) 0x0502 = true ∧
    (core63 { regs63 with regs := [(idLE 2, 22), (idLC 2, 1)] }).nearLoopEnd 63 = true ∧
    faults (.swi 63) (core63 { regs63 with regs := [(idLE 2, 22), (idLC 2, 1)] }) 0x0502 = true := by decide +kernel

theorem test_reed_loops_and_levels :
    (runs (.loop 63 2 (.inl 7) 23) base63 fun t => (t.core 63).file (idLS 2) == 23 && (t.core 63).file (idLE 2) == 23 &&
      (t.core 63).file (idLC 2) == 7 && (t.core 63).delay == some { left := 2 }) = true ∧
    (runs (.loop 63 0 (.inr 0) 23) base63 fun t => (t.core 63).delay == some { left := 2, target := some 24 }) = true ∧
    faults (.loop 63 0 (.inl 7) 22) base63 0x0502 = true ∧ faults (.loop 63 3 (.inl 7) 23) base63 0x0502 = true ∧
    (runs (.brk 63 1 ⟨0, 0⟩ 9) (core63 { regs63 with regs := [(idLC 0, 1), (idLC 1, 2), (idLC 2, 3)] }) fun t =>
      (t.core 63).file (idLC 0) == 1 && (t.core 63).file (idLC 1) == 0 && (t.core 63).file (idLC 2) == 0) = true ∧
    base63.condHolds 63 ⟨1, 0⟩ = false ∧
    (runs (.brk 63 2 ⟨1, 0⟩ 9) base63 fun t => (t.core 63).delay == some { left := 2 }) = true ∧
    faults (.brk 63 3 ⟨0, 0⟩ 9) base63 0x0502 = true ∧ faults (.reti 63) base63 0x0502 = true ∧
    (runs (.reti 63) (put base63 [(fRC_i_STATUS_CL 15 3, 1), (fRC_i_ELR_ELR1 15 3, 77)]) fun t =>
      (t.core 63).delay == some { left := 2, target := some 77, cl := some 0 }) = true ∧
    (runs (.reti 63) (put (core63 { regs63 with below := 1 }) [(fRC_i_STATUS_CL 15 3, 2), (fRC_i_ELR_ELR2 15 3, 78)]) fun t =>
      (t.core 63).delay == some { left := 2, target := some 78, cl := some 1 }) = true ∧
    (runs (.halt 63) base63 fun t => (t.core 63).delay == some { left := 2, halt := true } && t.rcState 63 == rcRunning) = true ∧
    (runs (.swi 63) base63 fun t => t.fld (fRC_i_IRQ_PEND_PEND 15 3) == 0x100) = true ∧
    (runs (.ien 63 3 true) base63 fun t => t.flag (fRC_i_IRQ_CTRL_IE1 15 3) && t.flag (fRC_i_IRQ_CTRL_IE2 15 3)) = true := by
  decide +kernel

/-- Core 63 with a bundle half taken. -/
def half63 (d : Option Delay) (regs : SMap Nat) (q : List TCmd) : State :=
  core63 { ({} : Core) with half := true, delay := d, regs := regs, queue := q }

def anyCmd (top tgt time : Nat) (a : Word) : TCmd := ⟨top, tgt, time, a, 0, 0, 0, 1, 0, 63⟩

theorem test_reed_bundle_ends :
    (runs (.tnop 63 false) (half63 none [] []) fun t => t.pc 63 == 21 && (t.core 63).no == 1) = true ∧
    (runs (.tnop 63 false) (half63 (some { left := 2 }) [] []) fun t => (t.core 63).delay == some { left := 1 }) = true ∧
    (runs (.tnop 63 false) (half63 (some { left := 1, target := some 7 }) [] []) fun t => t.pc 63 == 7 && (t.core 63).delay == none) =
      true ∧
    (runs (.tnop 63 false) (half63 (some { left := 1, target := some 7, link := some (31, 23) }) [] []) fun t =>
      (t.core 63).file 31 == 23) = true ∧
    (runs (.tnop 63 false) (half63 (some { left := 1, halt := true }) [] []) fun t => t.rcState 63 == rcHalted) = true ∧
    (runs (.tnop 63 false) (half63 (some { left := 1, halt := true }) [] [anyCmd 1 0 0 0]) fun t => t.rcState 63 == rcHalting) = true ∧
    (runs (.tnop 63 false) (half63 (some { left := 1, target := some 7, cl := some 0 }) [] []) fun t => t.pc 63 == 7 &&
      t.level 63 == 0) = true ∧
    (runs (.tnop 63 false) (put (half63 (some { left := 1, target := some 7, cl := some 0 }) [] [])
        [(fRC_i_IRQ_PEND_PEND 15 3, 1024), (fRC_i_IRQ_EN_EN 15 3, 1024), (fRC_i_IRQ_CTRL_IE1 15 3, 1), (fRC_i_IMG_VBASE 15 3, 50)])
      fun t => t.pc 63 == 90 && t.level 63 == 1 && t.fld (fRC_i_IRQ_PEND_PEND 15 3) == 0) = true ∧
    (runs (.tnop 63 false) (half63 none [(idLS 0, 18), (idLE 0, 20), (idLC 0, 2)] []) fun t => t.pc 63 == 18 &&
      (t.core 63).file (idLC 0) == 1) = true ∧
    (runs (.tnop 63 false) (half63 none [(idLS 0, 18), (idLE 0, 20), (idLC 0, 1)] []) fun t => t.pc 63 == 21 &&
      (t.core 63).file (idLC 0) == 0) = true ∧
    (match exec (.tnop 63 false) (half63 none [(2, 3)] []) with
      | .next t => runs (.addi 63 1 2 1) (half63 none [(2, 3)] []) fun u => runs (.addi 63 1 2 1) t fun v => u == v
      | _ => false) = true := by decide +kernel

theorem test_reed_interrupts :
    let s := put base63 [(fRC_i_IRQ_PEND_PEND 15 3, 0x401), (fRC_i_IRQ_EN_EN 15 3, 0x401), (fRC_i_IRQ_CTRL_IE1 15 3, 1),
      (fRC_i_IRQ_CTRL_IE2 15 3, 1), (fRC_i_IRQ_LVL_LVL 15 3, 0x400), (fRC_i_IMG_VBASE 15 3, 50), (fRC_i_IRQ_CTRL_TIMER_ARM 15 3, 1)]
    s.irqEligible 63 0 10 = true ∧ s.irqEligible 63 0 0 = true ∧ s.irqLevel 63 10 = 2 ∧ s.irqLevel 63 0 = 1 ∧
    (runs (.interruptEntry 63) s fun t => t.level 63 == 2 && t.fld (fRC_i_ELR_ELR2 15 3) == 20 && t.pc 63 == 90 &&
      t.fld (fRC_i_IRQ_PEND_PEND 15 3) == 1 && (t.core 63).below == 0) = true ∧
    (runs (.interruptEntry 63) base63 fun t => t == base63) = true ∧
    (runs (.coreTimer 63) s fun t => t.fld (fRC_i_IRQ_PEND_PEND 15 3) == 0x403 && !t.flag (fRC_i_IRQ_CTRL_TIMER_ARM 15 3)) = true ∧
    (runs (.irq 63 3) s fun t => t.fld (fRC_i_IRQ_PEND_PEND 15 3) == 0x481) = true ∧
    s.mayWrite .pf0 (rRC_i_MAILBOX 15 3) = true ∧
    (runs (.mailbox .pf0 63 9) base63 fun t => t.fld (fRC_i_IRQ_PEND_PEND 15 3) == 1 && t.reg (rRC_i_MAILBOX 15 3) == 9) = true := by
  decide +kernel

/-! ### Timed commands -/

/-- The last command of the timed queue, or of the armed buffer of a target of Pool 15. -/
def lastCmd (s : State) : Option TCmd := (s.core 63).queue.getLast?

theorem test_timed_commands :
    let s := { base63 with cores := [(63, { regs63 with st := 0xFFFFFFFFFFFFFFFF })] }
    let put1 (i : Instr) (top tgt : Nat) : Bool := runs i s fun t => (lastCmd t).map (fun c => (c.top, c.tgt, c.time)) == some (top, tgt, 1) &&
      t.fld (fRC_i_STATUS_QLEVEL 15 3) == 1 && t.reg (rRC_i_CMDSEQ 15 3) == 1 && t.pc 63 == 21
    s.canJoin 63 false = true ∧ s.canJoin 63 true = true ∧
    put1 (.play 63 0x47 (.short 1 2)) 1 0x47 = true ∧ put1 (.cplay 63 0x47 (.long 0 2)) 2 0x47 = true ∧
    put1 (.frame 63 0x3F (.short 1 2)) 3 0x3F = true ∧ put1 (.framea 63 0x3F (.short 1 2)) 4 0x3F = true ∧
    put1 (.freq 63 0x4D (.short 2 2)) 5 0x4D = true ∧ put1 (.freqp 63 0x4D (.short 4 2)) 6 0x4D = true ∧
    put1 (.amp 63 0x47 (.short 1 2)) 7 0x47 = true ∧ put1 (.win 63 0x20 (.short 1 2)) 8 0x20 = true ∧
    put1 (.mark 63 0x53 (.short 1 2)) 9 0x53 = true ∧ put1 (.jump 63 0x47 (.short 1 2)) 10 0x47 = true ∧
    put1 (.trig 63 0x5B (.short 1 2)) 11 0x5B = true := by decide +kernel

theorem test_timed_commands_held_and_illegal :
    faults (.play 63 0x48 (.short 1 2)) base63 0x0502 = true ∧ faults (.freqp 63 0x48 (.short 2 2)) base63 0x0502 = true ∧
    faults (.win 63 0x21 (.short 1 2)) base63 0x0502 = true ∧
    (runs (.play 63 0x47 (.short 1 2)) (core63 { regs63 with queue := List.replicate 64 (anyCmd 1 0 9000 0) }) fun t =>
      (t.core 63).held.isSome && (t.core 63).queue.length == 64 && t.pc 63 == 20) = true := by decide +kernel

theorem test_schedule_time :
    let s := atTick base63 37
    (runs (.wait 63 (.long 5)) s fun t => t.schedule 63 == 5 && t.pc 63 == 21) = true ∧
    (runs (.sync 63 (.short 5)) s fun t => t.schedule 63 == 37) = true ∧ (runs (.tnop 63 true) s fun t => t.pc 63 == 21) = true ∧
    (runs (.fence 63 false) s fun t => t.pc 63 == 21 && !(t.core 63).fence) = true ∧
    (runs (.fence 63 false) (atTick (core63 { regs63 with lastT := 37 }) 37) fun t => t.pc 63 == 20 && (t.core 63).fence &&
      (runs (.fenceRelease 63) t fun u => u.pc 63 == 21 && !(u.core 63).fence)) = true ∧
    (runs (.fenceRelease 63) s fun t => t == s) = true := by decide +kernel

/-- Core 63 with one command in its timed queue, Pool 15's units enabled or not, in a RUN. -/
def queued (x : TCmd) (on : Nat) : State :=
  { put (core63 { regs63 with queue := [x] }) [(fDRV_STATUS_ENABLED 15, on), (fRO_STATUS_ENABLED 15, on), (fFLX_STATUS_ENABLED 15, on),
      (fDN_SLOT_s_VALID 7, 1), (fDN_SLOT_s_STATE 7, 2), (fDN_SLOT_s_SEQ 7, 9)] with
    runs := [{ ({} : Run) with active := true, coreMask := 2 ^ 63 }] }

theorem test_command_delivery :
    (runs (.commandDelivery 63) (queued (anyCmd 1 31 9000 0) 0) fun t => t.faultLog == [0x0505] && (t.core 63).queue == [] &&
      t.fld (fRC_i_COUNT_B_DISABLED 15 3) == 1 && t.armed == [] && t.runs.map (·.marks) == [[(9000, 0x0505)]]) = true ∧
    (queued (anyCmd 1 31 768 0) 1).targetOff 15 31 = false ∧
    (runs (.commandDelivery 63) (queued (anyCmd 1 31 767 0) 1) fun t => t.faultLog == [0x0501] && (t.core 63).queue == [] &&
      t.fld (fRC_i_COUNT_A_LATE 15 3) == 1) = true ∧
    (runs (.commandDelivery 63) (queued (anyCmd 1 31 768 0) 1) fun t => t.faultLog == [] && (t.core 63).queue == [] &&
      (t.armedAt 15 31).map (·.cmd.time) == [768] && (t.core 63).lastT == 768) = true ∧
    (runs (.commandDelivery 63) (queued (anyCmd 8 0x20 800 0x80000001) 1) fun t => (t.armedAt 15 0x60).length == 1 &&
      (t.armedAt 15 0x7F).length == 1 && t.armedAt 15 0x20 == []) = true ∧
    (runs (.commandDelivery 63) (queued { anyCmd 2 31 800 0 with b := 0x90007 } 1) fun t =>
      (t.armedAt 15 31).map (·.captured) == [some 2]) = true ∧
    (runs (.commandDelivery 63) { queued (anyCmd 1 31 768 0) 1 with
      armed := [(128 * 15 + 31, List.replicate 16 ⟨anyCmd 1 31 900 0, none⟩)] } fun t => (t.core 63).queue.length == 1) = true ∧
    (runs (.commandDelivery 63) { queued (anyCmd 1 31 768 0) 1 with cores := [(63, { regs63 with
      queue := List.replicate 64 (anyCmd 1 31 768 0), held := some (anyCmd 7 0 9 0) })] } fun t =>
      (t.core 63).queue.length == 64 && (t.core 63).held == none && t.pc 63 == 21) = true := by decide +kernel

/-- Pool 15 with one armed command of core 63. -/
def armedCmd (b : Nat) (x : TCmd) (captured : Option Nat) : State :=
  { put (chained 1 0 true) [(fMK_m_CFG_SRC_CMD 15 3, 1), (fMK_m_DELAY_DELAY 15 3, 100)] with
    chains := [], armed := [(128 * 15 + b, [⟨x, captured⟩])], cores := [(63, {})] }

theorem test_commits :
    (runs (.commandCommit 15 63) (armedCmd 63 (anyCmd 3 63 9000 5) none) fun t => t.reg (frameReg 15 63) == 5 &&
      t.armedAt 15 63 == [] && t.reg (rRC_i_LAST_COMMIT_SEQ 15 3) == 1 && t.reg64 (rRC_i_LAST_COMMIT_L 15 3) == 9000) = true ∧
    (runs (.commandCommit 15 31) (armedCmd 31 (anyCmd 4 31 9000 5) none) fun t => t.reg (frameReg 15 31) == 5) = true ∧
    (runs (.commandCommit 15 31) (armedCmd 31 (anyCmd 7 31 9000 0x3FFFF) none) fun t => t.fld (fDRV_Tk_AMP_AMP 15 31) == 0x3FFFF) = true ∧
    (runs (.commandCommit 15 30) (armedCmd 30 { anyCmd 6 30 9000 5 with b := 0xFFFF0001, c := 7 } none) fun t =>
      t.reg48 (rDRV_Tk_FTW_L 15 30) == 0x100000005 && t.reg48 (rDRV_Tk_POFF_L 15 30) == 7) = true ∧
    (runs (.commandCommit 15 30) (armedCmd 30 (anyCmd 5 30 9000 5) none) fun t => t.reg48 (rDRV_Tk_FTW_L 15 30) == 5) = true ∧
    (runs (.commandCommit 15 0x7F) (armedCmd 0x7F (anyCmd 8 0x20 9000 0x80000000) none) fun t =>
      (t.tone 15 31).seqs == [⟨9000, 9000⟩]) = true ∧
    (runs (.commandCommit 15 0x53) (armedCmd 0x53 (anyCmd 9 0x53 9000 0x50003) none) fun t =>
      (t.marker 15 3).cmds == [(9100, 0, 16)]) = true ∧
    (runs (.commandCommit 15 0x58) (armedCmd 0x58 (anyCmd 11 0x5B 9000 0) none) fun t => t.fen.presented == [0x2FF]) = true := by
  decide +kernel

theorem test_plays :
    (runs (.commandCommit 15 31) (armedCmd 31 (anyCmd 1 31 9000 5) none) fun t => (t.chain 15 31).active &&
      (t.chain 15 31).entry == 5 && (t.chain 15 31).start == 9000 * 65536 && t.faultLog == []) = true ∧
    (runs (.commandCommit 15 31) (armedCmd 31 (anyCmd 1 31 9000 6) none) fun t => !(t.chain 15 31).active &&
      t.faultLog == [0x0203]) = true ∧
    (runs (.commandCommit 15 31) (armedCmd 31 (anyCmd 2 31 9000 0x90005) (some 0)) fun t => (t.chain 15 31).entry == 5) = true ∧
    (runs (.commandCommit 15 31) (armedCmd 31 (anyCmd 2 31 9000 0x90005) (some 1)) fun t => (t.chain 15 31).entry == 9) = true ∧
    (runs (.commandCommit 15 31) (armedCmd 31 (anyCmd 2 31 9000 0x91005) (some 0)) fun t => t.chains == [] && t.faultLog == []) = true ∧
    (runs (.commandCommit 15 31) (armedCmd 31 { anyCmd 2 31 9000 0x90005 with b := 0x1000000 } none) fun t =>
      (t.chain 15 31).entry == 9 && t.faultLog == [0x0504] && t.fld (fRC_i_COUNT_A_MISSING 15 3) == 1 &&
      bitOf (t.fld (fRC_i_IRQ_PEND_PEND 15 3)) 10) = true ∧
    (runs (.commandCommit 15 31) { armedCmd 31 (anyCmd 10 31 9127 0x10005) none with
        chains := [(72 * 15 + 31, { playing 1 0 true with lastCut := some 9000 })]
        runs := [{ ({} : Run) with active := true, coreMask := 2 ^ 63 }] } fun t =>
      (t.chain 15 31).entry == 5 && t.faultLog == [0x0204] && t.runs.map (·.marks) == [[(9127, 0x0204)]]) = true := by decide +kernel

/-! ### Sedge -/

/-- Two detectors: a space edge between them, a boundary edge and a time edge of detector 0; detector 1 starts at 1. -/
def graph2 : Graph := {
  init := [false, true], nbs := List.replicate 6 none
  edges := [⟨0, 1, 0, 0, false, 15, 511, 1, 1⟩, ⟨0, 0, 2, 0, false, 1, 511, 3, 6⟩, ⟨0, 0, 1, 0, false, 1, 5, 2, 1⟩] }

/-- Sedge of READY with the graph loaded and a valid configuration: W = 2, C = 1, round 0 at tick 1000, P = 6400. -/
def sedge0 : State :=
  let s := put ready [(fTM_STATUS_STATE, 1), (fSDG_CFG_W, 2), (fSDG_CFG_C, 1), (fSDG_CFG_BACKLOG_MAX, 3), (⟨rSDG_ROUND_P, 31, 0⟩, 6400),
    (⟨rSDG_SKEW, 31, 0⟩, 40), (⟨rSDG_ROUND_T0_L, 31, 0⟩, 960), (fSDG_GRAPH_LOADED, 1), (fSDG_GRAPH_ND, 2), (fSEC_CSu_STATUS_LOADED 9, 1),
    (fSDG_MAP_s_EN 1023, 1), (fSDG_MAP_s_K 1023, 1), (fSDG_MAP_s_DET_BASE 1023, 0)]
  { s with sdg := { ({} : SdgState) with graph := some graph2 } }

/-- Without enabled map entries no two entries reach the same detector. -/
theorem no_overlap (s : State) (h : ∀ m < 1024, s.mapReach m = []) : s.mapOverlap = none := by
  have key : ∀ l : List Nat, (∀ m ∈ l, s.mapReach m = []) → ∀ acc : List Nat, (l.foldl (fun (acc : List Nat × Option Nat) slot =>
      let mine := s.mapReach slot
      (acc.1 ++ mine, if acc.2.isNone && mine.any acc.1.contains then some slot else acc.2)) (acc, none)).2 = none := by
    intro l
    induction l with
    | nil => intros; rfl
    | cons m l ih =>
      intro hl acc
      have hm := hl m (by simp)
      simpa [hm] using ih (fun k hk => hl k (by simp [hk])) acc
  exact key _ (fun m hm => h m (by simpa using hm)) []

/-- The same without the map entry. -/
def sedgeUnmapped : State := put sedge0 [(fSDG_MAP_s_EN 1023, 0)]

theorem test_sedge_overlap : sedgeUnmapped.mapOverlap = none ∧ (put sedgeUnmapped [(fPM_STATUS_MODE, 8)]).mapOverlap = none :=
  ⟨no_overlap _ (by decide +kernel), no_overlap _ (by decide +kernel)⟩

theorem test_sedge_check : sedgeUnmapped.sdgCheck = [] ∧ (put sedgeUnmapped [(fPM_STATUS_MODE, 8)]).sdgCheck = [(0x02, 0)] := by
  unfold State.sdgCheck
  rw [test_sedge_overlap.1, test_sedge_overlap.2]
  decide +kernel

theorem test_sedge_enable :
    sedgeUnmapped.mayWrite .pf0 rSDG_CTRL = true ∧ sedgeUnmapped.flag fSDG_STATUS_ENABLED = false := by decide +kernel

/-- Sedge enabled, in a state of its own, at a tick. -/
def sedgeIn (st n : Nat) : State := atTick (put sedge0 [(fSDG_STATUS_ENABLED, 1), (fSDG_CTRL_ENABLE, 1), (fSDG_STATUS_STATE, st)]) n

theorem test_sedge_start :
    (runs (.start .pf0) (sedgeIn 0 488) fun t => t.fld fSDG_STATUS_STATE == 1 && t.sdg.start == some 0) = true ∧
    (runs (.start .pf0) (sedgeIn 0 489) fun t => t.sdg.start == some 1) = true ∧
    (runs (.start .pf0) (sedgeIn 2 489) fun t => t == sedgeIn 2 489) = true ∧
    (runs (.start .pf0) (sedgeIn 0 6889) fun t => t.sdg.start == some 2 &&
      (runs .sessionBegin t fun u => u.fld fSDG_STATUS_STATE == 2 && u.sdg.first == 2 && u.sdg.round == 2 && u.sdg.prev == [1] &&
        u.regN rSDG_FIRST_ROUND == 2 && u.regN rSDG_ROUND_COMMITTED == 0xFFFFFFFF && u.sdg.start == none)) = true := by decide +kernel

/-- A session whose rounds up to 6 are closed and whose windows before the fifth have committed. -/
def session : State :=
  let s := put (sedgeIn 2 0) [(⟨rSDG_ROUND_COMMITTED, 31, 0⟩, 4)]
  { s with sdg := { s.sdg with round := 7, window := 5, prev := [0] } }

theorem test_sedge_ends :
    session.windowLo = 5 ∧ session.sdgUncommitted = 5 ∧
    (runs (.flush .pf0) (put session [(⟨rSDG_FLUSH_ROUND, 31, 0⟩, 5)]) fun t => t.fld fSDG_STATUS_STATE == 3 && t.sdg.flush == some 5) = true ∧
    (runs (.flush .pf0) (put session [(⟨rSDG_FLUSH_ROUND, 31, 0⟩, 4)]) fun t => t.fld fSDG_STATUS_STATE == 1 && t.sdg.flush == none) = true ∧
    (runs (.stop .pf0) (put session [(fSDG_FRAME_q_X 511, 1)]) fun t => t.fld fSDG_STATUS_STATE == 0 && t.flag fSDG_UNTRUSTED_FLAG &&
      t.regN rSDG_UNTR_FIRST == 5 && t.regN rSDG_UNTR_LAST == 6 && t.flag (fSDG_FRAME_q_X 511) &&
      (runs (.untrustedClear .pf0) t fun u => !u.flag fSDG_UNTRUSTED_FLAG && u.regN rSDG_UNTR_LAST == 0 && u.flag (fSDG_FRAME_q_X 511)) &&
      (runs (.frameClr .pf0) t fun u => !u.flag fSDG_UNTRUSTED_FLAG && !u.flag (fSDG_FRAME_q_X 511) && u.reg64 rSDG_OBS_L == 0)) = true ∧
    (runs (.stop .pf0) { session with sdg := { session.sdg with round := 5 } } fun t => t.fld fSDG_STATUS_STATE == 0 &&
      !t.flag fSDG_UNTRUSTED_FLAG) = true := by decide +kernel

theorem test_sedge_round :
    session.sdgNeighbours = [] ∧
    (runs .roundClose { session with sdg := { session.sdg with meas := [(1, true)] } } fun t => t.sdg.round == 8 &&
      t.regN rSDG_ROUND_CLOSED == 7 && t.sdg.prev == [0, 1] && t.sdg.events == [(7, [1])] && t.fld (fSDG_LOG_i_ROUND 7) == 7 &&
      t.flag (fSDG_LOG_i_MISSING 7) && t.fld fSDG_COUNT_A_MISSING == 1 && t.faultLog == [0x0702]) = true ∧
    (runs .roundClose { session with sdg := { session.sdg with meas := [(0, false), (1, false)] } } fun t => t.sdg.prev == [] &&
      t.sdg.events == [(7, [0])] && !t.flag (fSDG_LOG_i_MISSING 7) && t.faultLog == []) = true := by decide +kernel

/-- A session with neighbour 5, node 9, LINKED since round 0, and reached through port 7, which is ACTIVE. -/
def seamed (nb misses : Nat) : State :=
  let s := put session [(fSDG_NBk_STATUS_STATE 5, nb), (fSDG_LOG_i_ROUND 6, 6), (fCW_STATUS_ENABLED, 1), (fCW_Pp_STATUS_STATE 7, 5),
    (fCW_NODE_ID, 1), (fCW_EXC_x_ACT_EN 7, 1), (fCW_EXC_x_ACT_PORT 7, 7)]
  { s with sdg := { s.sdg with graph := some { graph2 with nbs := [none, none, none, none, none, some 9] }, linkedFrom := [(5, 0)],
                               silent := [0, 0, 0, 0, 0, misses] } }

theorem test_sedge_neighbours :
    (seamed 2 14).nbReady 5 6 = false ∧ (seamed 2 14).sdgNeighbours = [(5, 9)] ∧
    (runs (.boundaryTimeout 5 6) (seamed 2 14) fun t => t.nbReady 5 6 && t.sdg.silent == [0, 0, 0, 0, 0, 15] &&
      t.fld (fSDG_NBk_DISAGREE_TIMEOUT 5) == 1 && t.flag (fSDG_LOG_i_SEAM_OPEN 6) && t.faultLog == [] &&
      t.fld (fSDG_NBk_STATUS_STATE 5) == 2) = true ∧
    (runs (.boundaryTimeout 5 6) (seamed 2 15) fun t => t.fld (fSDG_NBk_STATUS_STATE 5) == 4 && t.faultLog == [0x0704]) = true ∧
    (seamed 1 0).route 9 = .port 7 none false ∧ (seamed 1 0).portActive 7 = true ∧
    (runs .helloDue (seamed 1 0) fun t => t.out.length == 1 &&
      (t.cwPort 7).unacked.map (fun f => (f.cl, f.kind, f.dest, f.src)) == [(1, 0, 9, 1)]) = true := by decide +kernel

/-- The session with detection events of rounds 5 and 6. -/
def defects (e5 e6 : List Nat) (flush : Option Nat) : State :=
  { session with sdg := { session.sdg with events := [(5, e5), (6, e6)], flush := flush } }

theorem test_sedge_commit :
    session.windowTop = (6, false) ∧ session.roundReady 6 = true ∧ session.sedgePowered = true ∧
    (runs .commit (defects [0] [] none) fun t => t.regN rSDG_ROUND_COMMITTED == 5 && t.flag (fSDG_FRAME_q_X 511) &&
      t.flag (fSDG_FRAME_q_Z 511) && t.reg64 rSDG_OBS_L == 6 && t.sdg.window == 6 && t.sdg.carry == [] &&
      t.fen.presented == [0x321]) = true ∧
    (runs .commit (defects [0] [0] none) fun t => !t.flag (fSDG_FRAME_q_X 511) && !t.flag (fSDG_FRAME_q_Z 5) && t.reg64 rSDG_OBS_L == 0 &&
      t.sdg.carry == [0] && t.fld fSDG_STATUS_STATE == 2) = true ∧
    (defects [0] [0] (some 6)).windowTop = (6, true) ∧
    (runs .commit (put (defects [0] [0] (some 6)) [(fSDG_STATUS_STATE, 3)]) fun t => t.flag (fSDG_FRAME_q_Z 5) && t.reg64 rSDG_OBS_L == 1 &&
      t.regN rSDG_ROUND_COMMITTED == 6 && t.sdg.carry == [] && t.fld fSDG_STATUS_STATE == 1) = true := by decide +kernel

/-! ### Fen and the Decision Network -/

/-- Channel 255 takes source 0x369; task input 1023 gives its events to relay 31; counter 15 counts them. -/
def fen0 : State :=
  let s := put ready [(fFEN_CH_c_SRC 255, 0x369), (fFEN_CH_c_EN 255, 1), (fFEN_TI_i_CH 1023, 255), (fFEN_TI_i_TASK 1023, 0x83F),
    (fFEN_TI_i_EN 1023, 1), (fFEN_CNT_j_CFG_EN 15, 1), (fFEN_CNT_j_CFG_CH 15, 255), (fFEN_CNT_j_COUNT 15, 0xFFFFFFFF)]
  { s with fen := { s.fen with chOn := 2 ^ 255, tiOn := 2 ^ 1023, presented := [0x369] } }

theorem test_fen_event :
    fen0.chOn 255 = true ∧ fen0.tiOn 1023 = true ∧ bitOf fen0.fen.rearm 255 = false ∧ fen0.taskLive 0x83F = true ∧
    (runs (.fenEvent 0x369) fen0 fun t => bitOf (t.regN (rFEN_FLAG_w 7)) 31 && bitOf t.fen.rearm 255 && t.fen.acts == [(1023, 0x83F)] &&
      t.fen.presented == [] && t.fld (fFEN_CNT_j_COUNT 15) == 0 && t.acceptances 255 == 1 &&
      (runs (.fenEvent 0x369) t fun u => bitOf u.fen.held 255 && u.fen.acts == t.fen.acts &&
        (runs (.fenEvent 0x369) u fun v => bitOf (v.regN (rFEN_OVR_w 7)) 31 && v.fen.acts == t.fen.acts)) &&
      (runs (.rearmEnd 255) t fun u => !bitOf u.fen.rearm 255 && u.fen.acts == t.fen.acts) &&
      (runs (.relay 31) t fun u => u.fen.acts == [] && u.fen.presented == [0x35F])) = true ∧
    (put fen0 [(fFEN_TI_i_TASK 1023, 0x80F), (fPM_PD_STATUS_ON, 0x1FFF)]).taskLive 0x80F = false ∧
    (runs (.fenEvent 0x369) (put fen0 [(fFEN_TI_i_TASK 1023, 0x80F), (fPM_PD_STATUS_ON, 0x1FFF)]) fun t => t.fen.acts == [] &&
      t.fld (fFEN_TI_i_COUNT_DROP 1023) == 1) = true := by decide +kernel

theorem test_fen_rearm_and_loop :
    (runs (.rearmEnd 255) { fen0 with fen := { fen0.fen with rearm := 2 ^ 255, held := 2 ^ 255 } } fun t => bitOf t.fen.rearm 255 &&
      !bitOf t.fen.held 255 && t.acceptances 255 == 1) = true ∧
    (runs (.loopInterval 255) { put fen0 [(fFEN_LOOP_CFG_LOOP_MAX, 5)] with fen := { fen0.fen with accepted := [(255, 5)] } } fun t =>
      t.chOn 255 && t.acceptances 255 == 0) = true ∧
    (runs (.loopInterval 255) { put fen0 [(fFEN_LOOP_CFG_LOOP_MAX, 5)] with fen := { fen0.fen with accepted := [(255, 6)] } } fun t =>
      !t.chOn 255 && bitOf (t.regN (rFEN_LOOPTRIP_w 7)) 31 && t.faultLog == [0x0801]) = true := by decide +kernel

theorem test_fen_channels :
    (runs (.fenChannelEnable .pf0 254 0x0F036900) fen0 fun t => t.chOn 254 && t.reg (rFEN_CH_c 254) == 0x0F036901 &&
      !t.flag fFEN_STATUS_REFUSED) = true ∧
    sourceListed 0x3FF = false ∧
    (runs (.fenChannelEnable .pf0 254 0x0003FF00) fen0 fun t => !t.chOn 254 && t.flag fFEN_STATUS_REFUSED && t.fld fFEN_STATUS_REASON == 7 &&
      t.fld fFEN_STATUS_ITEM == 254) = true ∧
    (runs (.fenChannelEnable (.vf 3) 254 0x00036900) fen0 fun t => t.reg (rFEN_CH_c 254) == 0x0003FF00 && t.fld fFEN_SEC_LOG_COUNT == 1 &&
      t.fld fFEN_SEC_ADDR_REQ == 4 && t.fld fFEN_SEC_ADDR_OFFSET == 0x13F8) = true := by decide +kernel

theorem test_fen_task_inputs :
    (runs (.fenTaskInputEnable .pf0 1022 0x083EFF00) fen0 fun t => t.tiOn 1022 && t.reg (rFEN_TI_i 1022) == 0x083EFF01 && t.tiOn 1023 &&
      !t.flag fFEN_STATUS_REFUSED) = true ∧
    (runs (.fenTaskInputEnable .pf0 1022 0x483EFF00) fen0 fun t => !t.tiOn 1022 && t.fld fFEN_STATUS_REASON == 4) = true ∧
    (runs (.fenTaskInputEnable .pf0 1022 0x083EFF00) (put fen0 [(fFEN_CH_c_SEC 255, 1)]) fun t => !t.tiOn 1022 &&
      t.fld fFEN_STATUS_REASON == 5) = true ∧
    (runs (.fenTaskInputEnable .pf0 1022 0x083FFF00) (put fen0 [(fFEN_TI_i_OWNER 1023, 2)]) fun t => !t.tiOn 1022 &&
      t.fld fFEN_STATUS_REASON == 0x81) = true := by decide +kernel

theorem test_fen_counters_and_software_events :
    (runs (.fenCounterConfig .pf0 15 0x1FF) fen0 fun t => t.fld (fFEN_CNT_j_CFG_CH 15) == 255 && t.fld (fFEN_CNT_j_COUNT 15) == 0 &&
      t.flag (fFEN_CNT_j_CFG_EN 15)) = true ∧
    (runs (.fenCounterConfig .pf0 15 0xFE) fen0 fun t => t.fld (fFEN_CNT_j_CFG_CH 15) == 254 &&
      t.fld (fFEN_CNT_j_COUNT 15) == 0xFFFFFFFF) = true ∧
    (runs (.fenCounterConfig (.vf 0) 15 0x1FF) fen0 fun t => t.reg (rFEN_CNT_j_CFG 15) == 0x1FF && t.fld fFEN_SEC_LOG_COUNT == 1) = true ∧
    (runs (.swev .pf0 15) fen0 fun t => t.fen.presented == [0x369, 0x37F]) = true := by decide +kernel

theorem test_decision_network :
    (∀ q < 8, (put ready [(fDN_SLOT_s_VALID 1023, 1)]).portPresent q = true →
      (put ready [(fDN_SLOT_s_VALID 1023, 1)]).flag (fCW_Pp_CTRL_ENABLE q) = false) ∧
    (runs (.dnEnable .pf0) ready fun t => t.flag fDN_STATUS_ENABLED && !t.flag fDN_STATUS_REFUSED) = true ∧
    (runs (.dnEnable .pf0) (inMode 8) fun t => !t.flag fDN_STATUS_ENABLED && t.fld fDN_STATUS_REASON == 2) = true ∧
    (runs (.impClr .pf0) (put ready [(fDN_SLOT_s_VALID 1023, 1), (fDN_SLOT_s_VALID 511, 1), (fDN_SLOT_s_SEQ 1023, 9)]) fun t =>
      t.reg (rDN_SLOT_s 1023) == 0 && t.flag (fDN_SLOT_s_VALID 511)) = true := by decide +kernel

/-! ### Causeway -/

/-- Port 7 in a training state with all lanes allowed; node 5; every other node is reached through port 7. -/
def link7 (st : Nat) : State :=
  put ready [(fCW_Pp_STATUS_STATE 7, st), (fCW_Pp_CFG_LANE_EN 7, 15), (fCW_Pp_CFG_TRAIN_TO 7, 1), (fCW_Pp_CFG_DOWN_TIME 7, 1),
    (fCW_Pp_POL_DEPTH 7, 4), (fCW_NODE_ID, 5), (fSEC_CSu_STATUS_LOADED 8, 1), (fCW_EXC_x_ACT_EN 7, 1), (fCW_EXC_x_ACT_PORT 7, 7),
    (fCW_STATUS_ENABLED, 1), (fCW_CTRL_ENABLE, 1), (fCW_Pp_CTRL_ENABLE 7, 1), (fCW_Pp_STATUS_LANES 7, 15), (fCW_MGMT_WR_EN, 1)]

/-- The link with a record of port 7. -/
def link7With (st : Nat) (r : CwPort) : State := { link7 st with cw := [(7, r)] }

/-- A flit of class 2 that has been sent with a sequence number. -/
def sentFlit (seq : Nat) : Flit := ⟨2, 1, 9, 5, seq, false, true, 0, 0x77⟩

theorem test_port_enable :
    (link7 0).mayWrite .pf0 (rCW_Pp_CTRL 7) = true ∧ (link7 0).laneMapOk 7 = true ∧
    (runs (.portEnable .pf0 7 0) (link7 0) fun t => t.cwState 7 == 1 && t.flag (fCW_Pp_CTRL_ENABLE 7) &&
      !t.flag (fCW_Pp_STATUS_REFUSED 7)) = true ∧
    (runs (.portEnable .pf0 7 0) (put (link7 0) [(fCW_Pp_LANEMAP_TX_MAP 7, 0xE5)]) fun t => t.cwState 7 == 0 &&
      t.flag (fCW_Pp_STATUS_REFUSED 7) && t.fld (fCW_Pp_STATUS_REASON 7) == 0xA0 && t.fld fCW_STATUS_ITEM == 7) = true ∧
    (runs (.portDisable .pf0 7 0) (link7With 5 { ({} : CwPort) with unacked := [sentFlit 1023], txSeq := 0 }) fun t =>
      t.cwState 7 == 0 && !t.flag (fCW_Pp_CTRL_ENABLE 7) && (t.cwPort 7).unacked == [] && t.fld (fCW_Pp_COUNT_C_LOST 7) == 1 &&
      t.faultLog.contains 0x0908) = true ∧
    (runs (.portReset .pf0 7) (put (link7 5) [(fCW_Pp_COUNT_A_C0_DROP 7, 3)]) fun t => t.cwState 7 == 1 && t.reg (rCW_Pp_COUNT_A 7) == 0) = true ∧
    (runs (.retrain .pf0 7) (link7With 5 { ({} : CwPort) with unacked := [sentFlit 1023] }) fun t => t.cwState 7 == 6 &&
      t.faultLog == [0x0902] && t.fld (fCW_Pp_COUNT_B_RETRAIN 7) == 1 && (t.cwPort 7).unacked == [sentFlit 1023]) = true ∧
    (runs (.retrain .pf0 7) (link7 4) fun t => t == link7 4) = true ∧
    (runs (.laneLoss 7 3) (link7 5) fun t => t.cwState 7 == 6) = true ∧
    (runs (.laneLoss 7 3) (put (link7 5) [(fCW_Pp_STATUS_LANES 7, 7)]) fun t => t.cwState 7 == 5) = true := by decide +kernel

/-- A TS word: the sender's state, lane, mask, node, ENABLE and RST. -/
def tsOf (st lane mask node en rst : Nat) : BitVec 64 :=
  let body := BitVec.ofNat 64 (packBits [(16, 0xC35A), (3, st), (2, lane), (4, mask), (14, node), (3, 6), (4, 0), (1, en), (1, rst)])
  BitVec.ofNat 64 (body.toNat + 2 ^ 56 * tsCheck body)

theorem test_ts_words :
    (link7 1).portPowered 7 = true ∧ tsValid (tsOf 1 3 15 9 1 0) = true ∧ tsValid (tsOf 1 3 15 9 1 0 ^^^ 1) = false ∧
    (runs (.tsWord 7 (tsOf 1 3 15 9 1 0 ^^^ 1) true) (link7 1) fun t => t == link7 1) = true ∧
    (runs (.tsWord 7 (tsOf 1 3 15 9 1 0) true) (link7 1) fun t => t.cwState 7 == 2 && (t.cwPort 7).partnerLanes == 15) = true ∧
    (runs (.tsWord 7 (tsOf 1 3 15 9 1 0) false) (link7 1) fun t => t.cwState 7 == 1) = true ∧
    (runs (.tsWord 7 (tsOf 2 3 15 9 1 0) true) (link7 2) fun t => t.cwState 7 == 3) = true ∧
    (runs (.tsWord 7 (tsOf 3 3 15 9 1 0) true) (link7 3) fun t => t.cwState 7 == 4 && (t.cwPort 7).lanesSeen == 8) = true ∧
    (runs (.tsWord 7 (tsOf 1 3 15 9 1 0) true) (link7 6) fun t => t.cwState 7 == 2) = true ∧
    (runs (.tsWord 7 (tsOf 1 3 15 9 1 0) true) (link7 5) fun t => t.cwState 7 == 6) = true ∧
    (runs (.tsWord 7 (tsOf 4 3 15 5 1 0) true) (link7 4) fun t => t.cwState 7 == 7 && t.flag fCW_STATUS_DUP_SEEN &&
      t.faultLog == [0x0905]) = true := by decide +kernel

theorem test_config_words :
    let r : CwPort := { ({} : CwPort) with good := 15, lanesSeen := 15, partnerLanes := 13, rst := true }
    laneChoice ((link7With 4 r).cwUsable 7) = 5 ∧
    (runs (.tsWord 7 (tsOf 4 0 5 9 1 0) true) (link7With 4 r) fun t => t.cwState 7 == 5 && t.fld (fCW_Pp_STATUS_LANES 7) == 5 &&
      t.flag (fCW_Pp_STATUS_DEGRADED 7) && t.fld (fCW_Pp_POL_TOKENS 7) == 4 && !(t.cwPort 7).rst) = true ∧
    (runs (.tsWord 7 (tsOf 4 0 15 9 1 0) true) (link7With 4 r) fun t => t.cwState 7 == 4 && (t.cwPort 7).good == 0 &&
      t.fld (fCW_Pp_PARTNER_NODE_ID 7) == 9) = true := by decide +kernel

theorem test_training_ends :
    (runs (.trainTimeout 7) (link7 6) fun t => t.cwState 7 == 7) = true ∧ (runs (.trainTimeout 7) (link7 5) fun t => t == link7 5) = true ∧
    (runs (.trainRetry 7) (put (link7 7) [(fCW_Pp_CFG_AUTO 7, 1)]) fun t => t.cwState 7 == 1) = true ∧
    (runs (.trainRetry 7) (put (link7 7) [(fCW_Pp_CFG_AUTO 7, 0)]) fun t => t.cwState 7 == 7) = true ∧
    (runs (.portDown 7) (link7With 4 { ({} : CwPort) with unacked := [sentFlit 0] }) fun t => t.flag (fCW_Pp_STATUS_DOWN 7) &&
      t.cwState 7 == 4 && t.faultLog.contains 0x0901 && (t.cwPort 7).unacked == [] && (t.cwPort 7).rst) = true ∧
    (runs (.portDown 7) (link7 5) fun t => t == link7 5) = true := by decide +kernel

/-- Import entry 511 takes node 9's decisions, and entry 510 too. -/
def importing : State :=
  put (link7 5) [(fCW_IMP_j_EN 511, 1), (fCW_IMP_j_SRC 511, 9), (fCW_IMP_j_EN 510, 1), (fCW_IMP_j_SRC 510, 9), (fDN_SLOT_s_VALID 1022, 1)]

/-- The header of a flit from node 9 to a node. -/
def hdr9 (dest : BitVec 14) (seq : BitVec 10) : Hdr := ⟨dest, 9, seq, false, true, false⟩

theorem test_decision_flits :
    let x := decisionPayload [⟨5, 511, 2, 15⟩]
    importing.impFrom 511 9 = true ∧
    (runs (.decision 7 (hdr9 5 1023) x) importing fun t => t.fld (fDN_SLOT_s_STATE 1023) == 2 && t.flag (fDN_SLOT_s_VALID 1023) &&
      t.fld (fDN_SLOT_s_SEQ 1023) == 15 && t.fld fDN_COUNT_A_IMPORTED == 1 && SMap.get (fun _ => 0) t.esqRx 9 == 1 &&
      t.flag (fDN_SLOT_s_VALID 1022)) = true ∧
    importing.impFrom 510 9 = true ∧ SMap.get (fun _ => 0) { importing with esqRx := [(9, 1023)] }.esqRx 9 = 1023 := by decide +kernel

theorem test_decision_flits_elsewhere :
    let x := decisionPayload [⟨5, 511, 2, 15⟩]
    (runs (.decision 7 (hdr9 5 0) x) (link7 5) fun t => t.fld fCW_GAP_COUNT_IMP_REJECT == 1) = true ∧
    (link7 5).route 6 = .port 7 none false ∧
    (runs (.decision 7 (hdr9 6 0) x) (link7 5) fun t => (t.cwPort 7).c0 == [.transit (flitOf 0 1 (hdr9 6 0) x)]) = true ∧
    (runs (.decision 7 (hdr9 6 0) x) (put (link7 5) [(fCW_EXC_x_ACT_PORT 7, 3)]) fun t => t.fld (fCW_Pp_COUNT_A_C0_DROP 3) == 1 &&
      t.faultLog == [0x0906]) = true ∧
    (runs (.decision 7 (hdr9 6 0) x) (put (link7 5) [(fCW_EXC_x_ACT_EN 7, 0)]) fun t => t.faultLog == [0x0906]) = true ∧
    (runs (.decision 7 { hdr9 6 0 with src := 5 } x) (link7 5) fun t => t.cwState 7 == 7 && t.flag fCW_STATUS_DUP_SEEN &&
      t.faultLog == [0x0905]) = true := by decide +kernel

theorem test_class_zero :
    let f := flitOf 0 1 (hdr9 6 0) (decisionPayload [⟨6, 1, 2, 3⟩])
    let item : DecItem := ⟨9, 511, 1, 7⟩
    let s (r : CwPort) (tokens : Nat) : State := put (link7With 5 r) [(fCW_Pp_POL_TOKENS 7, tokens)]
    (runs (.decisionFlitSend 7) (s { ({} : CwPort) with c0 := [.transit f] } 1) fun t => t.out == [.flit 7 f.bits] &&
      (t.cwPort 7).c0 == [] && t.fld (fCW_Pp_POL_TOKENS 7) == 0) = true ∧
    (runs (.decisionFlitSend 7) { s { ({} : CwPort) with c0 := List.replicate 10 (.item item) } 1 with esqTx := [(9, 1023)] } fun t =>
      t.out.length == 1 && t.esqTx == [] && (t.cwPort 7).c0 == []) = true ∧
    (runs (.decisionFlitSend 7) (s { ({} : CwPort) with c0 := [.item item] } 0) fun t => t.fld (fCW_Pp_COUNT_C_POL_WAIT 7) == 1 &&
      (t.cwPort 7).c0 == [.item item] && t.faultLog == [0x0907]) = true ∧
    (runs (.policerToken 7) (s {} 4) fun t => t.fld (fCW_Pp_POL_TOKENS 7) == 4) = true ∧
    (runs (.policerToken 7) (s { ({} : CwPort) with timeWait := some 0x123 } 0) fun t => t.out == [.flit 7 0x123] &&
      (t.cwPort 7).timeWait == none) = true ∧
    (runs (.alignDue 7) (s {} 1) fun t => t.out == [.align 7]) = true ∧
    (runs (.alignDue 7) (s { ({} : CwPort) with c0 := [.item item] } 1) fun t => (t.cwPort 7).alignDue && t.out == []) = true ∧
    (runs (.flitCrcFail 7) (link7 5) fun t => t.fld (fCW_Pp_COUNT_A_CRC_DROP 7) == 1 && t.faultLog == [0x0903]) = true ∧
    reservedKind 7 1 = true ∧ (runs (.badKind 7 7 1) (link7 5) fun t => t.fld (fCW_Pp_COUNT_C_BAD_KIND 7) == 1) = true := by decide +kernel

/-! ### Sedge messages -/

/-- The session with neighbour 5, node 9, on port 7, in a state of its neighbour. -/
def seam7 (nb : Nat) : State := put (seamed nb 3) [(fCW_NODE_ID, 5), (fSDG_STATUS_ENABLED, 1), (fCW_STATUS_ENABLED, 0)]

theorem test_seam_events :
    let x : BitVec 188 := BitVec.ofNat 188 (packBits [(32, 6), (2, 1), (128, 2 ^ 127)])
    (seam7 2).sedgePowered = true ∧ (seam7 2).sdgNeighbourOf 9 = some 5 ∧
    (seam7 2).arrivesC0 7 (flitOf 0 2 (hdr9 5 0) (sedgePayload 1 x)) = true ∧
    (runs (.seamEvents 7 (hdr9 5 0) x) (put (seam7 2) [(fSDG_STATUS_ENABLED, 0)]) fun t => t.fld fCW_GAP_COUNT_SEDGE_DISCARD == 1 &&
      t.sdg == (seam7 2).sdg) = true ∧
    (runs (.seamEvents 7 (hdr9 5 0) x) (seam7 2) fun t => t.sdg.ghosts == [(5, 6, [1], [255])] &&
      t.sdg.silent == [0, 0, 0, 0, 0, 0]) = true ∧
    (runs (.seamEvents 7 (hdr9 5 0) x) (seam7 1) fun t => t.fld (fSDG_NBk_STATUS_LATE 5) == 1 && t.sdg.ghosts == []) = true := by
  decide +kernel

theorem test_seam_commits :
    let x (last : Nat) : BitVec 188 := BitVec.ofNat 188 (packBits [(32, 5), (1, last), (4, 1), (10, 1023), (5, 31), (1, 0)])
    let s : State := { seam7 2 with sdg := { (seam7 2).sdg with ownSeam := [(5, 5, [(1, 0)])] } }
    (runs (.seamCommit 7 (hdr9 5 0) (x 0)) s fun t => t.sdg.partSeam == [(5, 5, [(1023, 31)])]) = true ∧
    (runs (.seamCommit 7 (hdr9 5 0) (x 1)) (seam7 2) fun t => t.sdg.theirSeam == [(5, 5, [(1023, 31)])]) = true ∧
    (runs (.seamCommit 7 (hdr9 5 0) (x 1)) s fun t => t.sdg.ownSeam == [] && t.fld (fSDG_NBk_DISAGREE_DISAGREE 5) == 2) = true := by
  decide +kernel

theorem test_hello_and_round_status :
    let x : BitVec 188 := ((seam7 1).sdgHello 5 9).extractLsb' 4 188
    let y : BitVec 188 := BitVec.ofNat 188 (packBits [(32, 6), (32, 6)])
    sedgePayload 4 x = (seam7 1).sdgHello 5 9 ∧ (seam7 1).arrives 7 (flitOf 1 0 (hdr9 5 0) (sedgePayload 4 x)) = true ∧
    (runs (.hello 7 (hdr9 5 0) x) (seam7 1) fun t => t.fld (fSDG_NBk_STATUS_STATE 5) == 2 && t.nbLinkedFor 5 7 && !t.nbLinkedFor 5 6) = true ∧
    (runs (.hello 7 (hdr9 5 0) (x + 1)) (seam7 1) fun t => t.fld (fSDG_NBk_STATUS_STATE 5) == 3 && t.faultLog == [0x0704]) = true ∧
    (seam7 2).sdgHeld 6 = some 6 ∧
    (runs (.roundStatus 7 (hdr9 5 0) y) (seam7 2) fun t => t.flag (fSDG_LOG_i_NB_UNTRUSTED 6) && !t.flag (fSDG_LOG_i_NB_UNTRUSTED 5) &&
      t.fld (fSDG_NBk_STATUS_NB_UNTR 5) == 1 && t.faultLog == [0x0703]) = true := by decide +kernel

/-! ### Retry, remote accesses and readiness -/

theorem test_retry :
    let s (n : Nat) : State := link7With 5 { ({} : CwPort) with unacked := [sentFlit 1022, sentFlit 1023, sentFlit 0], replays := n, txSeq := 1 }
    let link (ack : BitVec 10) (nak : Bool) : Instr := .link 7 ⟨ack, true, nak, 0x050403020100⟩
    (runs (link 1023 false) (s 3) fun t => (t.cwPort 7).unacked == [sentFlit 0] && (t.cwPort 7).replays == 0 &&
      (t.cwPort 7).credRx == [0, 1, 2, 3, 4, 5] && t.out == []) = true ∧
    (runs (link 1022 true) (s 3) fun t => t.out == [.flit 7 (sentFlit 1023).bits, .flit 7 (sentFlit 0).bits] &&
      t.fld (fCW_Pp_COUNT_B_REPLAY 7) == 1 && (t.cwPort 7).replays == 1) = true ∧
    (runs (link 1 false) (s 3) fun t => t.fld (fCW_Pp_COUNT_C_BAD_KIND 7) == 1 && (t.cwPort 7).unacked.length == 3) = true ∧
    (runs (.replayTimeout 7) (link7 5) fun t => t == link7 5) = true ∧
    (runs (.replayTimeout 7) (s 6) fun t => t.out.length == 3 && (t.cwPort 7).replays == 7 && t.cwState 7 == 5) = true ∧
    (runs (.replayTimeout 7) (s 7) fun t => t.cwState 7 == 6 && (t.cwPort 7).unacked.length == 3 && t.faultLog == [0x0902]) = true ∧
    (runs (.linkDue 7) (link7With 5 { ({} : CwPort) with nakDue := true, rxAny := true, freed := [255, 0, 0, 0, 0, 1] }) fun t =>
      t.out == [.flit 7 (linkFlitBits 1023 true true [255, 0, 0, 0, 0, 1])] && t.fld (fCW_Pp_COUNT_B_NAK 7) == 1 &&
      !(t.cwPort 7).nakDue) = true := by decide +kernel

/-- The answers of RSP that the run has queued at port 7. -/
def answers (i : Instr) (s : State) : List (Nat × Nat × Nat × Nat) :=
  match exec i s with
  | .next t => (t.cwPort 7).unacked.map (fun f => (f.dest, sliceNat f.payload 31 0, sliceNat f.payload 47 32, sliceNat f.payload 55 48))
  | _ => [(0, 0, 0, 9)]

theorem test_remote_accesses :
    let h := hdr9 5 0
    let word (a v tag : Nat) : BitVec 192 := BitVec.ofNat 192 (packBits [(32, a), (32, v), (16, tag)])
    let s := link7 5
    s.clearToSend 7 = true ∧ s.arrives 7 (flitOf 2 0 h 0) = true ∧
    answers (.rdReq 7 h (word rCW_NODE 0 0xFFFF)) s = [(9, 5, 0xFFFF, 0)] ∧
    answers (.rdReq 7 h (word (rCW_NODE + 1) 0 7)) s = [(9, 0, 7, 2)] ∧
    answers (.wrReq 7 h (word rTM_ROOT_INIT_L 3 7)) s = [(9, 0, 7, 0)] ∧
    (runs (.wrReq 7 h (word rTM_ROOT_INIT_L 3 7)) s fun t => t.regN rTM_ROOT_INIT_L == 3) = true ∧
    answers (.wrReq 7 h (word rTM_ROOT_INIT_L 3 7)) (put s [(fCW_MGMT_WR_EN, 0)]) = [(9, 0, 7, 1)] ∧
    (runs (.rsp 7 h 0) s fun t => (t.cwPort 7).rxExp == 1 && (t.cwPort 7).freed == [0, 0, 1, 0, 0, 0]) = true := by decide +kernel

theorem test_block_writes :
    let h := hdr9 5 0
    let head (a n : Nat) : BitVec 192 := BitVec.ofNat 192 (packBits [(32, a), (16, 0xFFFF), (6, n)])
    let s (left : Nat) : State := { link7With 5 { ({} : CwPort) with blocks := [⟨9, false, 7, 0, left, 62, 0⟩] } with
      pages := [(6, 0xFFFF)] }
    (runs (.blkHead 7 h (head 0x3FFFFF8 63)) (link7 5) fun t => (t.cwPort 7).blocks == [⟨9, false, 0xFFFF, 0xFFFFF8, 63, 0, 0⟩]) = true ∧
    (runs (.blkHead 7 h (head 0x3FFFFFC 1)) (link7 5) fun t => (t.cwPort 7).blocks.map (·.status) == [2]) = true ∧
    (runs (.blkHead 7 h (head 0x4000000 1)) (link7 5) fun t => (t.cwPort 7).blocks.map (·.status) == [1]) = true ∧
    (runs (.blkData 7 h 1) (s 2) fun t => (t.cwPort 7).blocks.map (fun b => (b.left, b.index)) == [(1, 63)] && t.out == []) = true ∧
    answers (.blkData 7 h 1) (s 1) = [(9, 0, 7, 0)] ∧
    (runs (.wrReq 7 (hdr9 5 511) 0) (link7 5) fun t => (t.cwPort 7).nakSent && (t.cwPort 7).nakDue) = true ∧
    (runs (.wrReq 7 (hdr9 5 512) 0) (link7 5) fun t => t == link7 5) = true := by decide +kernel

theorem test_causeway_enable :
    let s := put (link7 0) [(fCW_STATUS_ENABLED, 0), (fCW_Pp_CTRL_ENABLE 7, 0)]
    s.cwCheck = [] ∧
    (runs (.cwEnable .pf0) { s with esqRx := [(9, 3)] } fun t => t.flag fCW_STATUS_ENABLED && !t.flag fCW_STATUS_REFUSED && t.esqRx == []) = true ∧
    (runs (.cwEnable .pf0) (put s [(fPM_STATUS_MODE, 8)]) fun t => !t.flag fCW_STATUS_ENABLED && t.fld fCW_STATUS_REASON == 2) = true := by
  decide +kernel

theorem test_readiness :
    let h : Hdr := ⟨0, 9, 0, true, true, false⟩
    let s := put (link7 5) [(fCW_BOARD_CHILD_MASK, 128), (fTM_CTRL_ROLE, 1), (fCW_RDY_STATUS_BOARD, 1)]
    s.arrives 7 (flitOf 2 3 h 10) = true ∧
    (runs (.beacon 7 h 10) s fun t => (t.cwPort 7).beacon == some (true, false, true) && (t.cwPort 7).rxExp == 1 &&
      t.fld fCW_RDY_STATUS_SILENT == 0 &&
      (runs (.beaconTimeout 7) t fun u => (u.cwPort 7).beacon == none && u.fld fCW_RDY_STATUS_SILENT == 128)) = true ∧
    s.clearToSend 7 = true ∧ s.portActive 6 = false ∧
    (runs .beaconDue s fun t => t.out.length == 1 && (t.cwPort 7).unacked.map (·.kind) == [3] && t.cwPort 6 == s.cwPort 6) = true ∧
    (runs (.rdyChange false) s fun t => !t.flag fCW_RDY_STATUS_BOARD && t.cw == s.cw) = true := by decide +kernel

/-! ### Boardwalk -/

/-- The bits of a descriptor with opcode, flags, sequence 9 and further fields: first byte, number of bytes, value. -/
def descBits (opc flg : Nat) (fields : List (Nat × Nat × Nat)) : BitVec 512 :=
  BitVec.ofNat 512 (fields.foldl (fun a f => a + 2 ^ (8 * f.1) * (f.2.2 % 2 ^ (8 * f.2.1))) (opc + 256 * flg + 2 ^ 16 * 5 + 2 ^ 32 * 9))

/-- The device in a mode, partition 3 enabled, its completion ring 7 at 0x1000 with 64 slots of which slot 63 is next. -/
def hostIn (mode : Nat) (sqs : SMap SubRing) : State :=
  let s := put (inMode mode) [(fSEC_CSu_STATUS_LOADED 0, 1), (fBW_Pp_STATUS_ENABLED 3, 1), (fBW_POOL_OWNER_OWNER15, 3), (fBW_CFG_SHARED_PART, 3),
    (⟨rBW_Pp_CQr_BASE_L 3 7, 31, 0⟩, 0x1000), (fBW_Pp_CQr_SIZE_ENTRIES 3 7, 64), (⟨rBW_Pp_CQr_TAIL 3 7, 31, 0⟩, 63),
    (fBW_Pp_SQr_CTRL_CQ 3 7, 7), (fBW_Pp_SQr_SIZE_ENTRIES 3 7, 64), (⟨rBW_Pp_SQr_HEAD 3 7, 31, 0⟩, 0xFFFFFFFF), (⟨rBW_Pp_SB_ADDR_L 3, 31, 0⟩, 64)]
  { s with sqs := sqs, cqs := [(31, { on := true, head := 1 })] }

/-- The descriptor of ring 7, fetched. -/
def desc7 (bits : BitVec 512) (phase : DescPhase) : Desc := ⟨bits, 0, 7, 0, phase⟩

/-- READY with a descriptor in ring 7 of partition 3. -/
def host7 (bits : BitVec 512) (phase : DescPhase := .fetched) : State := hostIn 7 [(31, ⟨true, 0, some (desc7 bits phase)⟩)]

/-- The command ends the descriptor of ring 7 with a record in slot 63: STATUS, REASON, FAULT and steps. -/
def ends (i : Instr) (s : State) (status reason fault steps : Nat) : Bool :=
  runs i s fun t => (t.sq 3 7).cur == none && t.regN (rBW_Pp_CQr_TAIL 3 7) == 64 &&
    t.out.any (fun o => match o with
      | .hostWrite a bytes => a == 0x1000 + 32 * 63 && leNat bytes % 2 ^ 96 ==
          9 + 2 ^ 32 * status + 2 ^ 40 * reason + 2 ^ 48 * fault + 2 ^ 64 * steps
      | _ => false)

theorem test_descriptor_ready :
    let d := descBits 0 1 []
    (host7 d).bwRuns = true ∧ (host7 d).partOn 3 = true ∧ (host7 d).sq 3 7 = ⟨true, 0, some (desc7 d .fetched)⟩ ∧
    (desc7 d .fetched).opc = 0 ∧ (desc7 d .fetched).flg = 1 ∧ (desc7 d .fetched).seq = 9 ∧ ((host7 d).cq 3 7).on = true ∧
    (host7 d).flag (fBW_Pp_CQr_STATUS_ERR 3 7) = false ∧ (∀ q < 8, q ≠ 7 → ((host7 d).sq 3 q).cur = none) ∧
    ends (.descNop 3 7) (host7 d) 0 0 0 0 = true ∧ ends (.timeQuery 3 7) (host7 (descBits 8 0 [])) 0 0 0 0x3F00 = true ∧
    ends (.descFence 3 7) (host7 (descBits 7 0 [])) 0 0 0 0 = true := by decide +kernel

theorem test_descriptor_fetch :
    let s := hostIn 7 [(31, ⟨true, 0, none⟩)]
    s.mayFetch 3 7 = true ∧ s.descRefusal 3 (desc7 (descBits 0 2 []) .fetched) = none ∧
    (runs (.descriptorFetch 3 7 (descBits 0 2 [])) s fun t => t.fetches == 1 && t.regN (rBW_Pp_SQr_HEAD 3 7) == 0 &&
      t.fld (fBW_Pp_COUNT_FETCHED 3) == 1 && (t.sq 3 7).cur == some (desc7 (descBits 0 2 []) .fetched) &&
      t.fld (fBW_Pp_CQr_STATUS_RESERVED_SLOTS 3 7) == 1) = true ∧
    s.descRefusal 3 (desc7 (descBits 0xFF 0 []) .fetched) = some 7 ∧
    ends (.descriptorFetch 3 7 (descBits 0xFF 0 [])) s 2 7 0 0 = true ∧
    (hostIn 7 [(31, ⟨true, 0xFFFFFFFF, none⟩)]).mayFetch 3 7 = false ∧
    (runs (.descFence 3 7) (hostIn 7 [(30, ⟨true, 0, some { desc7 (descBits 4 0 [(8, 1, 15), (9, 1, 15)]) (.append [1] 0 0 false) with no := 0 }⟩),
        (31, ⟨true, 0, some (desc7 (descBits 7 0 [(8, 1, 64)]) .fetched)⟩)]) fun t =>
      (t.sq 3 7).cur == some (desc7 (descBits 7 0 [(8, 1, 64)]) .fence)) = true := by decide +kernel

theorem test_load_peat :
    let top := 4194304 - 32
    let d (unit at_ len : Nat) : BitVec 512 := descBits 2 0 [(8, 1, 15), (9, 1, unit), (12, 4, at_), (16, 4, len)]
    let busy (b : BitVec 512) : State := { put (host7 b) [(fPEAT_SBb_CFG_SIZE 15 15, 16384)] with sbufs := [(255, { ({} : SBuf) with enabled := true })] }
    (busy (d 0 top 32)).peatConflict 15 top 32 = true ∧ ends (.loadPeat 3 7 []) (busy (d 0 top 32)) 2 6 0 0 = true ∧
    (host7 (d 0 top 32)).peatConflict 15 top 32 = false ∧ (host7 (d 0 top 32)).poolPowered 15 = true ∧
    ends (.loadPeat 3 7 (List.replicate 32 7)) (host7 (d 0 top 32)) 0 0 0 1 = true ∧
    (runs (.loadPeat 3 7 (List.replicate 32 7)) (host7 (d 0 top 32)) fun t => t.peat.readLe (67108864 - 4) 4 == 0x07070707) = true ∧
    ends (.loadPeat 3 7 (List.replicate 31 7)) (host7 (d 0 top 32)) 4 0 0x0A02 0 = true ∧
    ends (.loadPeat 3 7 (List.replicate 32 0)) (host7 (d 1 4095 1)) 2 0x22 0 0 = true ∧
    ends (.loadPeat 3 7 ((leBytes 4 0x10000) ++ List.replicate 4 0 ++ leBytes 4 9 ++ List.replicate 8 0 ++ leBytes 4 3 ++ List.replicate 8 0))
      (host7 (d 1 4095 1)) 0 0 0 1 = true := by decide +kernel

theorem test_load_prog_and_graph :
    let p := descBits 3 0 [(8, 1, 63), (16, 4, 4)]
    let g := descBits 0x0B 0 [(16, 4, 4)]
    (host7 p).progRefusal 63 [1, 2, 3, 4] = some 0x42 ∧ ends (.loadProg 3 7 [1, 2, 3, 4]) (host7 p) 2 0x42 0 0 = true ∧
    ends (.loadProg 3 7 [1, 2, 3]) (host7 p) 4 0 0x0A02 0 = true ∧
    (host7 g).graphRefused [1, 2, 3, 4] = some 0x60 ∧ ends (.loadGraph 3 7 [1, 2, 3, 4]) (host7 g) 2 0x60 0 0 = true := by decide +kernel

theorem test_stream_append :
    let d := descBits 4 0 [(8, 1, 15), (9, 1, 15), (16, 4, 2)]
    let s (wr : Nat) (ph : DescPhase) : State := { put (host7 d ph) [(fPEAT_SBb_CFG_SIZE 15 15, 1), (⟨rPEAT_SBb_WRPOS_L 15 15, 31, 0⟩, wr)]
      with sbufs := [(255, { ({} : SBuf) with enabled := true })] }
    ((s 62 .fetched).sbRegion 15 15).2 = 64 ∧ ((s 62 .fetched).sbuf 15 15).enabled = true ∧
    ends (.streamAppend 3 7 [1, 0, 0, 0, 2, 0, 0, 0]) (host7 d) 2 8 0 0 = true ∧
    (runs (.streamAppend 3 7 [1, 0, 0, 0, 2, 0, 0, 0]) (s 62 .fetched) fun t => t.reg64 (rPEAT_SBb_WRPOS_L 15 15) == 64 &&
      (t.sq 3 7).cur == none && t.peat.readLe (62914560 + 4 * 63) 4 == 2) = true ∧
    (runs (.streamAppend 3 7 [1, 0, 0, 0, 2, 0, 0, 0]) (s 64 .fetched) fun t => (t.sq 3 7).cur == some (desc7 d (.append [1, 2] 0 0 false))) = true ∧
    (runs (.streamAppendContinue 3 7) (s 62 (.append [1, 2] 0 0 false)) fun t => (t.sq 3 7).cur == none &&
      t.reg64 (rPEAT_SBb_WRPOS_L 15 15) == 64) = true ∧
    (runs (.streamAppendContinue 3 7) (s 64 (.append [1, 2] 0 0 false)) fun t => (t.sq 3 7).cur == some (desc7 d (.append [1, 2] 0 0 false))) = true := by
  decide +kernel

theorem test_load_weights_and_read_acc :
    let d := descBits 0x0A 0 [(8, 1, 15), (9, 1, 31), (12, 2, 2046), (14, 2, 2)]
    let a (flg : Nat) := descBits 0x0C flg [(8, 1, 15), (9, 1, 31), (12, 2, 0), (16, 8, 0x9000)]
    let ever (s : State) : State := { s with roEver := 2 ^ 15 }
    let busy (s : State) : State := { ever s with tones := [(511, { ({} : RoTone) with more := [1] })] }
    ends (.loadWeights 3 7 [1, 0, 0, 0, 2, 0, 0, 0]) (host7 d) 2 8 0 0 = true ∧ ((busy (host7 d)).tone 15 31).busy = true ∧
    (runs (.loadWeights 3 7 [1, 0, 0, 0, 2, 0, 0, 0]) (busy (host7 d)) fun t => (t.sq 3 7).cur == some (desc7 d (.weights [1, 2] false))) = true ∧
    ends (.loadWeights 3 7 [1, 0, 0, 0, 2, 0, 0, 0]) (ever (host7 d)) 0 0 0 2 = true ∧
    (runs (.loadWeightsApply 3 7) (ever (host7 d (.weights [1, 2] false))) fun t => t.weight 15 31 2047 == 2 && (t.sq 3 7).cur == none) = true ∧
    (runs (.loadWeightsApply 3 7) (busy (host7 d (.weights [1, 2] false))) fun t => t == busy (host7 d (.weights [1, 2] false))) = true ∧
    ends (.readAcc 3 7) (host7 (a 0)) 2 8 0 0 = true ∧ ends (.readAcc 3 7) (ever (host7 (a 0))) 0 0 0 0 = true ∧
    (runs (.readAcc 3 7) (ever (put (host7 (a 4)) [(⟨rRO_Tk_SHOTS 15 31, 31, 0⟩, 6)])) fun t => t.regN (rRO_Tk_SHOTS 15 31) == 0 &&
      (t.sq 3 7).cur == none) = true := by decide +kernel

/-- A RUN descriptor for core 63 at T_START, without a reference tone. -/
def runBits (start : Nat) : BitVec 512 := descBits 1 0 [(8, 8, 2 ^ 63), (16, 8, start), (24, 8, 0x4000), (32, 4, 128), (36, 2, 0xFFFF), (40, 4, 7)]

/-- Its RUN, ring 7 of partition 3, and another that holds Pool 15. -/
def run7 : Run := (desc7 (runBits 0) .run).run 3 7
def other : Run := { ({} : Run) with part := 2, active := true, coreMask := 2 ^ 63 }

/-- A RUN in ring 7, beside others, of a device in a mode whose fabric time runs. -/
def withRun (x : Run) (mode : Nat) (l : List Run) : State :=
  { put (hostIn mode [(31, ⟨true, 0, some (desc7 (runBits x.tStart) .run)⟩)]) [(fTM_STATUS_STATE, 1), (fRC_i_STATUS_STATE 15 3, 1)] with
    runs := l ++ [x], cores := [(63, { ({} : Core) with entry := 7, lastT := 3 })] }

theorem test_run_descriptor :
    let timed (start : Nat) : State := put (host7 (runBits start)) [(fTM_STATUS_STATE, 1), (fRC_i_STATUS_STATE 15 3, 1)]
    (timed 0).runFailures run7 = [] ∧
    (runs (.run 3 7) (timed 0) fun t => t.runs == [run7] && (t.sq 3 7).cur == some (desc7 (runBits 0) .run)) = true ∧
    ({ timed 0 with runs := [other] }).runBlocked run7 = true ∧
    (runs (.run 3 7) { timed 0 with runs := [other] } fun t => t.runs == [other, run7]) = true ∧
    ends (.run 3 7) (host7 (runBits 0)) 2 3 0 0 = true := by decide +kernel

theorem test_run_ready_and_start :
    (runs (.runReady 3 7) (atTick (withRun run7 7 []) 1) fun t => t.runs.map (fun x => (x.active, x.ts)) == [(true, 1040)] && t.mode == 8) = true ∧
    (runs (.runReady 3 7) (withRun { run7 with tStart := 1024 } 11 []) fun t => t.runs.map (·.ts) == [1024] && t.mode == 11) = true ∧
    (runs (.runReady 3 7) (withRun run7 7 [other]) fun t => t == withRun run7 7 [other]) = true ∧
    ends (.runReady 3 7) (withRun { run7 with tStart := 1008 } 7 []) 2 0xC4 0 0 = true ∧
    (runs (.runStart 3 7) (put (withRun { run7 with active := true, ts := 1040 } 8 []) [(fDN_SLOT_s_SEQ 511, 3)]) fun t => t.rcState 63 == 2 &&
      (t.core 63).st == 1040 && t.pc 63 == 7 && t.reg (rDN_SLOT_s 511) == 0 && t.runs.map (·.started) == [true] &&
      t.fen.presented == [0x383]) = true := by decide +kernel

theorem test_run_ends :
    let x : Run := { run7 with active := true, started := true, ts := 1040, buf := none, lastT := some 2000, lastEnd := some 3000 }
    let s (st : Nat) : State := put (withRun x 8 []) [(fRC_i_STATUS_STATE 15 3, st)]
    (s 4).runOver x = true ∧ ends (.runComplete 3 7) (s 4) 0 0 0 1 = true ∧
    (runs (.runComplete 3 7) (s 4) fun t => t.runs == [] && t.mode == 7 && t.rcState 63 == 1 && t.fen.presented.contains 0x387) = true ∧
    (s 2).runOver x = false ∧ (runs (.runComplete 3 7) (s 2) fun t => t == s 2) = true ∧
    (runs (.runTimeout 3 7) (s 2) fun t => t.runs.map (·.ended) == [some 0x0A05] && t.rcState 63 == 6 && t.faultLog.contains 0x0A05) = true := by
  decide +kernel

theorem test_abort :
    let d := descBits 9 0 [(8, 2, 5)]
    let s (x : Run) : State := { withRun x 8 [] with sqs := [(30, ⟨true, 0, some (desc7 (runBits 0) .run)⟩), (31, ⟨true, 0, some (desc7 d .fetched)⟩)] }
    let x : Run := { run7 with ring := 6 }
    (desc7 d .fetched).le 8 2 = x.tag ∧ ends (.abort 3 7) (host7 d) 0 0 0 0 = true ∧
    (runs (.abort 3 7) (put (s { x with active := true, started := true }) [(fRC_i_STATUS_STATE 15 3, 3)]) fun t => t.rcState 63 == 6 &&
      (t.sq 3 7).cur == some (desc7 d (.abort [6] 1)) && t.runs.map (·.ended) == [some 0]) = true ∧
    (runs (.abort 3 7) (s x) fun t => t.runs == [] && (t.sq 3 7).cur == none && (t.sq 3 6).cur == none) = true := by decide +kernel

theorem test_results :
    let d := descBits 6 0 [(8, 2, 5), (16, 8, 0x8000), (24, 4, 256)]
    let q : PostBuf := ⟨5, 0x8000, 256, 9, 0, 7, 0⟩
    let full (s : State) (n : Nat) : State := { s with parts := [(3, { ({} : Partition) with posts := List.replicate n q })] }
    let x : Run := { run7 with active := true, buf := some { addr := 0x4000, size := 128, units := 3 } }
    let s (x : Run) : State := { put (withRun x 8 []) [(fRO_FIFO_LEVEL 15, 1)] with fifos := [(15, [⟨31, 777, [1, 2, 3, 4]⟩])] }
    (runs (.resultPost 3 7) (full (host7 d) 15) fun t => (t.partn 3).posts.getLast? == some q && (t.partn 3).posts.length == 16) = true ∧
    ends (.resultPost 3 7) (full (host7 d) 16) 2 0xC5 0 0 = true ∧
    (runs (.resultWrite 15 true) (s x) fun t => t.fifo 15 == [] && t.fld (fRO_FIFO_LEVEL 15) == 0 &&
      t.out == [.hostWrite (0x4000 + 64 + 48) [1, 0, 0, 0, 2, 0, 0, 0, 3, 0, 0, 0, 4, 0, 0, 0]] && t.faultLog == []) = true ∧
    (runs (.resultWrite 15 false) (s x) fun t => t.faultLog == [0x0A02] && t.runs.map (·.lost) == [1]) = true ∧
    (runs (.resultWrite 15 true) (full (s { x with buf := some { addr := 0x4000, size := 128, units := 4 } }) 1) fun t =>
      t.runs.map (·.buf) == [some ⟨0x8000, 256, 1, 777, some q⟩] && t.out.length == 2 && (t.partn 3).posts == []) = true ∧
    (runs (.resultWrite 15 true) (s { x with buf := none }) fun t => t.faultLog == [0x0A03] && t.runs.map (·.marks) == [[(777, 0x0A03)]]) = true ∧
    (runs (.resultWrite 14 true) (s x) fun t => t == s x) = true := by decide +kernel

theorem test_partition_and_rings :
    let s := put (inMode 7) [(fSEC_CSu_STATUS_LOADED 0, 1), (⟨rBW_Pp_DB_ADDR_L 3, 31, 0⟩, 64), (⟨rBW_Pp_SB_ADDR_L 3, 31, 0⟩, 128)]
    let h := hostIn 7 []
    s.mayWrite .pf0 (rBW_Pp_CTRL 3) = true ∧
    (runs (.partitionEnable .pf0 3) s fun t => t.partOn 3 && !t.flag (fBW_Pp_STATUS_REFUSED 3)) = true ∧
    (runs (.partitionEnable .pf0 3) (put s [(⟨rBW_Pp_SB_ADDR_L 3, 31, 0⟩, 96)]) fun t => !t.partOn 3 && t.fld (fBW_Pp_STATUS_REASON 3) == 0xC3) = true ∧
    (runs (.partitionDisable .pf0 3) (withRun { run7 with active := true } 8 []) fun t => !t.partOn 3 && (t.sq 3 7).cur == none && !(t.cq 3 7).on &&
      t.runs.map (·.ended) == [some 0] && t.mode == 8) = true ∧
    (runs (.kick (.vf 3) 3) (atTick h 9) fun t => (t.partn 3).changed == some 9) = true ∧
    (runs (.ringEnable .pf0 3 7 false 0x70) h fun t => (t.sq 3 7).on && t.regN (rBW_Pp_SQr_HEAD 3 7) == 0) = true ∧
    (runs (.ringEnable .pf0 3 7 false 0x60) h fun t => !(t.sq 3 7).on && t.fld (fBW_Pp_SQr_STATUS_REASON 3 7) == 0xC6) = true ∧
    (runs (.ringDisable .pf0 3 7 false 0) (host7 0) fun t => !(t.sq 3 7).on && (t.sq 3 7).cur.isSome) = true ∧
    (runs (.ringEnable .pf0 3 7 true 0) { h with cqs := [] } fun t => (t.cq 3 7).on && t.regN (rBW_Pp_CQr_TAIL 3 7) == 0) = true ∧
    (runs (.ringDisable .pf0 3 7 true 0) (host7 0) fun t => (t.cq 3 7).on && t.fld (fBW_Pp_CQr_STATUS_REASON 3 7) == 8) = true ∧
    (runs (.ringDisable .pf0 3 7 true 0) h fun t => !(t.cq 3 7).on) = true := by decide +kernel

theorem test_doorbells_and_resets :
    let h := hostIn 7 [(31, ⟨true, 0, none⟩)]
    let block (tail head : Nat) : BitVec 512 := BitVec.ofNat 512 (2 ^ 224 * tail + 2 ^ 480 * head)
    (runs (.doorbellPoll 3 none) h fun t => t.faultLog == [0x0A02] && t.sqs == h.sqs && t.cqs == h.cqs) = true ∧
    (runs (.doorbellPoll 3 (some (block 63 0xFFFFFFFF))) h fun t => (t.sq 3 7).tail == 63 && (t.cq 3 7).head == 0xFFFFFFFF && t.faultLog == []) = true ∧
    (runs (.doorbellPoll 3 (some (block 64 0))) h fun t => (t.sq 3 7).tail == 0 && t.flag (fBW_Pp_SQr_STATUS_ERR 3 7) && t.faultLog == [0x0A01]) = true ∧
    (runs (.doorbellPoll 3 (some (block 63 0xFFFFFFFE))) h fun t => t.flag (fBW_Pp_CQr_STATUS_ERR 3 7) && t.faultLog == [0x0A01]) = true ∧
    (runs (.vfFlr 3) { h with ic := { h.ic with msixEnable := 31 } } fun t => !t.partOn 3 && t.ic.msixEnable == 15 && t.mode == 7) = true := by
  decide +kernel

/-! ### The host interrupt controller -/

/-- The controller enabled in GATED mode; source 143 goes to vector 255 of PF0, whose message may go. -/
def ic0 (l : List (Fld × Nat)) : State :=
  let s := put (inMode 7) ([(fIC_STATUS_ENABLED, 1), (fIC_CFG_ENABLE, 1), (fIC_CFG_MODE, 1), (fIC_SRC_s_VEC 143, 255)] ++
    (List.range 16).map (fun w => (fIC_MASK_w_MASK w, 0)) ++ l)
  { s with ic := { s.ic with msixEnable := 1, entryMask := 0 } }

/-- Source 143 alone has sent vector 255. -/
def sent (t : State) : Bool := t.out == [.msix 255] && t.icDisarmed 255 && t.icPending 143 && t.fld fIC_COUNT_MSGS == 1

/-- Source 143 is pending. -/
def pend143 : Fld × Nat := (⟨rIC_PEND_w 4, 15, 15⟩, 1)

theorem test_ic_ready :
    let s := ic0 [pend143]
    s.flag fIC_STATUS_ENABLED = true ∧ s.flag fIC_GATE_GATE = false ∧ s.ic.holdOff.getLsbD (143 / 16) = false ∧ s.icAsserting 143 = true ∧
    s.icVector 143 = 255 ∧ s.icDisarmed 255 = false ∧ s.msixHeld 255 = false ∧ (∀ y < 512, y ≠ 143 → s.icAsserting y = false) := by
  decide +kernel

theorem test_ic_messages :
    (runs (.icEoi .pf0 255) (ic0 [pend143, (⟨rIC_DISARMED_x 7, 31, 31⟩, 1)]) sent) = true ∧
    (runs (.icEoi .pf0 0x1FF) (ic0 [pend143]) fun t => t == ic0 [pend143]) = true ∧
    (runs (.icGate .pf0 0) (ic0 [pend143, (fIC_GATE_GATE, 1)]) sent) = true ∧
    (runs (.icGate .pf0 1) (ic0 [pend143]) fun t => t.flag fIC_GATE_GATE && t.out == []) = true ∧
    (runs (.holdoffExpiry 8) { ic0 [pend143] with ic := { (ic0 []).ic with holdOff := 256 } } sent) = true ∧
    (runs (.icFen 15) (ic0 []) sent) = true ∧
    (runs (.icFen 15) (ic0 [(⟨rIC_MASK_w 4, 15, 15⟩, 1)]) fun t => t.icPending 143 && t.out == []) = true ∧
    (runs (.msixUnmask (.entry 255 false)) { ic0 [] with ic := { (ic0 []).ic with entryMask := BitVec.allOnes 320, pba := BitVec.twoPow 320 255 } }
      fun t => t.out == [.msix 255] && t.ic.pba == 0) = true := by decide +kernel

theorem test_ic_words :
    (runs (.icPendWrite .pf0 4 0x18000) (ic0 [pend143]) fun t => !t.icPending 143) = true ∧
    (runs (.icPendWrite .pf0 4 0x18000) (ic0 [(fIC_STATUS_ENABLED, 0), (fIC_CFG_MODE, 0)]) fun t => t.icPending 143 && t.out == []) = true ∧
    (runs (.icMaskSet .pf0 4 0x8000) (ic0 []) fun t => t.reg (rIC_MASK_w 4) == 0x8000) = true ∧
    (runs (.icMaskSet .pf0 4 0x8000) (ic0 [(fIC_CFG_MODE, 0)]) fun t => t.reg (rIC_MASK_w 4) == 0) = true ∧
    (runs (.icMaskClr .pf0 4 0x8000) (ic0 [pend143, (⟨rIC_MASK_w 4, 15, 15⟩, 1)]) sent) = true ∧
    (runs (.icDisable .pf0 0) (ic0 [pend143]) fun t => !t.flag fIC_STATUS_ENABLED && t.icPending 143 && t.flag fIC_CFG_MODE) = true := by
  decide +kernel

theorem test_ic_enable :
    (runs (.icEnable .pf0 2) (put (inMode 8) []) fun t => !t.flag fIC_STATUS_ENABLED && t.flag fIC_STATUS_REFUSED && t.fld fIC_STATUS_REASON == 2) = true := by
  decide +kernel

/-- At reset each source goes to the vector of its group. -/
theorem group_vectors : ∀ x < 512, ready.icConflictId x = 0x4000 + x / 16 := by decide +kernel

theorem test_ic_check : ready.icCheck = [] := by
  have shared : ready.icShared = [] := by
    unfold State.icShared
    rw [List.map_eq_nil_iff, List.filter_eq_nil_iff]
    intro x hx
    simp only [List.mem_range, Bool.and_eq_true, List.any_eq_true, not_and, not_exists, bne_iff_ne, beq_iff_eq] at hx ⊢
    intro _ y hy
    have h := group_vectors y (by omega)
    have h' := group_vectors x hx
    omega
  unfold State.icCheck
  rw [shared, List.append_nil]
  decide +kernel

/-! ### Sluice -/

/-- Sluice and Dipwell enabled; channel 255 in a state, with an output, a target and a staged code; its steps are 3 and 7 codes. -/
def bias (mode st out target code : Nat) : State :=
  let s := put (inMode mode) [(fSLU_CTRL_ENABLE, 1), (fSLU_STATUS_ENABLED, 1), (fDPW_CTRL_ENABLE, 1), (fDPW_STATUS_ENABLED, 1),
    (fSLU_CHc_STATUS_STATE 255, st), (fSLU_CHc_OUT_CODE 255, out), (fSLU_CHc_TARGET_CODE 255, target), (fSLU_CHc_CODE_CODE 255, code),
    (fSLU_CHc_CFG_EN 255, 1), (fSLU_CHc_CFG_FAULT_STEP 255, 7), (fSLU_CHc_SLEW_STEP 255, 3), (fSLU_CHc_SLEW_RATE 255, 1),
    (fSLU_Gg_CFG_SRC_REG 15, 1), (fSLU_Gg_CFG_SRC_FEN 15, 1), (fSEC_CSu_STATUS_LOADED 10, 1)]
  { s with slu := [(255, { ({} : SluCh) with on := true })] }

/-- −2 as a code of 18 bits. -/
def minus2 : Nat := 0x3FFFE

theorem test_strobes :
    let s := bias 7 0 0 0 minus2
    s.chLive (16 * 15) = true ∧ s.biasHeld = false ∧ s.mayWrite .pf0 (rSLU_Gg_LOAD 15) = true ∧
    (runs (.strobe .pf0 15) s fun t => t.chState 255 == 1 && t.chTarget 255 == -2 && t.fld (fSLU_Gg_COUNT_LOADS 15) == 1) = true ∧
    (runs (.sluLoad 15) (bias 7 2 0 0 minus2) fun t => t.chState 255 == 2 && t.chTarget 255 == -2) = true ∧
    (runs (.strobe .pf0 15) (bias 7 3 0 0 minus2) fun t => t.chTarget 255 == 0 && t.fld (fSLU_CHc_COUNT_RANGE_HELD 255) == 1) = true ∧
    (runs (.strobe .pf0 15) (bias modeSafe 2 0 0 minus2) fun t => t.chTarget 255 == 0 && t.fld (fSLU_Gg_COUNT_IGNORED 15) == 1) = true ∧
    (runs (.strobe .pf0 15) (put s [(fSLU_Gg_CFG_SRC_REG 15, 0)]) fun t => t == put s [(fSLU_Gg_CFG_SRC_REG 15, 0)]) = true ∧
    (put (bias modeBiasHold 2 0 0 minus2) [(fPM_SAFE_CAUSE_THERMAL, 1)]).biasHeld = true ∧
    (runs (.sluLoad 15) (put s [(fDPW_Cc_DLY_CFG_TRIG 1, 2), (fDPW_Cc_DLY_CFG_GROUP 1, 15), (fDPW_Cc_DLY_CFG_COUNT 1, 15)]) fun t =>
      (t.conv 1).dly == some 16 && (t.conv 0).dly == none) = true := by decide +kernel

theorem test_bias_steps :
    (runs (.closingEnd 255) (bias 7 1 0 minus2 0) fun t => t.chState 255 == 2 && t.chTarget 255 == -2) = true ∧
    (runs (.closingEnd 255) (bias modeSafe 1 0 minus2 0) fun t => t.chState 255 == 2 && t.chTarget 255 == 0) = true ∧
    (runs (.slewStep 255) (bias 7 2 1 minus2 0) fun t => t.chOut 255 == -2) = true ∧
    (runs (.slewStep 255) (bias 7 2 1 9 0) fun t => t.chOut 255 == 4) = true ∧
    (runs (.slewStep 255) (bias 7 2 9 9 0) fun t => t == bias 7 2 9 9 0) = true ∧
    (runs (.zeroingStep 255) (bias 7 4 minus2 0 0) fun t => t.chOut 255 == 0 && t.chState 255 == 2) = true ∧
    (runs (.zeroingStep 255) (bias 7 4 8 0 0) fun t => t.chOut 255 == 1 && t.chState 255 == 4) = true ∧
    (runs (.rangingStep 255) { bias 7 3 0 0 0 with slu := [(255, { ({} : SluCh) with on := true, newRange := 3 })] } fun t =>
      t.fld (fSLU_CHc_CFG_RANGE 255) == 3 && (t.sluCh 255).stage == 1 &&
      (runs (.rangingStep 255) t fun u => (u.sluCh 255).stage == 2 && u.chState 255 == 3 &&
        (runs (.rangingStep 255) u fun v => v.chState 255 == 2))) = true ∧
    (runs (.rangeRequest .pf0 255 3) (bias 7 0 0 0 0) fun t => t.fld (fSLU_CHc_CFG_RANGE 255) == 3 && t.chState 255 == 0) = true ∧
    (runs (.rangeRequest .pf0 255 3) (bias 7 2 0 0 0) fun t => t.chState 255 == 3 && (t.sluCh 255).newRange == 3) = true ∧
    (runs (.rangeRequest .pf0 255 3) (bias 7 2 0 1 0) fun t => t.chState 255 == 2 && t.fld (fSLU_CHc_STATUS_REASON 255) == 0xE0) = true := by
  decide +kernel

theorem test_bias_enable :
    let off := put (bias 7 0 0 0 0) [(fSLU_STATUS_ENABLED, 0)]
    off.sluCheck = [] ∧
    (runs (.sluEnable .pf0) { off with slu := [] } fun t => t.flag fSLU_STATUS_ENABLED && (t.sluCh 255).on && !(t.sluCh 254).on) = true ∧
    (runs (.sluEnable .pf0) (put (bias 8 0 0 0 0) [(fSLU_STATUS_ENABLED, 0)]) fun t => !t.flag fSLU_STATUS_ENABLED &&
      t.fld fSLU_STATUS_REASON == 2) = true ∧
    (runs (.sluDisable .pf0) (bias 7 2 9 9 0) fun t => !t.flag fSLU_STATUS_ENABLED && t.chState 255 == 4 && t.chOut 255 == 2 &&
      !(t.sluCh 255).on) = true ∧
    (runs (.sluChannelEnable .pf0 254 0x70000) (put (bias 7 0 0 0 0) [(fSLU_CHc_SLEW_STEP 254, 1), (fSLU_CHc_SLEW_RATE 254, 1)]) fun t =>
      (t.sluCh 254).on && t.fld fSLU_STATUS_ITEM == 254) = true ∧
    (runs (.sluChannelEnable .pf0 254 0) (put (bias 7 0 0 0 0) [(fSLU_CHc_SLEW_STEP 254, 1), (fSLU_CHc_SLEW_RATE 254, 1)]) fun t =>
      !(t.sluCh 254).on && t.fld fSLU_STATUS_REASON == 0xE1) = true ∧
    (runs (.sluChannelDisable .pf0 255 0) (bias 7 2 7 7 0) fun t => t.chState 255 == 0 && t.chOut 255 == 0 && !(t.sluCh 255).on) = true := by
  decide +kernel

theorem test_bias_faults :
    let s := put (bias 7 2 9 9 0) [(fSLU_CHc_CFG_RANGE 255, 2)]
    (runs (.channelFaultClear .pf0 255) (put (bias 7 5 0 0 0) [(fSLU_CHc_STATUS_FAULT 255, 1)]) fun t => t.chState 255 == 2 &&
      !t.flag (fSLU_CHc_STATUS_FAULT 255)) = true ∧
    (runs (.complianceFault 255) s fun t => t.faultLog == [0x0C02] && t.flag (fSLU_CHc_STATUS_COMPLIANCE 255) && t.chState 255 == 4 &&
      t.chOut 255 == 2 && t.chTarget 255 == 0 && t.fen.presented == [0x36F]) = true ∧
    (runs (.complianceFault 255) (put s [(fSLU_Gg_CFG_FAULT_SCOPE 15, 1), (fSLU_CHc_STATUS_STATE 254, 2)]) fun t =>
      t.fld (fSLU_CHc_TARGET_CODE 254) == 0 && t.chState 254 == 2) = true ∧
    (runs (.referenceFault 3) s fun t => !t.flag (fSLU_AGRPa_STATUS_REF_OK 3) && t.faultLog == [0x0C03] && t.chState 255 == 4 &&
      t.chState 254 == 0) = true := by decide +kernel

/-! ### Dipwell -/

/-- Dipwell at a slot count, with converter 1's work, the cross-check and channel 255 CONNECTED or not. -/
def monitor (slots : Nat) (v : DpwConv) (st : Nat) : State :=
  { put (bias 7 st minus2 minus2 0) [(fDPW_Cc_SCAN_e_INPUT 1 3, 319), (fDPW_Cc_SCAN_e_REP 1 3, 15), (fDPW_Cc_SCAN_CFG_NENT 1, 5),
      (fDPW_Cc_DLY_CFG_INPUT 1, 319), (fSLU_SUP_CFG_SUP_TOL, 4), (fSLU_SUP_CFG_SUP_CONSEC, 2), (⟨rDPW_ACC_i_COUNT 319, 31, 0⟩, 0xFFFFFFFE)] with
    dpw := { ({} : DpwState) with slots := slots, convs := [(1, v)] } }

theorem test_slot_items :
    (monitor 0 { ({} : DpwConv) with inj := some 319 } 0).slotItem 1 = .injected 319 ∧
    (monitor 0 { ({} : DpwConv) with dly := some 1, dlyDue := true } 0).slotItem 1 = .delayed 319 ∧
    (monitor 0 { ({} : DpwConv) with scan := some (3, 15) } 0).slotItem 1 = .scan 3 15 ∧
    (monitor 0 {} 0).dpwRuns = true ∧ (monitor 0 {} 0).slotItem 0 = .none ∧ (monitor 0 {} 0).slotItem 1 = .none ∧
    (runs (.conversionSlot 5 0xFFFF) (monitor 0 { ({} : DpwConv) with inj := some 319 } 0) fun t => (t.conv 1).inj == none &&
      t.regN (rDPW_ACC_i_COUNT 319) == 0xFFFFFFFF && t.accSum 319 == 0xFFFF && t.dpw.slots == 1) = true ∧
    (runs (.conversionSlot 5 0xFFFF) (monitor 0 { ({} : DpwConv) with dly := some 1, dlyDue := true } 0) fun t => (t.conv 1).dly == none &&
      t.fen.presented == [0x369]) = true ∧
    (runs (.conversionSlot 5 0xFFFF) (monitor 0 { ({} : DpwConv) with dly := some 2, dlyDue := true } 0) fun t => (t.conv 1).dly == some 1 &&
      t.fen.presented == []) = true ∧
    (runs (.conversionSlot 5 6) (monitor 0 { ({} : DpwConv) with scan := some (3, 15) } 0) fun t => (t.conv 1).scan == some (4, 0)) = true ∧
    (runs (.conversionSlot 5 6) (monitor 0 { ({} : DpwConv) with scan := some (3, 14) } 0) fun t => (t.conv 1).scan == some (3, 15)) = true ∧
    (runs (.conversionSlot 5 6) (monitor 0 {} 0) fun t => t == monitor 1 {} 0) = true := by decide +kernel

theorem test_supervision :
    let s (misses : Nat) : State := { monitor 0 { ({} : DpwConv) with credit := 1 } 2 with
      slu := [(255, { ({} : SluCh) with on := true, misses := misses })] }
    (s 0).slotItem 1 = .supervision 255 ∧ (s 0).slotItem 0 = .none ∧ (s 0).chOut 255 = -2 ∧
    (runs (.conversionSlot 0 0xFFFB) (s 1) fun t => (t.sluCh 255).misses == 0 && (t.conv 1).credit == 0) = true ∧
    (runs (.conversionSlot 0 0xFFF9) (s 0) fun t => (t.sluCh 255).misses == 1 && t.fld (fSLU_CHc_COUNT_MISMATCH 255) == 1 &&
      t.chState 255 == 2) = true ∧
    (runs (.conversionSlot 0 0xFFF9) (s 1) fun t => t.faultLog == [0x0C01] && t.chState 255 == 5 && t.chOut 255 == 0 &&
      t.fen.presented == [0x36F]) = true := by decide +kernel

theorem test_credit_and_cross_check :
    let s (tol : Nat) : State := put (monitor 0 {} 0) [(fDPW_XCHK_CFG_XCHK_TOL, tol), (fDPW_XCHK_REF_CODE, 0x4000)]
    (runs (.conversionSlot 0 0) (monitor 3 { ({} : DpwConv) with credit := 4 } 0) fun t => (t.conv 1).credit == 4 && (t.conv 0).credit == 1) = true ∧
    { s 2 with dpw := { (s 2).dpw with xchk := true } }.xchkFree = true ∧
    (runs (.conversionSlot 0x4001 0x3FFF) { s 2 with dpw := { (s 2).dpw with xchk := true } } fun t => !t.dpw.xchk &&
      !t.flag fDPW_STATUS_IMPLAUSIBLE && t.faultLog == []) = true ∧
    (runs (.conversionSlot 0x4001 0x3FFF) { s 1 with dpw := { (s 1).dpw with xchk := true } } fun t => t.flag fDPW_STATUS_IMPLAUSIBLE &&
      t.faultLog == [0x0D01] && t.fld (fDPW_Cc_COUNT_XCHK_FAIL 1) == 1) = true := by decide +kernel

theorem test_dipwell_triggers :
    let s (v : DpwConv) : State := put (monitor 0 v 0) [(fDPW_Cc_SCAN_CFG_TRIG 1, 1), (fDPW_Cc_DLY_CFG_TRIG 1, 1), (fDPW_Cc_DLY_CFG_COUNT 1, 15)]
    (runs (.scanTrigger 1) (s {}) fun t => (t.conv 1).scan == some (0, 0)) = true ∧
    (runs (.scanTrigger 1) (s { ({} : DpwConv) with scan := some (1, 0) }) fun t => t.faultLog == [0x0D02] && t.fld (fDPW_Cc_COUNT_OVERRUN 1) == 1) = true ∧
    (runs (.dpwConv 1) (s {}) fun t => (t.conv 1).dly == some 16) = true ∧
    (runs (.dpwConv 1) (s { ({} : DpwConv) with cal := true }) fun t => t.fld (fDPW_Cc_COUNT_DLY_DROP 1) == 1 && (t.conv 1).dly == none) = true ∧
    (runs (.delayedConversionStart 1) (s { ({} : DpwConv) with dly := some 1 }) fun t => (t.conv 1).dlyDue) = true ∧
    (runs (.injectedConversion .pf0 1 319) (s {}) fun t => (t.conv 1).inj == some 319 && t.flag (fDPW_Cc_INJ_PENDING 1)) = true ∧
    (runs (.injectedConversion .pf0 1 320) (s {}) fun t => (t.conv 1).inj == none && t.fld (fDPW_Cc_COUNT_INJ_DROP 1) == 1) = true ∧
    (runs (.dpwCalStart .pf0 1) (s {}) fun t => (t.conv 1).cal && (runs (.dpwCalDone 1) t fun u => !(u.conv 1).cal && u.flag (fDPW_Cc_CAL_DONE 1))) = true ∧
    (runs (.dpwCalStart .pf0 0) (s { ({} : DpwConv) with cal := true }) fun t => t.flag (fDPW_Cc_CAL_REFUSED 0) && !(t.conv 0).cal) = true ∧
    (runs .xchkDue (s {}) fun t => t.dpw.xchk) = true := by decide +kernel

theorem test_dipwell_unit_and_reads :
    let off := put (monitor 0 {} 0) [(fDPW_STATUS_ENABLED, 0), (fDPW_XCHK_CFG_XCHK_INT, 1), (fDPW_XCHK_CFG_XCHK_TOL, 1), (fDPW_Cc_SCAN_PER_PER 0, 1),
      (fDPW_Cc_SCAN_PER_PER 1, 1000000)]
    let s := put (monitor 0 {} 0) [(⟨rDPW_ACC_i_SUM_L 319, 31, 0⟩, 9), (fDPW_ACC_i_CFG_CLR_ON_READ 319, 1)]
    off.dpwCheck = [] ∧ (runs (.dpwEnable .pf0) off fun t => t.flag fDPW_STATUS_ENABLED && !t.flag fDPW_STATUS_REFUSED) = true ∧
    (runs (.dpwEnable .pf0) (put off [(fPM_STATUS_MODE, 8)]) fun t => !t.flag fDPW_STATUS_ENABLED && t.fld fDPW_STATUS_REASON == 2) = true ∧
    (runs (.dpwClrCount .pf0) (put s [(fDPW_Cc_COUNT_INJ_DROP 1, 3)]) fun t => t.reg (rDPW_Cc_COUNT 1) == 0) = true ∧
    (runs (.dpwAccClr .pf0 319) s fun t => t.reg (rDPW_ACC_i_SUM_L 319) == 0 && t.reg (rDPW_ACC_i_COUNT 319) == 0) = true ∧
    s.snapCovers .pf0 (rDPW_ACC_i_SUM_L 319) = false ∧
    (runs (.accSumRead .pf0 319) s fun t => t.out == [.readData .pf0 (rDPW_ACC_i_SUM_L 319) 9] && t.reg (rDPW_ACC_i_COUNT 319) == 0 &&
      (t.busRead .pf0 (rDPW_ACC_i_COUNT 319)).2 == 0xFFFFFFFE) = true := by decide +kernel

/-! ### Boot and the control stores -/

/-- A number as n bytes, least significant first. -/
def le (n v : Nat) : List Byte := (List.range n).map (fun i => BitVec.ofNat 8 (v / 256 ^ i))

/-- A plaintext of three sections (R389): a control store of Dipwell, a SEC patch of SVN 3, and PROVISION of slot 2 with the
revocation of slots 0 and 1. -/
def plain3 : List Byte :=
  le 4 0x5EC07AB1 ++ le 4 3 ++ le 8 0 ++
    (le 1 1 ++ le 1 10 ++ le 2 0 ++ le 4 7 ++ le 4 64 ++ le 4 16) ++
    (le 1 2 ++ le 1 0 ++ le 2 3 ++ le 4 9 ++ le 4 80 ++ le 4 4) ++
    (le 1 5 ++ le 1 0 ++ le 2 0 ++ le 4 0 ++ le 4 84 ++ le 4 52) ++
    le 16 0xABCD ++ le 4 0x11223344 ++ (le 1 2 ++ le 1 3 ++ le 2 0 ++ le 48 255)

/-- An image with a header of the given magic number and SVN, of slot 0, with ARB_COMMIT. -/
def image (magic svn : Nat) : BootImage := {
  delivered := true
  header := le 4 magic ++ le 2 1 ++ le 2 1 ++ le 4 256 ++ le 1 svn ++ le 1 0 ++ le 242 0
  digest := 1
  sigOk := true
  tagOk := true
  plain := plain3 }

/-- BOOT at a stage, with a key in slot 0. -/
def booting (st : Nat) : State :=
  let s := put (inMode 3) [(fPM_PD_STATUS_ON, 0x3E0F), (fSEC_STATUS_STAGE, st), (fSEC_KEY_STATUS_PROGRAMMED, 1), (fSEC_PUSH_LEN_LEN, 256)]
  { s with sec := { s.sec with hashes := [(0, 1)] } }

theorem test_image_accepted :
    (booting 1).mode = modeBoot ∧ (booting 1).imageFault (image 0x5EC0B007 5) = none ∧ (booting 1).pdWanted modeLoad ≠ [] ∧
    (runs (.imageCheck (image 0x5EC0B007 5)) (booting 1) fun t => t.stage == stLoad && t.pm.target == some modeLoad &&
      t.pm.todo.head? == some 7 && t.fld fSEC_IMAGE_SVN == 5 && t.fld fSEC_CS_VERSION_PATCH_SVN == 3 &&
      t.sec.secPatch == le 4 0x11223344 && t.sec.arb == some (5, 3, 0)) = true ∧
    (runs (.imageCheck (image 0x5EC0B007 5)) (booting 4) fun t => t.fld fSEC_IMAGE_SRC == 2) = true := by decide +kernel

theorem test_image_rejected :
    let i := image 0x5EC0B007 5
    (booting 1).imageFault { i with delivered := false } = some 0xF7 ∧ (booting 1).imageFault (image 0x5EC0B006 5) = some 0xF0 ∧
    (booting 1).imageFault (image 0x5EC0B007 65) = some 0xF1 ∧ (booting 1).imageFault { i with digest := 2 } = some 0xF2 ∧
    (booting 1).imageFault { i with sigOk := false } = some 0xF3 ∧ (booting 1).imageFault { i with tagOk := false } = some 0xF4 ∧
    (put (booting 1) [(fSEC_OTP_ARBk_COUNT 0, 6)]).imageFault i = some 0xF5 ∧
    (put (booting 1) [(fSEC_OTP_ARBk_COUNT 1, 4)]).imageFault i = some 0xF5 ∧
    (booting 1).imageFault { i with plain := plain3.take 135 } = some 0xF6 ∧
    (runs (.imageCheck { i with sigOk := false }) (booting 1) fun t => t.stage == stFallback && t.fld fSEC_STATUS_REASON == 0xF3 &&
      t.faultLog == [0x0E01]) = true ∧
    (runs (.imageCheck { i with sigOk := false }) (put (booting 2) [(fSEC_LIFECYCLE_BOOT_SRC, 1)]) fun t => t.stage == stFailed) = true ∧
    (runs (.imageCheck { i with sigOk := false }) (booting 2) fun t => t.stage == stWaitPush && t.sec.linkOn) = true ∧
    (runs (.imageCheck { i with sigOk := false }) (booting 4) fun t => t.stage == stWaitPush) = true := by decide +kernel

/-- The device in a mode, with no RUN, no descriptor and no session. -/
theorem test_calm : (inMode 5).calm ∧ ready.calm ∧ ready.safeReady :=
  have h : ready.calm := ⟨rfl, fun _ _ => rfl, by decide +kernel⟩
  ⟨⟨rfl, fun _ _ => rfl, by decide +kernel⟩, h, h, by decide +kernel, by decide +kernel⟩

theorem test_push_and_reboot :
    (booting 3).mayWrite .pf0 rSEC_CTRL = true ∧
    (runs (.push .pf0) (booting 3) fun t => t.stage == stPush) = true ∧ (runs (.push .pf0) (booting 1) fun t => t == booting 1) = true ∧
    (runs (.reboot .pf0) (inMode 8) fun t => t.fld fSEC_STATUS_REASON == 2 && t.mode == 8) = true ∧
    (runs (.reboot .pf0) (put (inMode 5) [(fSEC_CSu_STATUS_LOADED 10, 1)]) fun t => t.mode == 3 && t.stage == stPrimary &&
      !t.flag (fSEC_CSu_STATUS_LOADED 10)) = true := by decide +kernel

/-- LOAD with the image of three sections. -/
def loading : State :=
  let s := put (inMode 4) [(fSEC_STATUS_STAGE, 5), (fSEC_KEY_STATUS_PROGRAMMED, 1)]
  { s with sec := { s.sec with retained := plain3, arb := some (5, 3, 0) } }

theorem test_load_complete :
    loading.mode = modeLoad ∧ loading.flag fPM_STATUS_TRANSITION = false ∧ loading.stage = stLoad ∧ loading.pdWanted modeConfig = [] ∧
    loading.anyCause = false ∧ loading.csPresent 10 = true ∧ loading.csPowered 10 = true ∧
    (runs .loadComplete loading fun t => t.mode == 5 && t.stage == stDone && t.flag (fSEC_CSu_STATUS_LOADED 10) &&
      t.regN (rSEC_CSu_VERSION 10) == 7 && !t.flag (fSEC_CSu_STATUS_LOADED 0) && t.fld (fSEC_OTP_ARBk_COUNT 0) == 5 &&
      t.fld (fSEC_OTP_ARBk_COUNT 1) == 3 && t.fld fSEC_KEY_STATUS_REVOKED == 2 && t.fld fSEC_KEY_STATUS_PROGRAMMED == 5 &&
      t.flag fSEC_OTP_STATUS_IGNORED) = true := by decide +kernel

theorem test_repair :
    let s := { put loading [(fPM_STATUS_MODE, 5), (fSEC_CSu_STATUS_LOADED 10, 1)] with tm := {} }
    let r := put s [(fSEC_CSu_STATUS_RELOADING 10, 1), (fSEC_CSu_STATUS_HALTED 10, 1), (fDPW_STATUS_ENABLED, 1)]
    s.csRuns 10 = true ∧ s.csRuns 9 = false ∧
    (runs (.reload .pf0 10) s fun t => t.flag (fSEC_CSu_STATUS_RELOADING 10)) = true ∧
    (runs (.reload .pf0 10) (put s [(fSEC_CSu_STATUS_RETAINED_BAD 10, 1)]) fun t => t.fld fSEC_STATUS_REASON == 0x0A) = true ∧
    (runs (.reload .pf0 10) r fun t => t == r) = true ∧
    (runs (.reloadDone 10) r fun t => !t.flag (fSEC_CSu_STATUS_RELOADING 10) && !t.flag (fSEC_CSu_STATUS_HALTED 10) &&
      t.regN (rSEC_CSu_VERSION 10) == 7 && !t.flag fDPW_STATUS_ENABLED) = true ∧
    (runs (.reloadDone 10) s fun t => t == s) = true ∧
    (runs (.csSingleBitError 10) s fun t => t.fld (fSEC_CSu_COUNT_SBE 10) == 1 && t.faultLog == [0x0E02]) = true ∧
    (runs (.csDoubleBitError 10) s fun t => t.flag (fSEC_CSu_STATUS_HALTED 10) && t.fld (fSEC_CSu_COUNT_DBE 10) == 1) = true ∧
    (runs (.csDoubleBitError 10) (put s [(fSEC_CTRL_AUTO_RELOAD, 1)]) fun t => t.flag (fSEC_CSu_STATUS_RELOADING 10)) = true ∧
    (runs (.csDoubleBitError 9) s fun t => t == s) = true ∧
    (runs (.retainedStoreError 10) s fun t => t.flag (fSEC_CSu_STATUS_RETAINED_BAD 10) && t.faultLog == [0x0E04]) = true ∧
    (runs (.scrub [⟨10, 5, false⟩]) s fun t => t.sec.scrubbed == [(10, 5)] && !t.flag (fSEC_CSu_STATUS_STUCK 10) &&
      (runs (.scrub [⟨10, 5, false⟩]) t fun u => u.flag (fSEC_CSu_STATUS_STUCK 10))) = true ∧
    (runs (.scrub []) { s with sec := { s.sec with scrubbed := [(10, 5)] } } fun t => t == s) = true ∧
    (runs (.patchRamError true) s fun t => t == { s with faultLog := [0x0E05] }) = true ∧
    (runs (.patchRamError true) (put ready [(fPM_CS_VERSION_PATCH_ID, 4)]) fun t => t.fld fPM_CS_VERSION_PATCH_ID == 0) = true := by
  decide +kernel

/-! ### Modes, power and resets -/

theorem test_mode_requests :
    let c := inMode 5
    c.mayWrite .pf0 rPM_CTRL = true ∧ (put c [(fPM_STATUS_TRANSITION, 1)]).requestRefusal 7 = some 0xFE ∧
    { c with runs := [{ ({} : Run) with active := true }] }.requestRefusal 7 = some 0xFC ∧
    c.requestRefusal 8 = some 0xF8 ∧ c.requestRefusal 6 = some 0x03 ∧ c.requestRefusal 7 = some 0xF9 ∧ c.requestRefusal 1 = some 0xFA ∧
    (put (inMode 10) [(fPM_SAFE_CAUSE_THERMAL, 1)]).requestRefusal 5 = some 0xFB ∧ c.requestRefusal 11 = none ∧ ready.requestRefusal 5 = none ∧ ready.requestRefusal 10 = none ∧
    (runs (.modeRequest .pf0 8) c fun t => t.mode == 5 && t.fld fPM_STATUS_REASON == 0xF8) = true ∧
    (runs (.modeRequest .pf0 5) ready fun t => t.mode == 5 && t.fld fPM_STATUS_PREV_MODE == 7 && t.fen.presented.contains 0x390) = true := by
  decide +kernel

theorem test_sleep_request :
    let s := putReg (put ready [(fSLU_CHc_STATUS_STATE 255, 2), (fSLU_CHc_OUT_CODE 255, 9), (fSLU_CHc_CFG_FAULT_STEP 255, 7)]) [(rPM_WAKE_EN, 1)]
    s.requestRefusal 1 = none ∧ s.pm.tie = none ∧
    (runs (.modeRequest .pf0 2) s fun t => t.mode == 7 && t.pm.target == some 2 && t.pm.entering && !t.pdOn 8 && t.pdOn 9 &&
      t.chState 255 == chConnected) = true := by decide +kernel

theorem test_power_domains :
    let b := { put (inMode 3) [(fPM_PD_STATUS_ON, 0x3E0F)] with pm := { target := some 4, todo := [7, 4] } }
    (runs .calibrationComplete (inMode 6) fun t => t.mode == 7 && t.poolCalibrated 15) = true ∧
    (runs .calibrationComplete ready fun t => t == ready) = true ∧
    (runs (.powerGood 7) b fun t => t.pdOn 7 && t.pm.todo == [4]) = true ∧ (runs (.powerGood 4) b fun t => t == b) = true ∧
    (runs (.powerGoodTimeout 7) b fun t => t.pdFailed 7 && !t.pdOn 7 && t.pm.todo == [4] && t.faultLog == [0x0F04]) = true ∧
    (runs (.powerGood 4) { b with pm := { target := some 4, todo := [4] } } fun t => t.mode == 4 && t.stage == stLoad &&
      t.sec.linkOn) = true ∧
    (runs (.keepOffWrite .pf0 0x100) (inMode 8) fun t => t.fld fPM_STATUS_REASON == 0xFD && !t.heldOff 8) = true ∧
    (runs (.keepOffWrite .pf0 0x100) (inMode 5) fun t => t.heldOff 8 && !t.pdOn 8 && !t.locked 7 && t.pdOn 29) = true ∧
    (runs (.keepOffWrite .pf0 0) (put (inMode 5) [(fPM_PD_STATUS_ON, 0x1FFFFFFF), (fPM_PD_KEEP_OFF_KEEP_OFF, 0x20000000)]) fun t =>
      !t.heldOff 29 && t.pm.todo == [29]) = true := by decide +kernel

/-- Asleep in a mode, with the wake sources enabled. -/
def asleep (m : Nat) : State := putReg (put (inMode m) [(fPM_PD_STATUS_ON, if m = 1 then 1 else 0x3E03)]) [(rPM_WAKE_EN, 7)]

theorem test_wake :
    let s := asleep 1
    let e := { s with pm := { s.pm with entering := true } }
    s.wakeEnabled 0 = true ∧ ready.wakeEnabled 0 = false ∧ ({ s with pm := { s.pm with retry := true } }).pdWanted modeBoot ≠ [] ∧
    ({ asleep 2 with pm := { retry := true } }).pdWanted modeLoad ≠ [] ∧
    (runs (.wake 1 false) s fun t => t.flag fPM_STATUS_TRANSITION && t.pm.target == some 3 && t.pm.todo.head? == some 1) = true ∧
    (runs (.wake 1 false) (asleep 2) fun t => t.pm.target == some 4 && t.pm.todo.head? == some 2) = true ∧
    (runs (.wake 2 false) e fun t => t.pm.woken && bitOf (t.regN rPM_WAKE_CAUSE) 2) = true ∧
    (runs (.wake 2 true) (putReg ready [(rPM_WAKE_EN, 7)]) fun t => t.pm.tie == some 2) = true ∧
    (runs .pmWake s fun t => t.pm.target == some 3) = true ∧ (runs .wakeNEdge e fun t => t.pm.woken && t.fen.presented == [0x330]) = true ∧
    (runs .perstNRelease { s with sec := { s.sec with perst := true } } fun t => t.pm.target == some 3 && !t.sec.perst) = true ∧
    (runs (.pcieLinkUp 5 8) { ready with sec := { ready.sec with linkOn := true } } fun t => t.flag fBW_PCIE_LINK_UP &&
      t.fld fBW_PCIE_WIDTH == 8) = true ∧
    (runs (.pcieLinkUp 5 8) ready fun t => t == ready) = true := by decide +kernel

theorem test_resets :
    let s := { put ready [(fSLU_CHc_STATUS_STATE 255, 2)] with tm := { ready.tm with ft := 5 }, peat := [(0, 7)] }
    s.mayWrite .pf0 rPM_RESET = true ∧ Path.secure .pf0 = true ∧ Path.secure (.vf 0) = false ∧ s.pdWanted modeLoad = [] ∧
    (runs (.powerOnReset 9) s fun t => t.mode == 3 && t.fld fCW_NODE_STRAP == 9 && t.peat == [] && t.chState 255 == 0 &&
      t.reg rPM_RESET_CAUSE == 1 && t.fld fPM_CLK_STATUS_LOCKED == 0x119) = true ∧
    (runs .brownOut s fun t => t.mode == 0 && t.fld fPM_PD_STATUS_ON == 0) = true ∧
    (runs (.coldReset .pf0 0xA55B) s fun t => t == s) = true ∧ s.mayWrite .causeway rPM_RESET = true ∧
    (runs (.warmReset .causeway 0xA55A) s fun t => t == s) = true := by
  decide +kernel

theorem test_unit_resets :
    let s := put ready [(fDRV_CTRL_ENABLE 15, 1), (fDN_SLOT_s_SEQ 511, 9), (⟨rSEG_e 15 4095, 31, 0⟩, 5), (fCW_Pp_STATUS_STATE 7, 5)]
    s.mayWrite .pf0 rPM_UNIT_RESET = true ∧ s.poolPowered 15 = true ∧ s.poolInRun 15 = false ∧ s.sedgePowered = true ∧
    s.fld fSDG_STATUS_STATE = 0 ∧ s.pdOn 4 = true ∧
    (runs (.poolReset .pf0 15) (inMode 8) fun t => t.fld fPM_STATUS_REASON == 2) = true ∧
    (runs (.sedgeReset .pf0) (inMode 8) fun t => t.fld fPM_STATUS_REASON == 2) = true ∧
    (runs (.poolReset .pf0 15) { s with peat := [(2 ^ 22 * 15, 7)] } fun t => !t.flag (fDRV_CTRL_ENABLE 15) &&
      t.regN (rSEG_e 15 4095) == 5 && t.peat == [(2 ^ 22 * 15, 7)] && t.fld (fDN_SLOT_s_SEQ 511) == 0 && t.rcState 63 == 0) = true ∧
    (runs (.sedgeReset .pf0) (put s [(fSDG_FRAME_q_X 511, 1)]) fun t => t.sdg == {} && t.fld (fSDG_FRAME_q_X 511) == 1) = true ∧
    (runs (.causewayReset .pf0) (put s [(⟨rCW_Pp_COUNT_A 7, 7, 0⟩, 5)]) fun t => t.regN (rCW_Pp_COUNT_A 7) == 0 &&
      t.cwState 7 == cwDetect && t.cwState 6 == cwDisabled) = true := by decide +kernel

/-! ### Causes of SAFE, clocks, timers and pins -/

theorem test_interlocks :
    let s := put ready [(fPM_ILK_CFG_EN, 0x80)]
    let low := { s with pm := { s.pm with ilkLow := 0x80 } }
    (runs .pmSafe ready fun t => t.mode == 10 && t.flag fPM_SAFE_CAUSE_FEN_ILK && t.fld fPM_SAFE_CAUSE_FIRST == 0x0F01) = true ∧
    (runs (.ilkEdge 7 true) s fun t => t.mode == 10 && t.flag fPM_SAFE_CAUSE_INTERLOCK && t.fld fPM_ILK_STATUS_LATCHED == 0x80 &&
      t.fen.presented.contains 0x33F) = true ∧
    (runs (.ilkEdge 0 true) s fun t => t.mode == 7 && t.fen.presented == [0x338] && t.pm.ilkLow == 1) = true ∧
    (runs (.ilkEdge 7 false) low fun t => t.pm.ilkLow == 0) = true ∧
    (runs (.ilkConfigWrite .pf0 0x8080) low fun t => t.mode == 10) = true ∧
    (runs (.ilkConfigWrite .pf0 0x80) low fun t => t.mode == 7 && t.fld fPM_ILK_CFG_EN == 0x80) = true ∧
    (runs (.safeCauseClear .pf0 0x3F) (putReg (put low [(fPM_ILK_CFG_LEVEL, 0x80), (fTM_STATUS_REF_LOCK, 1)]) [(rPM_SAFE_CAUSE, 0x3F)]) fun t =>
      t.regN rPM_SAFE_CAUSE % 64 == 2) = true := by decide +kernel

theorem test_gpio :
    let s := put ready [(fPM_GPIOk_FUNC 7, 1)]
    (runs (.gpioEdge 0) s fun t => t.fen.presented == [0x328]) = true ∧ (runs (.gpioEdge 7) s fun t => t == s) = true ∧
    (runs (.gpioPulse 7) s fun t => t.pm.gpioHigh == 0x80) = true ∧ (runs (.gpioPulse 0) s fun t => t.pm.gpioHigh == 0) = true ∧
    (runs (.gpioPulseEnd 7) { s with pm := { gpioHigh := 0x81 } } fun t => t.pm.gpioHigh == 1) = true := by decide +kernel

theorem test_clocks :
    let s := put ready [(fTM_STATUS_REF_LOCK, 1), (fTM_STATUS_STATE, 3), (fDN_SLOT_s_VALID 511, 1), (fCW_Pp_STATUS_STATE 7, 5)]
    s.flag fTM_STATUS_REF_LOCK = true ∧ s.locked 24 = true ∧ s.clockPowered 24 = true ∧
    (runs .refLost s fun t => t.mode == 10 && t.flag fPM_SAFE_CAUSE_REFERENCE && t.tmState == tmIdle && !t.locked 1) = true ∧
    (runs .refLost ready fun t => t == ready) = true ∧
    (runs .refRelock ready fun t => t.flag fTM_STATUS_REF_LOCK && t.locked 2 && t.mode == 7) = true ∧
    (runs (.clockLockLoss 24) s fun t => t.mode == 10 && !t.flag (fDN_SLOT_s_VALID 511) && t.flag fPM_SAFE_CAUSE_CLOCK) = true ∧
    (runs (.clockLockLoss 7) s fun t => t.mode == 7 && !t.locked 7 && t.faultLog == [0x0F03]) = true ∧
    (runs (.clockLockLoss 5) s fun t => t.mode == 7 && !t.locked 5 && t.cwState 7 == cwRetrain) = true ∧
    (runs (.clockLockLoss 0) s fun t => t == s) = true ∧
    (runs (.clockRelock 24) (put s [(fPM_CLK_STATUS_LOCKED, 0)]) fun t => t.locked 24) = true ∧
    (runs (.clockRelock 24) (put s [(fPM_PD_STATUS_ON, 1)]) fun t => t == put s [(fPM_PD_STATUS_ON, 1)]) = true := by decide +kernel

theorem test_temperature :
    let s := put ready [(fPM_THERM_CFG_WARN, 95), (fPM_THERM_CFG_CRIT, 105), (fPM_THERM_CFG_HYST, 5)]
    let w := put s [(fPM_THERM_STATUS_THERMAL_WARN, 1)]
    (runs (.thermalSample 380) s fun t => t.flag fPM_THERM_STATUS_THERMAL_WARN && t.tmax == 380 && t.mode == 7) = true ∧
    (runs (.thermalSample 379) s fun t => !t.flag fPM_THERM_STATUS_THERMAL_WARN && t.tmax == 379) = true ∧
    (runs (.thermalSample 359) w fun t => !t.flag fPM_THERM_STATUS_THERMAL_WARN && t.fen.presented == [0x391]) = true ∧
    (runs (.thermalSample (-4)) s fun t => t.tmax == -4) = true ∧
    (runs (.thermalSample 420) s fun t => t.mode == 10 && t.flag fPM_SAFE_CAUSE_THERMAL) = true ∧
    (runs (.thermalSample 400) { s with pm := { cooling := true } } fun t => t.pm.cooling) = true ∧
    (runs (.thermalSample 399) { s with pm := { cooling := true } } fun t => !t.pm.cooling && t.mode == 3) = true := by decide +kernel

theorem test_general_timers :
    let s := putReg (put ready [(fSLU_STATUS_ENABLED, 1), (fDPW_STATUS_ENABLED, 1)]) [(rPM_GTg_PERIOD 7, 100)]
    let on := put { s with pm := { gtOn := 0x80 } } [(fPM_GTg_CTRL_PERIODIC 7, 1), (fPM_GTg_CTRL_EN 7, 1)]
    s.mayWrite .pf0 (rPM_GTg_CTRL 7) = true ∧ on.gtOn 7 = true ∧ on.locked 8 = true ∧ on.sluClaims 7 = false ∧ on.dpwClaims 0 7 = false ∧
    (runs (.gtimerEnable .pf0 7 2) s fun t => t.gtOn 7 && t.flag (fPM_GTg_CTRL_PERIODIC 7)) = true ∧
    (runs (.gtimerEnable .pf0 6 2) (putReg s [(rPM_GTg_PERIOD 6, 0)]) fun t => !t.gtOn 6 && t.fld (fPM_GTg_CTRL_REASON 6) == 7) = true ∧
    (runs (.gtimerEnable .pf0 7 0) on fun t => t.gtOn 7 && t.flag (fPM_GTg_CTRL_PERIODIC 7)) = true ∧
    (runs (.gtimerExpiry 7) on fun t => t.fen.presented == [0x367] && t.gtOn 7) = true ∧
    (runs (.gtimerExpiry 7) (put on [(fPM_GTg_CTRL_PERIODIC 7, 0)]) fun t => !t.gtOn 7) = true ∧
    (runs (.gtimerExpiry 7) (put { on with slu := [(240, { ({} : SluCh) with on := true })] } [(fSLU_Gg_CFG_SRC_TIMER 15, 1),
      (fSLU_Gg_CFG_TIMER 15, 7)]) fun t => t.fld (fSLU_Gg_COUNT_LOADS 15) == 1 && t.fen.presented.contains 0x367) = true := by decide +kernel

/-! ### Register accesses, the management SPI and JTAG -/

theorem test_register_accesses :
    let s := putReg ready [(rGLB_XING_OVF, 0xF)]
    s.mayWrite .pf0 (rSLU_CHc_CODE 255) = true ∧ s.mayWrite .pf0 rTM_COUNT = true ∧ s.reachable 0 = true ∧
    (put s [(fPM_PD_STATUS_ON, 1)]).reachable 0x2500000 = false ∧ (s.partitionMay 3 (rSLU_CHc_CODE 255) = false ∧ s.reachable (rSLU_CHc_CODE 255) = true) ∧
    (runs (.registerWrite .pf0 (BitVec.ofNat 26 (rSLU_CHc_CODE 255)) 0xFFFFFFFF) s fun t => t.regN (rSLU_CHc_CODE 255) == 0x3FFFF) = true ∧
    (runs (.registerWrite .pf0 (BitVec.ofNat 26 rDPW_AUX_CFG) 9) s fun t => t.fld fDPW_AUX_CFG_DIFF == 9) = true ∧
    (runs (.registerWrite .pf0 (BitVec.ofNat 26 rGLB_XING_OVF) 6) s fun t => t.regN rGLB_XING_OVF == 9) = true ∧
    (runs (.registerWrite .pf0 (BitVec.ofNat 26 rTM_COUNT) 6) s fun t => t == s) = true ∧
    (runs (.registerWrite .pf0 0x2500000 1) (put s [(fPM_PD_STATUS_ON, 1)]) fun t => t == put s [(fPM_PD_STATUS_ON, 1)]) = true ∧
    (runs (.registerWrite (.vf 3) (BitVec.ofNat 26 (rSLU_CHc_CODE 255)) 1) s fun t => t.fld fBW_SEC_LOG_FUNC == 4 &&
      t.fld fBW_SEC_LOG_COUNT == 1 && t.reg (rSLU_CHc_CODE 255) == 0) = true ∧
    (runs (.registerWrite .pf0 0x6 1) s fun t => t.fld fGLB_ACCESS_ERR_COUNT == 1 && t.fld fGLB_ACCESS_ADDR_OFFSET == 6) = true ∧
    (runs (.badAccess .pf0 0x6 false) s fun t => t.out == [.readData .pf0 6 0] && t.fld fGLB_ACCESS_ERR_COUNT == 1) = true := by
  decide +kernel

theorem test_latching_read :
    let s := put (atTick ready (2 ^ 40 + 3)) [(fTM_STATUS_STATE, 3)]
    s.reachable rTM_NOW_L = true ∧ s.snapCovers .pf0 rTM_NOW_L = false ∧ s.tmState ≠ tmIdle ∧ s.latched .pf0 (rTM_NOW_L + 1) = 0 ∧
    (runs (.latchingRead .pf0 (BitVec.ofNat 26 rTM_NOW_L)) s fun t => t.out == [.readData .pf0 rTM_NOW_L 0x30000] &&
      (t.busRead .pf0 rTM_NOW_M).2 == 0x1000000 && (t.busRead .pf0 rTM_NOW_H).2 == 0) = true := by decide +kernel

theorem test_debug_window :
    let s := ready
    windowFits 4 4 = true ∧ windowFits 0 2 = false ∧ s.windowLive .pf0 = true ∧ s.windowMay .pf0 = true ∧ s.windowMay (.vf 3) = false ∧
    (runs (.debugWindowAccess .pf0 0x3FFFFC (.write [1, 2, 3, 4])) s fun t => t.peat == [(0x3FFFFC, 1), (0x3FFFFD, 2), (0x3FFFFE, 3), (0x3FFFFF, 4)]) = true ∧
    (runs (.debugWindowAccess .pf0 0x3FFFFC (.read 4)) { s with peat := [(0x3FFFFE, 3)] } fun t => t.out == [.windowData .pf0 0x3FFFFC [0, 0, 3, 0]]) = true ∧
    (runs (.debugWindowAccess .pf0 0x4E0000 (.write [9, 0, 0, 0])) s fun t => t.dmem == [(0x30000, 9)]) = true ∧
    (runs (.debugWindowAccess .pf0 0x4E0000 (.read 4)) s fun t => t.out == [.windowData .pf0 0x4E0000 [0, 0, 0, 0]]) = true ∧
    (runs (.debugWindowAccess .pf0 0x4C0000 (.write [9, 9, 9, 9, 9, 9, 9, 9])) (put s [(fRC_i_STATUS_STATE 0 3, 2)]) fun t => t.imem == []) = true ∧
    (runs (.debugWindowAccess .pf0 0 (.write [1, 2, 3])) s fun t => t.fld fGLB_ACCESS_ERR_COUNT == 1 && t.peat == []) = true ∧
    (runs (.debugWindowAccess (.vf 3) 0 (.write [1, 2, 3, 4])) s fun t => t.fld fBW_SEC_LOG_COUNT == 1 && t.peat == []) = true := by decide +kernel

theorem test_snapshot :
    let s := { put (atTick ready 3) [(fTM_STATUS_STATE, 3), (⟨rTM_COUNT, 15, 0⟩, 77)] with snaps := [(0, { ({} : Snap) with mask := 2 ^ 16, busy := true })] }
    s.mayWrite .pf0 rGLB_SNAP_REQ = true ∧ (s.snap .pf0).busy = true ∧
    (runs (.snapReq .pf0 5) (atTick ready 3) fun t => (t.snap .pf0).busy && (t.snap .pf0).mask == 5 && (t.snap .pf0).tick == 528) = true ∧
    (runs (.snapReq .pf0 5) s fun t => (t.snap .pf0).ignored && (t.snap .pf0).mask == 2 ^ 16) = true ∧
    (runs (.snapRelease .pf0) s fun t => !(t.snap .pf0).done) = true ∧ (runs (.snapCapture .pf0) ready fun t => t == ready) = true ∧
    (runs (.snapCapture .pf0) s fun t => (t.snap .pf0).done && !(t.snap .pf0).busy &&
      (put t [(⟨rTM_COUNT, 15, 0⟩, 78)]).snapView .pf0 rTM_COUNT == 77) = true := by decide +kernel

theorem test_param :
    (desc7 (descBits 5 0 [(8, 1, 1), (16, 8, 2 ^ 40 + 7)]) .fetched).opc = 5 ∧
    ends (.param 3 7) (host7 (descBits 5 0 [(8, 1, 1), (16, 8, 2 ^ 40 + 7)])) 0 0 0 1 = true ∧
    (runs (.param 3 7) (host7 (descBits 5 0 [(8, 1, 1), (16, 8, 2 ^ 40 + 7)])) fun t => t.regN rTM_EPOCH_L == 7 && t.regN (rTM_EPOCH_L + 4) == 256) = true ∧
    ends (.param 3 7) (host7 (descBits 5 0 [])) 0 0 0 0 = true ∧
    (runs (.param 3 7) (host7 (descBits 5 0 [(9, 1, 1), (16, 4, rDRV_CTRL 15 + 0x10), (20, 4, 3)])) fun t => (t.sq 3 7).cur == none) = true := by
  decide +kernel

theorem test_core_step :
    let s := put base63 [(fRC_i_CTRL_DBG_HALT 15 3, 1)]
    let nop := { s with imem := (List.range 8).map (fun i => (131072 * 63 + 160 + i, 0)) }
    s.mayWrite .pf0 (rRC_i_CTRL 15 3) = true ∧ s.mode = modeDiag ∧ s.coreReady 63 = true ∧ s.flat 63 = true ∧ (s.core 63).half = false ∧
    decodeBundle 63 (nop.bundleAt 63 (nop.pc 63)) = some [.nop 63, .tnop 63 false] ∧ decodeBundle 63 (s.bundleAt 63 (s.pc 63)) = none ∧
    (runs (.coreStep .pf0 63) nop fun t => t.pc 63 == 21) = true ∧
    (runs (.coreStep .pf0 63) s fun t => t.rcState 63 == rcFaulted && t.faultLog == [0x0502]) = true ∧
    (runs (.coreStep .pf0 63) base63 fun t => t == base63) = true := by decide +kernel

theorem test_management_spi :
    let s := ready
    s.spiServed = true ∧ (put s [(fPM_PD_STATUS_ON, 1)]).spiServed = false ∧
    (runs (.spiWrite 2 (BitVec.ofNat 32 rDPW_AUX_CFG) [0, 0, 0, 9] false) s fun t => t.fld fDPW_AUX_CFG_DIFF == 9 && t.spi.writing) = true ∧
    (runs (.spiWrite 7 0 [] false) s fun t => t.spi.err) = true ∧
    (runs (.spiRead (BitVec.ofNat 32 rDPW_AUX_CFG) 1 false) s fun t => t.out == [.readData .spi rDPW_AUX_CFG 0]) = true ∧
    (runs (.spiRead 0 1 true) { s with spi := { writing := true } } fun t => t.spi.err && t.out == []) = true ∧
    (runs (.spiStatus true) { s with spi := { writing := true, err := true } } fun t => t.out == [.spiStatus 0x73] && !t.spi.err) = true := by
  decide +kernel

theorem test_jtag :
    let s := { ready with jtag := { boundary := [true] } }
    (runs (.bypass [true, true, false]) s fun t => t.out == [.tdo [false, true, true]] && t.jtag.ir == .bypass) = true ∧
    (runs (.clamp [true]) s fun t => t.out == [.balls [true], .tdo [false]]) = true ∧
    (runs (.highz [true]) s fun t => t.jtag.ir == .highz) = true ∧
    (runs (.samplePreload [false] [true, true]) s fun t => t.out == [.tdo [false]] && t.jtag.boundary == [true, true]) = true ∧
    (runs (.extest [false] [false]) s fun t => t.out == [.balls [true], .tdo [false], .balls [false]]) = true ∧
    (runs .idcode s fun t => t.out == [.tdo ((List.range 32).map (fun i => (0x0512076F#32).getLsbD i))]) = true := by decide +kernel

/-! ### The step, and bundles in instruction memory -/

theorem test_step_front : step { State.reset with pending := [.lossTimeout, .idcode] } = exec .lossTimeout { State.reset with pending := [.idcode] } :=
  rfl

theorem test_step_idle :
    (match step (put (atTick ready 3) [(fTM_STATUS_STATE, 3)]) with
      | .next t => t.tm.ft == 4 * 65536
      | _ => false) = true ∧
    (match step State.reset with
      | .next t => t.tm.ft == 0
      | _ => false) = true := by decide +kernel

theorem test_no_word_spells_a_command (nbits w : Nat) (s : State) : decodeTableWord nbits w = none ∧ s.withFetchWord nbits w = s :=
  ⟨rfl, rfl⟩

/-- Both invariants hold after reset; the second in each of its cores. -/
theorem test_reset_invariants : State.Canonical State.reset ∧ ∀ c, Core.Tidy (State.reset.core c) := by
  refine ⟨by constructor <;> decide +kernel, fun c => ?_⟩
  have h : State.reset.core c = {} := rfl
  rw [h]
  constructor <;> decide

/-- Words of 08_reed_core_isa.md: a synchronisation, a loop, an addition beside a play, and reserved encodings. -/
theorem test_bundles :
    decodeBundle 5 0xD0000800 = some [.nop 5, .sync 5 (.short 2048)] ∧
    decodeBundle 5 0xC601C00008000009 = some [.loop 5 0 (.inr 7) 9] ∧
    decodeBundle 5 0x014A540014620000 = some [.add 5 9 9 (.reg 10), .play 5 0x23 (.short 2 0)] ∧
    decodeBundle 5 0 = some [.nop 5, .tnop 5 false] ∧
    decodeBundle 5 0xFFFFFFFFFFFFFFFF = none ∧ decodeBundle 5 0x00000000F0000000 = none ∧ decodeBundle 5 0x0000000100000000 = none := by
  decide +kernel

/-! ### Commands that cannot occur -/

theorem test_ill_formed :
    (Instr.imageCheck { image 0x5EC0B007 5 with header := [] }).wf = false ∧ (Instr.imageCheck (image 0x5EC0B007 5)).wf = true ∧
    (Instr.badKind 0 0 0).wf = false ∧ (Instr.badKind 0 5 0).wf = true ∧
    (Instr.spiWrite 3 0 [] false).wf = false ∧ (Instr.spiWrite 5 0 [] false).wf = false ∧ (Instr.spiWrite 2 0 [] false).wf = true := by
  decide +kernel

end Sys2Proof.Tests
end

section
/-!
The second CUT within 128 ticks on a drive tone (O27, R81): what an engine fault changes, what the record of a commit leaves, and
how a JUMP in mode CUT that comes too soon commits.
-/
namespace Sys2Proof.Machine

/-! ### What a fault of an engine changes -/

/-- Marking a shot reads and changes nothing but the RUNs, so it keeps a frame between two states. -/
theorem State.Frame.markShot {l : List Piece} {s t : State} (h : State.Frame l s t) (n code at_ : Nat) :
    State.Frame l (s.markShot n code at_) (t.markShot n code at_) := by
  intro p hp
  have hs := h p hp
  cases p
  case runs => exact congrArg (List.map _) hs
  all_goals exact hs

/-- A Pool fault raises its code and marks the shot; all else is in registers, the interrupt controller and its messages. -/
theorem State.poolFault_frame (s : State) (n code unit index at_ : Nat) :
    State.Frame [.regs, .out, .ic] ((s.raise code).markShot n code at_) (s.poolFault n code unit index (some at_)) := by
  have hK := frame_keeps [.regs, .out, .ic] (s.raise code)
  have hregs : Keeps 0x4 (State.Frame [.regs, .out, .ic] (s.raise code)) := hK.mono (by decide)
  unfold State.poolFault
  extract_lets _ _ _ _ recorded counted pended
  refine State.Frame.markShot ?_ n code at_
  have hrecorded : State.Frame [.regs, .out, .ic] (s.raise code) recorded :=
    ite_keeps
      (State.setReg64_keeps hregs <| State.setFld_keeps hregs <| State.setFld_keeps hregs <| State.setFld_keeps hregs <|
        State.Frame.refl _ _)
      (State.Frame.refl _ _)
  have hcounted : State.Frame [.regs, .out, .ic] (s.raise code) counted := State.incSat_keeps hregs hrecorded
  unfold pended
  split
  · exact State.icPend_keeps (hK.mono (by decide)) hcounted
  · exact hcounted

/-- An engine fault raises its code and marks the shot; all else is in registers, the interrupt controller and its messages. -/
theorem State.engFault_frame (s : State) (n e : Nat) (k : EngFault) (at_ : Nat) :
    State.Frame [.regs, .out, .ic] ((s.raise (engFaultCode e k)).markShot n (engFaultCode e k) at_)
      (s.engFault n e k at_) := by
  have hregs := (frame_keeps [.regs, .out, .ic] ((s.raise (engFaultCode e k)).markShot n (engFaultCode e k) at_)).mono
    (b := 0x4) (by decide)
  have hfault := s.poolFault_frame n (engFaultCode e k) (engUnit e) (engIndex e) at_
  exact ite_keeps (State.incSat_keeps hregs hfault) (ite_keeps (State.incSat_keeps hregs hfault) hfault)

theorem State.engFault_chains (s : State) (n e : Nat) (k : EngFault) (at_ : Nat) :
    (s.engFault n e k at_).chains = s.chains := s.engFault_frame n e k at_ .chains (by decide)

theorem State.engFault_faultLog (s : State) (n e : Nat) (k : EngFault) (at_ : Nat) :
    (s.engFault n e k at_).faultLog = s.faultLog ++ [engFaultCode e k] := s.engFault_frame n e k at_ .faultLog (by decide)

theorem State.engFault_runs (s : State) (n e : Nat) (k : EngFault) (at_ : Nat) :
    (s.engFault n e k at_).runs = (s.markShot n (engFaultCode e k) at_).runs := s.engFault_frame n e k at_ .runs (by decide)

/-- The code of a cut that a drive tone discards (R81). -/
theorem engFaultCode_drive_cut {e : Nat} (he : e < 32) : engFaultCode e .cut = 0x0204 := by
  simp [engFaultCode, isDrive, he]

/-! ### Marks and the record of a commit -/

/-- Every active RUN that holds the Pool takes the mark. -/
theorem State.markShot_getElem? {s : State} {n j : Nat} {r : Run} (code at_ : Nat) (hr : s.runs[j]? = some r)
    (hactive : r.active = true) (hpool : r.hasPool n = true) :
    (s.markShot n code at_).runs[j]? = some { r with marks := r.marks ++ [(at_, code)] } := by
  simp [State.markShot, hr, hactive, hpool]

/-- Recording a commit leaves what decides whether a fault marks a RUN, and the marks it has. -/
theorem State.runCommit_getElem? {s : State} {j : Nat} {r : Run} (core t : Nat) (trig : Bool) (hr : s.runs[j]? = some r) :
    ∃ r' : Run, (s.runCommit core t trig).runs[j]? = some r' ∧ r'.active = r.active ∧ r'.coreMask = r.coreMask ∧
      r'.marks = r.marks := by
  simp only [State.runCommit, State.mapRun, List.getElem?_map, hr, Option.map_some]
  refine ⟨_, rfl, ?_⟩
  split
  · split <;> exact ⟨rfl, rfl, rfl⟩
  · exact ⟨rfl, rfl, rfl⟩

/-- Beyond the record of the RUN, the record of a commit is in registers and in the core. -/
theorem State.recordCommit_frame (s : State) (t : TCmd) :
    State.Frame [.regs, .cores] (s.runCommit t.core t.time (t.top == 0xB)) (s.recordCommit t) := by
  have hK := frame_keeps [.regs, .cores] (s.runCommit t.core t.time (t.top == 0xB))
  unfold State.recordCommit
  extract_lets
  exact ite_keeps (State.Frame.refl _ _) <| State.setReg64_keeps (hK.mono (by decide)) <|
    State.setReg_keeps (hK.mono (by decide)) <| State.setCore_keeps (hK.mono (by decide)) <| State.Frame.refl _ _

theorem State.recordCommit_runs (s : State) (t : TCmd) :
    (s.recordCommit t).runs = (s.runCommit t.core t.time (t.top == 0xB)).runs := s.recordCommit_frame t .runs (by decide)

theorem State.recordCommit_chains (s : State) (t : TCmd) : (s.recordCommit t).chains = s.chains :=
  s.recordCommit_frame t .chains (by decide)

theorem State.recordCommit_faultLog (s : State) (t : TCmd) : (s.recordCommit t).faultLog = s.faultLog :=
  s.recordCommit_frame t .faultLog (by decide)

/-! ### The commit of a CUT that comes too soon -/

theorem exec_commandCommit (n : Fin 16) (tgt : Fin 128) (s : State) :
    exec (.commandCommit n tgt) s = .next (s.commitArmed n.val tgt.val) := rfl

/-- A single armed command leaves its buffer and acts. -/
theorem State.commitArmed_single {s : State} {n b : Nat} {a : Armed} (hlive : s.poolLive n = true)
    (harmed : s.armedAt n b = [a]) : s.commitArmed n b = (s.setArmed n b []).commitOne n b a := by
  simp [State.commitArmed, harmed, hlive, insertCmd]

/-- A JUMP is recorded, then acts on its engine. -/
theorem State.commitOne_jump {a : Armed} (htop : a.cmd.top = 0xA) (s : State) (n b : Nat) :
    s.commitOne n b a =
      (s.recordCommit a.cmd).engJump n a.cmd.tgt a.cmd.time (fieldOf a.cmd.a 11 0) (a.cmd.a.getLsbD 16) := by
  simp [State.commitOne, htop]

/-- A CUT of a drive tone within 128 ticks of the last one does nothing but raise the fault (R81). -/
theorem State.engJump_cut_soon {s : State} {n e t t0 : Nat} (entry : Nat) (he : e < 32)
    (hmuted : (s.chain n e).muted = false) (hlast : (s.chain n e).lastCut = some t0) (hsoon : t < t0 + 128) :
    s.engJump n e t entry true = s.engFault n e .cut t := by
  have hflux : isFlux e = false := by simp [isFlux]; omega
  simp [State.engJump, hflux, hmuted, hlast, hsoon]

/-- The commit of a single armed CUT that comes too soon: the record of the commit, then the fault. -/
theorem State.commitArmed_cut_soon {s : State} {n b t0 : Nat} {a : Armed} (hb : b < 32) (hlive : s.poolLive n = true)
    (harmed : s.armedAt n b = [a]) (htgt : a.cmd.tgt = b) (htop : a.cmd.top = 0xA) (hcut : a.cmd.a.getLsbD 16 = true)
    (hmuted : (s.chain n b).muted = false) (hlast : (s.chain n b).lastCut = some t0) (hsoon : a.cmd.time < t0 + 128) :
    s.commitArmed n b = ((s.setArmed n b []).recordCommit a.cmd).engFault n b .cut a.cmd.time := by
  have hchain : ((s.setArmed n b []).recordCommit a.cmd).chain n b = s.chain n b :=
    congrArg (SMap.get _ · _) (State.recordCommit_chains ..)
  rw [State.commitArmed_single hlive harmed, State.commitOne_jump htop, htgt, hcut,
    State.engJump_cut_soon _ hb (hchain ▸ hmuted) (hchain ▸ hlast) hsoon]

/-- Settles O27: the commit is its record, which leaves chains, fault log and marks, followed by the engine fault 0x0204. -/
theorem secondCutWithin128TicksIsDiscarded : Obligations.SecondCutWithin128TicksIsDiscarded := by
  intro n b a t0 s hlive harmed _ htgt htop hcut hmuted hlast hsoon
  have hcode : engFaultCode b.val .cut = 0x0204 := engFaultCode_drive_cut b.isLt
  have hcommit := State.commitArmed_cut_soon b.isLt hlive harmed htgt htop hcut hmuted hlast hsoon
  refine ⟨_, exec_commandCommit .., ?_⟩
  rw [hcommit]
  refine ⟨?_, ?_, fun j r hr hactive hpool => ?_⟩
  · rw [State.engFault_chains, State.recordCommit_chains]
    rfl
  · rw [State.engFault_faultLog, State.recordCommit_faultLog, hcode]
    rfl
  · obtain ⟨r₁, hr₁, hactive₁, hmask, hmarks⟩ :=
      State.runCommit_getElem? (s := s.setArmed n.val b.val []) a.cmd.core a.cmd.time (a.cmd.top == 0xB) hr
    rw [← State.recordCommit_runs] at hr₁
    have hpool₁ : r₁.hasPool n.val = true := by rw [Run.hasPool, hmask]; exact hpool
    rw [State.engFault_runs, hcode]
    exact ⟨_, State.markShot_getElem? _ _ hr₁ (hactive₁.trans hactive) hpool₁, by rw [hmarks]⟩

end Sys2Proof.Machine
end

section
/-!
The delivery of a command for a unit that is not enabled (O23, R182): what the pop of the timed queue and the fault of a core change,
and that no counter of the core is among it but the one of discarded commands.
-/
namespace Sys2Proof.Machine

/-! ### Which registers an operation changes -/

section
variable {offs : List Nat} {s t u : State}

theorem State.OnlyRegsIc.refl (offs : List Nat) (s : State) : State.OnlyRegsIc offs s s := fun _ _ _ => rfl

theorem State.OnlyRegsIc.setFld (h : State.OnlyRegsIc offs s t) {f : Fld} (hf : f.off ∈ offs) (v : Nat) :
    State.OnlyRegsIc offs s (t.setFld f v) := fun off ho hic => by
  rw [reg_setFld_of_ne _ _ (ne_of_mem_of_not_mem hf ho).symm, h off ho hic]

theorem State.OnlyRegsIc.setReg64 (h : State.OnlyRegsIc offs s t) {r : Nat} (hr : r ∈ offs) (hr' : r + 4 ∈ offs) (v : Nat) :
    State.OnlyRegsIc offs s (t.setReg64 r v) := fun off ho hic => by
  rw [reg_setReg64_of_ne _ _ (ne_of_mem_of_not_mem hr ho).symm (ne_of_mem_of_not_mem hr' ho).symm, h off ho hic]

theorem State.OnlyRegsIc.icPend (h : State.OnlyRegsIc offs s t) (src : Nat) : State.OnlyRegsIc offs s (t.icPend src) :=
  fun off ho hic => (reg_icPend t src hic).trans (h off ho hic)

/-- A field of a register that is not listed stands. -/
theorem State.OnlyRegsIc.fld (h : State.OnlyRegsIc offs s t) {f : Fld} (hf : f.off ∉ offs) (hic : ¬ icOffset f.off) :
    t.fld f = s.fld f := by
  rw [State.fld, State.fld, h f.off hf hic]

end

/-- A counter that saturates counts one more, up to its largest value. -/
theorem fld_incSat (s : State) {f : Fld} (h : f.lo ≤ f.hi) (hh : f.hi < 32) :
    (s.incSat f).fld f = min (s.fld f + 1) f.max := by
  have hmax : min (s.fld f + 1) f.max < 2 ^ (f.hi + 1 - f.lo) :=
    (Nat.min_le_right ..).trans_lt (Nat.sub_lt (Nat.two_pow_pos _) Nat.one_pos)
  rw [State.incSat, fld_setFld s f _ h hh, Nat.mod_eq_of_lt hmax]

/-! ### The fault of a core -/

theorem State.core_setCore (s : State) (c : Nat) (k : Core) : (s.setCore c k).core c = k :=
  (SMap.get_set _ _ _ _ _).trans (if_pos rfl)

theorem State.Frame.raise {l : List Piece} {s t : State} (h : State.Frame l s t) (code : Nat) :
    State.Frame l (s.raise code) (t.raise code) := by
  intro p hp
  have hs := h p hp
  cases p
  case faultLog => exact congrArg (· ++ [code]) hs
  all_goals exact hs

/-- The fault record of a core (R200) and the one of its Pool (R201). -/
def coreFaultRegs (n i : Nat) : List Nat :=
  [rRC_i_FAULT_CODE n i, rRC_i_FAULT_PC n i, rRC_i_FAULT_ST_L n i, rRC_i_FAULT_ST_L n i + 4,
    rRC_PFR_CODE n, rRC_PFR_SRC n, rRC_PFR_TIME_L n, rRC_PFR_TIME_L n + 4]

/-- A Pool fault writes the record of the Pool only. -/
theorem State.OnlyRegsIc.poolFault {n i : Nat} {s t : State} (h : State.OnlyRegsIc (coreFaultRegs n i) s t)
    (code unit index : Nat) (at_ : Option Nat) :
    State.OnlyRegsIc (coreFaultRegs n i) s (t.poolFault n code unit index at_) := by
  have hcode : rRC_PFR_CODE n ∈ coreFaultRegs n i := by simp [coreFaultRegs]
  have hsrc : rRC_PFR_SRC n ∈ coreFaultRegs n i := by simp [coreFaultRegs]
  have htime : rRC_PFR_TIME_L n ∈ coreFaultRegs n i := by simp [coreFaultRegs]
  have htime' : rRC_PFR_TIME_L n + 4 ∈ coreFaultRegs n i := by simp [coreFaultRegs]
  have hraised : State.OnlyRegsIc (coreFaultRegs n i) s (t.raise code) := h
  unfold State.poolFault
  extract_lets _ _ _ _ recorded counted pended
  have hrecorded : State.OnlyRegsIc (coreFaultRegs n i) s recorded :=
    ite_keeps ((((hraised.setFld hcode _).setFld hsrc _).setFld hsrc _).setReg64 htime htime' _) hraised
  have hcounted : State.OnlyRegsIc (coreFaultRegs n i) s counted := hrecorded.setFld hcode _
  have hpended : State.OnlyRegsIc (coreFaultRegs n i) s pended := by
    unfold pended
    split
    · exact hcounted.icPend _
    · exact hcounted
  split <;> exact hpended

/-- Beyond what a pending host interrupt changes, a fault of a core writes the two records only. -/
theorem State.coreFault_onlyRegsIc (s : State) (c code pc time cmd : Nat) (at_ : Option Nat) :
    State.OnlyRegsIc (coreFaultRegs (c / 4) (c % 4)) s (s.coreFault c code pc time cmd at_) := by
  have hcode : rRC_i_FAULT_CODE (c / 4) (c % 4) ∈ coreFaultRegs (c / 4) (c % 4) := by simp [coreFaultRegs]
  have hpc : rRC_i_FAULT_PC (c / 4) (c % 4) ∈ coreFaultRegs (c / 4) (c % 4) := by simp [coreFaultRegs]
  have htime : rRC_i_FAULT_ST_L (c / 4) (c % 4) ∈ coreFaultRegs (c / 4) (c % 4) := by simp [coreFaultRegs]
  have htime' : rRC_i_FAULT_ST_L (c / 4) (c % 4) + 4 ∈ coreFaultRegs (c / 4) (c % 4) := by simp [coreFaultRegs]
  have hs := State.OnlyRegsIc.refl (coreFaultRegs (c / 4) (c % 4)) s
  unfold State.coreFault
  extract_lets _ _ _ _ _ _ recorded
  have hrecorded : State.OnlyRegsIc (coreFaultRegs (c / 4) (c % 4)) s recorded :=
    ite_keeps (((((hs.setFld hcode _).setFld hcode _).setFld hpc _).setReg64 htime htime' _).icPend _) hs
  exact hrecorded.poolFault code 3 _ at_


/-- A fault of a core raises its code and marks the shot; all else is in registers, the interrupt controller and its messages. -/
theorem State.coreFault_frame (s : State) (c code pc time cmd at_ : Nat) :
    State.Frame [.regs, .out, .ic] ((s.raise code).markShot (c / 4) code at_)
      (s.coreFault c code pc time cmd (some at_)) := by
  have hK := frame_keeps [.regs, .out, .ic] s
  have hregs : Keeps 0x4 (State.Frame [.regs, .out, .ic] s) := hK.mono (by decide)
  unfold State.coreFault
  extract_lets n i _ _ _ _ recorded
  have hrecorded : State.Frame [.regs, .out, .ic] s recorded :=
    ite_keeps
      (State.icPend_keeps (hK.mono (by decide)) <| State.setReg64_keeps hregs <| State.setFld_keeps hregs <|
        State.setFld_keeps hregs <| State.setFld_keeps hregs <| State.Frame.refl _ _)
      (State.Frame.refl _ _)
  exact ((hrecorded.raise code).markShot n code at_).trans (recorded.poolFault_frame n code 3 i at_)

/-! ### The head of the timed queue leaves it -/

/-- The registers of a core that change when the head leaves the queue: level and state, and the interrupt TQ_LOW. -/
def queuePopRegs (n i : Nat) : List Nat := [rRC_i_STATUS n i, rRC_i_IRQ_PEND n i]

/-- With no bundle held, the pop takes the head away and then sets fields of `queuePopRegs` only. -/
theorem State.queuePop_of_setFld {P : State → Prop} {s : State} {c : Nat} {rest : List TCmd}
    (hset : ∀ (t : State) (f : Fld) (v : Nat), f.off ∈ queuePopRegs (c / 4) (c % 4) → P t → P (t.setFld f v))
    (hheld : (s.core c).held = none) (h : P (s.setCore c { s.core c with queue := rest })) : P (s.queuePop c rest) := by
  have hstatus : rRC_i_STATUS (c / 4) (c % 4) ∈ queuePopRegs (c / 4) (c % 4) := by simp [queuePopRegs]
  have hpend : rRC_i_IRQ_PEND (c / 4) (c % 4) ∈ queuePopRegs (c / 4) (c % 4) := by simp [queuePopRegs]
  unfold State.queuePop
  extract_lets k n i low popped levelled pended
  have hlevelled : P levelled := hset _ _ _ hstatus h
  have hpended : P pended := ite_keeps (hset _ _ _ hpend hlevelled) hlevelled
  have hcores : pended.cores = popped.cores := by
    unfold pended
    split
    · exact (State.setFld_cores ..).trans (State.setFld_cores ..)
    · exact State.setFld_cores ..
  have hheld' : (pended.core c).held = none := by
    rw [State.core, hcores]
    exact (congrArg Core.held (State.core_setCore ..)).trans hheld
  rw [hheld']
  exact ite_keeps (hset _ _ _ hstatus hpended) hpended

theorem State.queuePop_frame {s : State} {c : Nat} (rest : List TCmd) (hheld : (s.core c).held = none) :
    State.Frame [.regs] (s.setCore c { s.core c with queue := rest }) (s.queuePop c rest) :=
  State.queuePop_of_setFld (fun _ _ _ _ h => State.setFld_keeps ((frame_keeps [.regs] _).mono (by decide)) h) hheld
    (State.Frame.refl _ _)

theorem State.queuePop_onlyRegsIc {s : State} {c : Nat} (rest : List TCmd) (hheld : (s.core c).held = none) :
    State.OnlyRegsIc (queuePopRegs (c / 4) (c % 4)) s (s.queuePop c rest) :=
  State.queuePop_of_setFld (fun _ _ v hf h => h.setFld hf v) hheld (State.OnlyRegsIc.refl _ _)

/-! ### The counters of a core -/

/-- The offsets of RC_COUNT_A and RC_COUNT_B of a core. -/
def countRegs (n i : Nat) : List Nat := [rRC_i_COUNT_A n i, rRC_i_COUNT_B n i]

theorem countRegs_not_icOffset {n i off : Nat} (hn : n < 16) (hi : i < 4) (h : off ∈ countRegs n i) : ¬ icOffset off := by
  simp only [countRegs, rRC_i_COUNT_A, rRC_i_COUNT_B, List.mem_cons, List.not_mem_nil, or_false] at h
  unfold icOffset
  omega

theorem countRegs_not_mem_queuePopRegs {n i off : Nat} (h : off ∈ countRegs n i) : off ∉ queuePopRegs n i := by
  simp only [countRegs, rRC_i_COUNT_A, rRC_i_COUNT_B, queuePopRegs, rRC_i_STATUS, rRC_i_IRQ_PEND, List.mem_cons,
    List.not_mem_nil, or_false] at h ⊢
  omega

theorem countRegs_not_mem_coreFaultRegs {n i off : Nat} (hi : i < 4) (h : off ∈ countRegs n i) :
    off ∉ coreFaultRegs n i := by
  simp only [countRegs, rRC_i_COUNT_A, rRC_i_COUNT_B, coreFaultRegs, rRC_i_FAULT_CODE, rRC_i_FAULT_PC, rRC_i_FAULT_ST_L,
    rRC_PFR_CODE, rRC_PFR_SRC, rRC_PFR_TIME_L, List.mem_cons, List.not_mem_nil, or_false] at h ⊢
  omega

section
variable {s : State} {c : Nat} {f : Fld}

/-- The pop of the queue counts nothing. -/
theorem State.queuePop_count (hc : c < 64) (hf : f.off ∈ countRegs (c / 4) (c % 4)) (rest : List TCmd)
    (hheld : (s.core c).held = none) : (s.queuePop c rest).fld f = s.fld f :=
  (State.queuePop_onlyRegsIc rest hheld).fld (countRegs_not_mem_queuePopRegs hf)
    (countRegs_not_icOffset (by omega) (by omega) hf)

/-- A fault of a core counts nothing in the core. -/
theorem State.coreFault_count (hc : c < 64) (hf : f.off ∈ countRegs (c / 4) (c % 4)) (code pc time cmd : Nat)
    (at_ : Option Nat) : (s.coreFault c code pc time cmd at_).fld f = s.fld f :=
  (s.coreFault_onlyRegsIc c code pc time cmd at_).fld (countRegs_not_mem_coreFaultRegs (by omega) hf)
    (countRegs_not_icOffset (by omega) (by omega) hf)

end

/-! ### The delivery of a command that is discarded -/

theorem exec_commandDelivery (c : Fin 64) (s : State) : exec (.commandDelivery c) s = .next (s.deliver c.val) := rfl

section
variable {s : State} {n tgt : Nat}

/-- Drive tones and drive carriers are off with the drive unit. -/
theorem State.targetOff_drive (ht : tgt < 0x20 ∨ (0x48 ≤ tgt ∧ tgt < 0x4C)) (h : s.flag (fDRV_STATUS_ENABLED n) = false) :
    s.targetOff n tgt = true := by
  simp [State.targetOff, ht, h]

/-- Read-out tones and read-out carriers are off with the read-out unit. -/
theorem State.targetOff_readout (ht : (0x20 ≤ tgt ∧ tgt < 0x40) ∨ (0x4C ≤ tgt ∧ tgt < 0x4E))
    (h : s.flag (fRO_STATUS_ENABLED n) = false) : s.targetOff n tgt = true := by
  have hdrive : ¬ (tgt < 0x20 ∨ (0x48 ≤ tgt ∧ tgt < 0x4C)) := by omega
  have hreadout : tgt < 0x40 ∨ (0x4C ≤ tgt ∧ tgt < 0x4E) := ht.imp_left And.right
  simp [State.targetOff, hdrive, hreadout, h]

/-- Flux channels are off with the flux unit. -/
theorem State.targetOff_flux (ht : 0x40 ≤ tgt ∧ tgt < 0x48) (h : s.flag (fFLX_STATUS_ENABLED n) = false) :
    s.targetOff n tgt = true := by
  have hdrive : ¬ (tgt < 0x20 ∨ (0x48 ≤ tgt ∧ tgt < 0x4C)) := by omega
  have hreadout : ¬ (tgt < 0x40 ∨ (0x4C ≤ tgt ∧ tgt < 0x4E)) := by omega
  simp [State.targetOff, hdrive, hreadout, ht.2, h]

end

section
variable {s : State} {c : Nat} {x : TCmd} {rest : List TCmd}

/-- The head of the queue for a unit that is not enabled: popped, counted, and a fault (R182). -/
theorem State.deliver_off (hqueue : (s.core c).queue = x :: rest) (hlive : s.poolLive (c / 4) = true)
    (hoff : s.targetOff (c / 4) x.tgt = true) :
    s.deliver c = ((s.queuePop c rest).incSat (fRC_i_COUNT_B_DISABLED (c / 4) (c % 4))).coreFault c 0x0505 x.pc x.time
      x.seq.toNat (some x.time) := by
  simp [State.deliver, hqueue, hlive, hoff]

/-- The delivery takes the head away, raises its fault and marks the shot; all else is in registers, the interrupt controller and
its messages. -/
theorem State.deliver_off_frame (hqueue : (s.core c).queue = x :: rest) (hheld : (s.core c).held = none)
    (hlive : s.poolLive (c / 4) = true) (hoff : s.targetOff (c / 4) x.tgt = true) :
    State.Frame [.regs, .out, .ic]
      (((s.setCore c { s.core c with queue := rest }).raise 0x0505).markShot (c / 4) 0x0505 x.time) (s.deliver c) := by
  have hpopped := (State.queuePop_frame rest hheld).mono (m := [.regs, .out, .ic]) (by simp)
  have hcounted := State.incSat_keeps ((frame_keeps [.regs, .out, .ic] _).mono (by decide)) hpopped
    (f := fRC_i_COUNT_B_DISABLED (c / 4) (c % 4)) (n := 1)
  rw [State.deliver_off hqueue hlive hoff]
  exact ((hcounted.raise 0x0505).markShot (c / 4) 0x0505 x.time).trans
    (State.coreFault_frame _ c 0x0505 x.pc x.time x.seq.toNat x.time)

theorem State.deliver_off_disabled (hc : c < 64) (hqueue : (s.core c).queue = x :: rest) (hheld : (s.core c).held = none)
    (hlive : s.poolLive (c / 4) = true) (hoff : s.targetOff (c / 4) x.tgt = true) :
    (s.deliver c).fld (fRC_i_COUNT_B_DISABLED (c / 4) (c % 4)) =
      min (s.fld (fRC_i_COUNT_B_DISABLED (c / 4) (c % 4)) + 1) 255 := by
  have hf : (fRC_i_COUNT_B_DISABLED (c / 4) (c % 4)).off ∈ countRegs (c / 4) (c % 4) := by
    simp [countRegs, fRC_i_COUNT_B_DISABLED]
  rw [State.deliver_off hqueue hlive hoff, State.coreFault_count hc hf,
    fld_incSat _ (by simp [fRC_i_COUNT_B_DISABLED]) (by simp [fRC_i_COUNT_B_DISABLED]), State.queuePop_count hc hf rest hheld]
  rfl

theorem State.deliver_off_late (hc : c < 64) (hqueue : (s.core c).queue = x :: rest) (hheld : (s.core c).held = none)
    (hlive : s.poolLive (c / 4) = true) (hoff : s.targetOff (c / 4) x.tgt = true) :
    (s.deliver c).fld (fRC_i_COUNT_A_LATE (c / 4) (c % 4)) = s.fld (fRC_i_COUNT_A_LATE (c / 4) (c % 4)) := by
  have hf : (fRC_i_COUNT_A_LATE (c / 4) (c % 4)).off ∈ countRegs (c / 4) (c % 4) := by
    simp [countRegs, fRC_i_COUNT_A_LATE]
  have hne : rRC_i_COUNT_A (c / 4) (c % 4) ≠ rRC_i_COUNT_B (c / 4) (c % 4) := by
    unfold rRC_i_COUNT_A rRC_i_COUNT_B
    omega
  rw [State.deliver_off hqueue hlive hoff, State.coreFault_count hc hf, State.incSat, fld_setFld_of_ne _ _ hne,
    State.queuePop_count hc hf rest hheld]

end

/-- Settles O23: the target is off, so the delivery is the pop of the queue, the count and the fault 0x0505. -/
theorem reedCommandForDisabledUnitIsDiscarded : Obligations.ReedCommandForDisabledUnitIsDiscarded := by
  intro c x rest s n i hqueue hheld hlive hdisabled
  have hoff : s.targetOff n x.tgt = true := by
    rcases hdisabled with ⟨ht, h⟩ | ⟨ht, h⟩ | ⟨ht, h⟩
    · exact State.targetOff_drive ht h
    · exact State.targetOff_readout ht h
    · exact State.targetOff_flux ht h
  have hframe := State.deliver_off_frame hqueue hheld hlive hoff
  have hcores : (s.deliver c.val).cores = (s.setCore c { s.core c with queue := rest }).cores := hframe .cores (by decide)
  have hcore : (s.deliver c.val).core c = { s.core c with queue := rest } :=
    (congrArg (SMap.get _ · c.val) hcores).trans (State.core_setCore ..)
  exact ⟨_, exec_commandDelivery c s, congrArg Core.queue hcore, hframe .armed (by decide), hframe .faultLog (by decide),
    State.deliver_off_disabled c.isLt hqueue hheld hlive hoff, State.deliver_off_late c.isLt hqueue hheld hlive hoff,
    hframe .runs (by decide)⟩

end Sys2Proof.Machine
end

section
/-!
ROUND_STATUS (O36, R254): what its flit carries, which entries of the log it marks, and what the marks leave.
-/
namespace Sys2Proof.Machine

/-! ### The payload and its delivery -/

theorem sedgePayload_toNat (type : BitVec 4) (x : BitVec 188) : (sedgePayload type x).toNat = 16 * x.toNat + type.toNat := by
  have htype : type.toNat < 2 ^ 4 := type.isLt
  rw [sedgePayload, BitVec.toNat_append, ← Nat.shiftLeft_add_eq_or_of_lt htype, Nat.shiftLeft_eq]
  omega

/-- The low four bits of a Sedge payload are its type. -/
theorem sliceNat_sedgePayload_type (type : BitVec 4) (x : BitVec 188) : sliceNat (sedgePayload type x) 3 0 = type.toNat := by
  have htype : type.toNat < 2 ^ 4 := type.isLt
  rw [sliceNat, sedgePayload_toNat]
  omega

/-- The bits above the type are those of the rest. -/
theorem sliceNat_sedgePayload_rest (type : BitVec 4) (x : BitVec 188) (hi lo : Nat) :
    sliceNat (sedgePayload type x) (hi + 4) (lo + 4) = sliceNat x hi lo := by
  have htype : type.toNat < 2 ^ 4 := type.isLt
  have hdiv : (16 * x.toNat + type.toNat) / 2 ^ 4 = x.toNat := by omega
  rw [sliceNat, sliceNat, sedgePayload_toNat, show hi + 4 + 1 - (lo + 4) = hi + 1 - lo by omega, Nat.add_comm lo 4,
    Nat.pow_add, ← Nat.div_div_eq_div_mul, hdiv]

/-- A flit that arrives is handed on, with only the record of its port changed (R305). -/
theorem State.receiveFlit_of_arrives {s : State} {p : Nat} {f : Flit} (h : s.arrives p f = true) (deliver : State → State) :
    ∃ port : CwPort, s.receiveFlit p f deliver = deliver (s.setCwPort p port) := by
  simp only [State.arrives, Bool.and_eq_true, Bool.not_eq_true', beq_iff_eq] at h
  obtain ⟨⟨⟨hactive, hown⟩, hhere⟩, hseq⟩ := h
  simp only [State.receiveFlit, State.acceptFlit, hactive, hseq, Bool.not_true, Bool.false_eq_true, if_false, if_true]
  exact ⟨_, (if_neg (Bool.eq_false_iff.mp hown)).trans (if_pos hhere)⟩

theorem exec_roundStatus (q : Fin 8) (h : Hdr) (x : BitVec 188) (s : State) :
    exec (.roundStatus q h x) s =
      .next (s.receiveFlit q.val (flitOf 1 0 h (sedgePayload 3 x)) fun t => t.sdgMessage h.src.toNat (sedgePayload 3 x)) := rfl

/-- Sedge, powered and enabled, takes the ROUND_STATUS of a neighbour with the rounds that it names. -/
theorem State.sdgMessage_roundStatus {s : State} {node k : Nat} (hpowered : s.sedgePowered = true)
    (henabled : s.flag fSDG_STATUS_ENABLED = true) (hnode : s.sdgNeighbourOf node = some k) (x : BitVec 188) :
    s.sdgMessage node (sedgePayload 3 x) = s.sdgRoundStatus k (sliceNat x 31 0) (sliceNat x 63 32) := by
  have htype : sliceNat (sedgePayload 3 x) 3 0 = 3 := sliceNat_sedgePayload_type 3 x
  have hfirst : sliceNat (sedgePayload 3 x) 35 4 = sliceNat x 31 0 := sliceNat_sedgePayload_rest 3 x 31 0
  have hlast : sliceNat (sedgePayload 3 x) 67 36 = sliceNat x 63 32 := sliceNat_sedgePayload_rest 3 x 63 32
  simp only [State.sdgMessage, hpowered, henabled, hnode, htype, hfirst, hlast, Bool.not_true, Bool.or_self, Bool.false_eq_true,
    if_false]

/-! ### A register that holds a flag -/

/-- A flag that has been set. -/
theorem flag_setFlag_true (s : State) {f : Fld} (h : f.lo ≤ f.hi) (hh : f.hi < 32) : (s.setFlag f true).flag f = true := by
  have hsize : 1 < 2 ^ (f.hi + 1 - f.lo) := Nat.one_lt_two_pow (by omega)
  have hset : (s.setFlag f true).fld f = 1 := (fld_setFld s f 1 h hh).trans (Nat.mod_eq_of_lt hsize)
  simp [State.flag, hset]

theorem State.fld_congr {s t : State} {f : Fld} (h : t.reg f.off = s.reg f.off) : t.fld f = s.fld f := by
  rw [State.fld, State.fld, h]

theorem State.flag_congr {s t : State} {f : Fld} (h : t.fld f = s.fld f) : t.flag f = s.flag f := by
  rw [State.flag, State.flag, h]

theorem rSDG_LOG_i_injective {i j : Nat} (h : rSDG_LOG_i i = rSDG_LOG_i j) : i = j := by
  unfold rSDG_LOG_i at h
  omega

/-! ### The marks of the log -/

/-- Entry i of the log holds a round among those from `first` to `last`. -/
def State.holdsNamed (s : State) (first last i : Nat) : Bool := (s.sdgHeld i).any fun r => first ≤ r && r ≤ last

/-- Marks entry i of the log if it holds a round among those named. -/
def State.markEntry (first last i : Nat) (s : State) : State :=
  if s.holdsNamed first last i then s.setFlag (fSDG_LOG_i_NB_UNTRUSTED i) true else s

/-- Marks the first n entries of the log. -/
def State.markEntries (first last n : Nat) (s : State) : State := forRange n (State.markEntry first last) s

theorem State.holdsNamed_iff {s : State} {first last i : Nat} :
    s.holdsNamed first last i = true ↔ ∃ r, s.sdgHeld i = some r ∧ first ≤ r ∧ r ≤ last := by
  simp [State.holdsNamed, Option.any_eq_true]

theorem forRange_congr {n : Nat} {f g : Nat → State → State} {s : State} (h : ∀ i t, f i t = g i t) :
    forRange n f s = forRange n g s := by
  rw [show f = g from funext₂ h]

/-- ROUND_STATUS marks the log, counts and raises its fault. -/
theorem State.sdgRoundStatus_eq (s : State) (k first last : Nat) :
    s.sdgRoundStatus k first last =
      ((s.markEntries first last 64).incSat (fSDG_NBk_STATUS_NB_UNTR k)).sdgFault 0x0703 := by
  rw [State.sdgRoundStatus, State.markEntries, forRange_congr (g := State.markEntry first last)]
  intro i t
  unfold State.markEntry State.holdsNamed
  cases t.sdgHeld i <;> rfl

section
variable (first last : Nat) (s : State)

theorem State.markEntries_succ (n : Nat) :
    s.markEntries first last (n + 1) = (s.markEntries first last n).markEntry first last n := by
  simp [State.markEntries, forRange, List.range_succ]

theorem State.markEntry_frame (i : Nat) : State.Frame [.regs] s (s.markEntry first last i) :=
  ite_keeps (State.setFlag_keeps ((frame_keeps [.regs] s).mono (by decide)) (State.Frame.refl _ _)) (State.Frame.refl _ _)

theorem State.markEntry_reg {i off : Nat} (h : off ≠ rSDG_LOG_i i) : (s.markEntry first last i).reg off = s.reg off := by
  unfold State.markEntry
  split
  · exact reg_setFlag_of_ne s true h
  · rfl

/-- A field that leaves out bit 29 stands when an entry is marked. -/
theorem State.markEntry_fld (i : Nat) {g : Fld} (h : g.lo ≤ g.hi) (hd : g.hi < 29 ∨ 29 < g.lo) :
    (s.markEntry first last i).fld g = s.fld g := by
  unfold State.markEntry
  split
  · exact fld_setFld_of_disjoint s _ le_rfl (by simp [fSDG_LOG_i_NB_UNTRUSTED]) h hd
  · rfl

theorem State.markEntry_flag (i : Nat) :
    (s.markEntry first last i).flag (fSDG_LOG_i_NB_UNTRUSTED i) = true ↔
      s.flag (fSDG_LOG_i_NB_UNTRUSTED i) = true ∨ s.holdsNamed first last i = true := by
  have hset : (s.setFlag (fSDG_LOG_i_NB_UNTRUSTED i) true).flag (fSDG_LOG_i_NB_UNTRUSTED i) = true :=
    flag_setFlag_true s le_rfl (by simp [fSDG_LOG_i_NB_UNTRUSTED])
  cases hnamed : s.holdsNamed first last i
  · simp [State.markEntry, hnamed]
  · simp [State.markEntry, hnamed, hset]

theorem State.markEntries_frame (n : Nat) : State.Frame [.regs] s (s.markEntries first last n) :=
  forRange_keeps (State.Frame.refl _ _) fun i t h => h.trans (t.markEntry_frame first last i)

theorem State.markEntries_sdg (n : Nat) : (s.markEntries first last n).sdg = s.sdg :=
  s.markEntries_frame first last n .sdg (by decide)

theorem State.markEntries_faultLog (n : Nat) : (s.markEntries first last n).faultLog = s.faultLog :=
  s.markEntries_frame first last n .faultLog (by decide)

/-- The registers below the log stand when it is marked. -/
theorem State.markEntries_reg (n : Nat) {off : Nat} (h : off < 0x2003000) :
    (s.markEntries first last n).reg off = s.reg off :=
  forRange_keeps (P := fun t => t.reg off = s.reg off) rfl fun i t ht =>
    (t.markEntry_reg first last (by unfold rSDG_LOG_i; omega)).trans ht

/-- A field that leaves out bit 29 stands when the log is marked. -/
theorem State.markEntries_fld (n : Nat) {g : Fld} (h : g.lo ≤ g.hi) (hd : g.hi < 29 ∨ 29 < g.lo) :
    (s.markEntries first last n).fld g = s.fld g :=
  forRange_keeps (P := fun t => t.fld g = s.fld g) rfl fun i t ht => (t.markEntry_fld first last i h hd).trans ht

/-- The marks leave the round that each entry holds. -/
theorem State.markEntries_holdsNamed (n i : Nat) :
    (s.markEntries first last n).holdsNamed first last i = s.holdsNamed first last i := by
  have hround (j : Nat) : (s.markEntries first last n).fld (fSDG_LOG_i_ROUND j) = s.fld (fSDG_LOG_i_ROUND j) :=
    s.markEntries_fld first last n (Nat.zero_le _) (Or.inl (by decide : 23 < 29))
  unfold State.holdsNamed State.sdgHeld State.sdgLogged
  simp only [hround]
  rw [State.markEntries_sdg]

/-- After the first n entries, NB_UNTRUSTED is added in those of them that hold a round among those named. -/
theorem State.markEntries_flag (n i : Nat) :
    (s.markEntries first last n).flag (fSDG_LOG_i_NB_UNTRUSTED i) = true ↔
      s.flag (fSDG_LOG_i_NB_UNTRUSTED i) = true ∨ (i < n ∧ s.holdsNamed first last i = true) := by
  induction n with
  | zero => simp [State.markEntries, forRange]
  | succ n ih =>
    rw [State.markEntries_succ]
    by_cases hi : i = n
    · subst hi
      simp [State.markEntry_flag, ih, State.markEntries_holdsNamed]
    · have hother : ((s.markEntries first last n).markEntry first last n).fld (fSDG_LOG_i_NB_UNTRUSTED i) =
          (s.markEntries first last n).fld (fSDG_LOG_i_NB_UNTRUSTED i) :=
        State.fld_congr (State.markEntry_reg _ _ _ fun h => hi (rSDG_LOG_i_injective h))
      have hlt : i < n + 1 ↔ i < n := by omega
      rw [State.flag_congr hother, ih, hlt]

end

/-! ### The fault, and the whole of ROUND_STATUS -/

theorem State.sdgFault_frame (s : State) (code : Nat) : State.Frame [.regs, .out, .ic] (s.raise code) (s.sdgFault code) := by
  have hpend (src : Nat) : State.Frame [.regs, .out, .ic] (s.raise code) ((s.raise code).icPend src) :=
    State.icPend_keeps ((frame_keeps [.regs, .out, .ic] _).mono (by decide)) (State.Frame.refl _ _)
  exact ite_keeps (hpend 25) <| ite_keeps (hpend 27) <| ite_keeps (hpend 29) (hpend 28)

theorem State.sdgFault_sdg (s : State) (code : Nat) : (s.sdgFault code).sdg = s.sdg :=
  s.sdgFault_frame code .sdg (by decide)

theorem State.sdgFault_faultLog (s : State) (code : Nat) : (s.sdgFault code).faultLog = s.faultLog ++ [code] :=
  s.sdgFault_frame code .faultLog (by decide)

/-- The registers below those of the host interrupt controller stand when Sedge raises a fault. -/
theorem State.sdgFault_reg (s : State) (code : Nat) {off : Nat} (h : off < 0x2400000) :
    (s.sdgFault code).reg off = s.reg off := by
  have hic : ¬ icOffset off := by unfold icOffset; omega
  have hpend (src : Nat) : ((s.raise code).icPend src).reg off = s.reg off := reg_icPend _ src hic
  unfold State.sdgFault
  split_ifs
  · exact hpend 25
  · exact hpend 27
  · exact hpend 29
  · exact hpend 28

section
variable (s : State) (k first last : Nat)

theorem State.sdgRoundStatus_sdg : (s.sdgRoundStatus k first last).sdg = s.sdg := by
  rw [State.sdgRoundStatus_eq, State.sdgFault_sdg, State.incSat, State.setFld_sdg, State.markEntries_sdg]

theorem State.sdgRoundStatus_faultLog : (s.sdgRoundStatus k first last).faultLog = s.faultLog ++ [0x0703] := by
  rw [State.sdgRoundStatus_eq, State.sdgFault_faultLog, State.incSat, State.setFld_faultLog, State.markEntries_faultLog]

/-- Of the registers below the interrupt controller, only those of the log and of the neighbour change. -/
theorem State.sdgRoundStatus_reg {off : Nat} (hic : off < 0x2400000) (hk : off ≠ rSDG_NBk_STATUS k) :
    (s.sdgRoundStatus k first last).reg off = (s.markEntries first last 64).reg off := by
  rw [State.sdgRoundStatus_eq, State.sdgFault_reg _ _ hic, reg_incSat_of_ne _ _ hk]

/-- A field of an entry of the log is as the marks leave it. -/
theorem State.sdgRoundStatus_logFlag {i : Nat} (hi : i < 64) (hk : k < 6) {f : Fld} (hf : f.off = rSDG_LOG_i i) :
    (s.sdgRoundStatus k first last).flag f = (s.markEntries first last 64).flag f := by
  have hic : f.off < 0x2400000 := by rw [hf, rSDG_LOG_i]; omega
  have hother : f.off ≠ rSDG_NBk_STATUS k := by rw [hf, rSDG_LOG_i, rSDG_NBk_STATUS]; omega
  exact State.flag_congr (State.fld_congr (s.sdgRoundStatus_reg k first last hic hother))

theorem State.sdgRoundStatus_nbUntr (hk : k < 6) :
    (s.sdgRoundStatus k first last).fld (fSDG_NBk_STATUS_NB_UNTR k) = min (s.fld (fSDG_NBk_STATUS_NB_UNTR k) + 1) 255 := by
  have hic : (fSDG_NBk_STATUS_NB_UNTR k).off < 0x2400000 := by
    simp only [fSDG_NBk_STATUS_NB_UNTR, rSDG_NBk_STATUS]
    omega
  have hmarked : (s.markEntries first last 64).fld (fSDG_NBk_STATUS_NB_UNTR k) = s.fld (fSDG_NBk_STATUS_NB_UNTR k) :=
    s.markEntries_fld first last 64 (by simp [fSDG_NBk_STATUS_NB_UNTR]) (Or.inl (by simp [fSDG_NBk_STATUS_NB_UNTR]))
  rw [State.sdgRoundStatus_eq, State.fld_congr (State.sdgFault_reg _ _ hic),
    fld_incSat _ (by simp [fSDG_NBk_STATUS_NB_UNTR]) (by simp [fSDG_NBk_STATUS_NB_UNTR]), hmarked]
  rfl

end

/-- Settles O36: the flit is delivered to ROUND_STATUS, which marks the log and counts, and its fault leaves both. -/
theorem roundStatusMarksTheLog : Obligations.RoundStatusMarksTheLog := by
  intro q h x k s hpowered henabled hnode hk harrives named
  obtain ⟨port, hreceive⟩ := State.receiveFlit_of_arrives harrives fun t => t.sdgMessage h.src.toNat (sedgePayload 3 x)
  rw [State.sdgMessage_roundStatus (s := s.setCwPort q.val port) hpowered henabled hnode] at hreceive
  refine ⟨_, exec_roundStatus q h x s, ?_⟩
  rw [hreceive]
  refine ⟨fun i hi => ?_, State.sdgRoundStatus_nbUntr _ _ _ _ hk, State.sdgRoundStatus_faultLog .., fun i hi => ?_, ?_,
    State.sdgRoundStatus_sdg .., fun n hn => ?_⟩
  · rw [State.sdgRoundStatus_logFlag _ _ _ _ hi hk rfl, State.markEntries_flag, State.holdsNamed_iff, and_iff_right hi]
    rfl
  · rw [State.sdgRoundStatus_logFlag _ _ _ _ hi hk rfl]
    exact State.flag_congr (State.markEntries_fld _ _ _ _ le_rfl (Or.inl (by decide : 25 < 29)))
  · exact (State.sdgRoundStatus_reg _ _ _ _ (by decide) (by unfold rSDG_UNTRUSTED rSDG_NBk_STATUS; omega)).trans
      (State.markEntries_reg _ _ _ _ (by decide))
  · have hframe : rSDG_FRAME_q n < 0x2003000 := by unfold rSDG_FRAME_q; omega
    exact (State.sdgRoundStatus_reg _ _ _ _ (hframe.trans (by decide))
      (by unfold rSDG_FRAME_q rSDG_NBk_STATUS; omega)).trans (State.markEntries_reg _ _ _ _ hframe)

end Sys2Proof.Machine
end
